-- ==== Sys2Proof/Word.lean ====
section
/-! DEFINITION. The plain numbers of the ES4162: bytes, signalling words, station numbers, drops, handles, indices,
classes, tags, serials, parities and connection references (00_scope.md, Terms and Principal numbers). -/

namespace Sys2Proof

/-- One byte of the register window. -/
abbrev Byte := BitVec 8

/-- One 16-bit signalling word (R191). -/
abbrev Word := BitVec 16

/-- The 32-bit identity a station gives itself (00_scope.md, Terms). -/
abbrev StationNumber := BitVec 32

/-- One of the sixteen attachment points. -/
abbrev Drop := Fin 16

/-- The number 0 to 47 of a station record (R70). -/
abbrev Handle := Fin 48

/-- The number 0 to 31 of a connection record (R20). -/
abbrev Index := Fin 32

/-- A class, 0 the highest (R121). -/
abbrev ClassNo := Fin 4

/-- The tag an originator puts in its REQUEST. -/
abbrev Tag := Fin 16

/-- The serial of a connection index; it wraps from 7 to 0 (R21). -/
abbrev Serial := BitVec 3

/-- A superframe parity: `false` is 0, `true` is 1 (R2). -/
abbrev Parity := Bool

/-- The name of a connection, index and serial (R20). C5.2 is index 5, serial 2. -/
structure Reference where
  index : Index
  serial : Serial
  deriving DecidableEq, Repr

end Sys2Proof
end

