-- ==== Sys2Proof/Syntax.lean ====
section
/-! DEFINITION. The commands of the ES4162: one constructor for each row of spec/opcode_table.json. A command is one
step of the part, whole and indivisible (95_what_each_step_holds.md). The operands are what the event brings with it
from outside; a host command brings none, because its arguments stand in the argument area (R172). -/

namespace Sys2Proof

/-- KIND of a station: END or RELAY (R70). -/
inductive StationKind where
  | endStation
  | relay
  deriving DecidableEq, Repr

/-- One entry of a ROSTER_PART as reported: number, KIND and a TIER of three bits (R93, R192). -/
structure RosterEntry where
  number : StationNumber
  kind : StationKind
  tier : Fin 8
  deriving DecidableEq, Repr

/-- What happens on the SPI pins in a REGISTER_WRITE (R167): SCS falls, the address byte is complete, a data byte is complete,
SCS rises; or SCS falls, the address byte given is complete and a data byte is complete, with nothing in between. -/
inductive SpiEvent where
  | select
  | address
  | data
  | deselect
  | first (address : Byte)
  deriving DecidableEq, Repr

/-- The commands, in the order of spec/opcode_table.json. -/
inductive Instr where
  /-- POWER_UP (R166). -/
  | powerUp
  /-- RST_LOW (R166). -/
  | rstLow
  /-- RST_HIGH (R166). -/
  | rstHigh
  /-- RESET_RELEASE (R1). -/
  | resetRelease
  /-- FRAME_START (R1). -/
  | frameStart
  /-- UPLINK_GRANT (R137), with the levels of DRQ0 to DRQ15 at the boundary (bit n is drop n). -/
  | uplinkGrant (drq : BitVec 16)
  /-- UPLINK_HEADER (R139), with the word sampled on HDI. -/
  | uplinkHeader (word : Word)
  /-- DRQ_FALL (R141) of one drop's request line. -/
  | drqFall (drop : Drop)
  /-- DPR_FALL (R135) of one drop's presence line, as the Uplink Arbiter takes it. -/
  | dprFall (drop : Drop)
  /-- PRESENCE_LOSS (R81): the same fall as the Directory takes it. -/
  | presenceLoss (drop : Drop)
  /-- DPR_RISE (R135). -/
  | dprRise (drop : Drop)
  /-- MESSAGE_DEPARTURE (R151). -/
  | messageDeparture
  /-- ATTACH (R76): the window's drop, the number the station gives itself, its KIND and the CLASS it asks for. -/
  | attach (drop : Drop) (source : StationNumber) (kind : StationKind) (cls : ClassNo)
  /-- DETACH (R80). -/
  | detach (drop : Drop) (source : StationNumber)
  /-- REQUEST (R26); the width field is four bits (R192). -/
  | request (drop : Drop) (source peer : StationNumber) (cls : ClassNo) (contiguous : Bool) (width : Fin 16) (tag : Tag)
  /-- ACCEPT (R30). -/
  | accept (drop : Drop) (source : StationNumber) (reference : Reference)
  /-- DECLINE (R31). -/
  | decline (drop : Drop) (source : StationNumber) (reference : Reference)
  /-- RENEW (R35). -/
  | renew (drop : Drop) (source : StationNumber) (reference : Reference)
  /-- RELEASE (R34). -/
  | release (drop : Drop) (source : StationNumber) (reference : Reference)
  /-- QUERY (R43). -/
  | query (drop : Drop) (source : StationNumber)
  /-- CANCEL (R59). -/
  | cancel (drop : Drop) (source : StationNumber) (tag : Tag)
  /-- ROSTER_BEGIN (R94). -/
  | rosterBegin (drop : Drop) (source : StationNumber) (generation : Byte) (count : Fin 16) (depth : Fin 4)
      (depthExceeded countExceeded : Bool)
  /-- ROSTER_PART (R96): the part index of six bits and the entries. -/
  | rosterPart (drop : Drop) (source : StationNumber) (partIndex : Fin 64) (entries : List RosterEntry)
  /-- ROSTER_END (R98). -/
  | rosterEnd (drop : Drop) (source : StationNumber) (generation : Byte)
  /-- GUARD_END (R15). -/
  | guardEnd
  /-- LEASE_COUNTDOWN_WALK (R36). -/
  | leaseCountdownWalk
  /-- LEASE_EXPIRY (R37). -/
  | leaseExpiry
  /-- ANSWER_EXPIRY (R38). -/
  | answerExpiry
  /-- QUEUE_DEADLINE_WALK (R57). -/
  | queueDeadlineWalk
  /-- QUEUE_TIMEOUT (R57). -/
  | queueTimeout
  /-- ROSTER_DEADLINE_WALK (R107). -/
  | rosterDeadlineWalk
  /-- ROSTER_DEADLINE_EXPIRY (R108). -/
  | rosterDeadlineExpiry
  /-- SPI_READ_CAPTURE (R169): a transaction's address byte (R194) and the number of whole data bytes after it. -/
  | spiReadCapture (address : Byte) (length : Nat)
  /-- REGISTER_WRITE (R168): one event of an SPI transaction, with the byte it completes; an edge of SCS completes none. -/
  | registerWrite (event : SpiEvent) (value : Byte)
  /-- NOTIFY_PENDING_WRITE (R187): a one-byte write transaction to 05h (`high`) or 06h. -/
  | notifyPendingWrite (high : Bool) (value : Byte)
  /-- NOTIFY_ENABLE_WRITE (R188): a one-byte write transaction to 07h (`high`) or 08h. -/
  | notifyEnableWrite (high : Bool) (value : Byte)
  /-- COMMAND_COLLISION (R173): a one-byte write transaction to the command byte. -/
  | commandCollision (code : Byte)
  /-- COMMAND_COMPLETION (R174). -/
  | commandCompletion
  /-- UNKNOWN_COMMAND (R175): a one-byte write transaction of a code that names no command. -/
  | unknownCommand (code : Byte)
  /-- OPEN (R157). -/
  | openHighway
  /-- DRAIN (R159); `waitQueueFirst` is the order in which the two blocks take their parts (R159 step 3). -/
  | drain (waitQueueFirst : Bool)
  /-- CLOSE (R163). -/
  | close
  /-- RESET (R177). -/
  | reset
  /-- READ_STATION (R178). -/
  | readStation
  /-- READ_CONNECTION (R179). -/
  | readConnection
  /-- READ_SLOTS (R180). -/
  | readSlots
  /-- READ_QUEUE (R181). -/
  | readQueue
  /-- READ_DENY (R118). -/
  | readDeny
  /-- READ_POLICY (R130). -/
  | readPolicy
  /-- DENY_ADD (R115). -/
  | denyAdd
  /-- DENY_REMOVE (R117). -/
  | denyRemove
  /-- EVICT (R86). -/
  | evict
  /-- SET_QUOTA (R88). -/
  | setQuota
  /-- PIN (R39). -/
  | pin
  /-- UNPIN (R40). -/
  | unpin
  /-- FORCE_RELEASE (R41). -/
  | forceRelease
  /-- SET_POLICY (R128). -/
  | setPolicy
  /-- SET_TIMING (R129). -/
  | setTiming
  /-- UPLINK_WORD (R140), with the word sampled on HDI. -/
  | uplinkWord (word : Word)
  deriving DecidableEq, Repr

end Sys2Proof
end

