-- ==== Sys2Proof/Decode.lean ====
section
/-! DEFINITION. The command that a word spells by the bits of spec/opcode_table.json. No row of that table gives bits
(98_reader.md: 59 rows, none with fields), so no word spells a command. The bits the spec itself gives, of signalling
messages and of host commands, are read in Machine/Operands.lean. -/

namespace Sys2Proof

/-- The command read from a word numbered as the table numbers it: none, since the table gives no row bits. -/
def decodeTableWord (_nbits _w : Nat) : Option Instr := none

end Sys2Proof
end

