-- ==== Sys2Proof/Config.lean ====
section
/-! DEFINITION. The quantities the ES4162 fixes (00_scope.md, Principal numbers) and the defaults of the Class Policy Table
(R121, R122). The spec calls no value undefined, so there is no free value here. -/

namespace Sys2Proof.Config

/-- Most entries of the Wait Queue (R50). -/
def queueCapacity : Nat := 16

/-- Most entries of the Deny List (R113). -/
def denyCapacity : Nat := 24

/-- Most messages the Downlink Queue holds (R145). -/
def downlinkCapacity : Nat := 40

/-- Free entries that a station-addressed or drop-addressed message needs (R147). -/
def downlinkAdmission : Nat := 3

/-- Free entries that a grant needs (R137). -/
def grantThreshold : Nat := 12

/-- Connections one station may be party to (R22, R26). -/
def partyLimit : Nat := 8

/-- Parts one roster run may carry (R93). -/
def partLimit : Nat := 5

/-- IDENT, part code (R194). -/
def partCode : Byte := 0x62

/-- IDENT, revision (R194). -/
def revision : Byte := 0x01

/-- One record of the Class Policy Table (R121). -/
structure ClassPolicy where
  leasePeriod : Nat
  maxWidth : Nat
  defaultQuota : Nat
  queuePeriod : Nat
  mayPreempt : Bool
  deriving DecidableEq, Repr

/-- The defaults that full reset gives the four class records (R121). -/
def defaultPolicy : Vector ClassPolicy 4 :=
  #v[⟨240, 8, 16, 64, true⟩, ⟨240, 4, 8, 32, true⟩, ⟨120, 4, 8, 32, false⟩, ⟨60, 2, 4, 0, false⟩]

/-- Default ANSWER PERIOD (R122). -/
def defaultAnswerPeriod : Nat := 4

/-- Default ROSTER PERIOD (R122). -/
def defaultRosterPeriod : Nat := 16

end Sys2Proof.Config
end

