-- ==== Sys2Proof/Machine/State.lean ====
section
/-! DEFINITION. The state of the ES4162 as plain data: the record types of the spec's chapters, the State, the reasons a
step can stop, and the machine right after full reset. -/

namespace Sys2Proof.Machine

open Sys2Proof.Config (ClassPolicy)

/-- HIGHWAY STATE (R156). -/
inductive HighwayState where
  | closed
  | opened
  | draining
  deriving DecidableEq, Repr

/-- The reasons of section 11.4, in the order of their codes 01h to 36h. -/
inductive Reason where
  | denied | duplicate | dropOccupied | directoryFull | badNumber | highwayClosed | highwayDraining | notAdmitted
  | misrouted | notReady | alreadyQueued | selfPeer | peerUnknown | peerNotReady | badClass | badWidth
  | connectionLimit | quota
  | noSlots | queueDisplaced | queueTimeout | cancelled | notQueued | peerGone | unknownConnection | notParty
  | notOriginator | notAnswerer | wrongState | pinned | declined | noAnswer | byOriginator | byAnswerer | expired
  | preempted
  | departed | evicted | forced | drained | rosterFault | notTopRelay | rosterManaged | sequence | malformed | depth
  | count | deniedEntry | duplicateEntry | noRoom | host | rosterTimeout | checkWord | truncated
  deriving DecidableEq, Repr

/-- The result codes of R175. -/
inductive Result where
  | ok | unknownCommand | badArgument | notFound | listFull | alreadyListed | slotBusy | tableFull | wrongState
  | partyLimit | notAdmitted
  deriving DecidableEq, Repr

/-- A countdown with the parity it is kept against (R3). -/
structure Countdown where
  remaining : Nat
  superframe : Parity
  deriving DecidableEq, Repr

/-- One slot record (R5): STATE, with OWNER and GUARD SUPERFRAME present exactly where R5 has them. -/
inductive SlotRecord where
  | free
  | guard (owner : Option Index) (superframe : Parity)
  | reserved (owner : Index)
  | held (owner : Index)
  deriving DecidableEq, Repr

/-- STATE of a connection record (R20). -/
inductive ConnectionState where
  | pending
  | offered
  | active
  deriving DecidableEq, Repr

/-- An in-use connection record (R20). REMAINING and COUNTDOWN SUPERFRAME are `countdown`. The REFERENCE is the record's
index with the index's serial (R21). -/
structure Connection where
  state : ConnectionState
  pinned : Bool
  originator : Handle
  answerer : Handle
  cls : ClassNo
  width : Nat
  contiguous : Bool
  tag : Tag
  slotList : List Nat
  countdown : Option Countdown
  deriving DecidableEq, Repr

/-- A Wait Queue entry (R50). -/
structure Entry where
  source : Handle
  peerNumber : StationNumber
  peer : Handle
  cls : ClassNo
  width : Nat
  contiguous : Bool
  tag : Tag
  countdown : Countdown
  deriving DecidableEq, Repr

/-- STATE of a station record (R71). -/
inductive StationState where
  | admitted
  | rosterPending
  | rosterFault
  deriving DecidableEq, Repr

/-- A station record (R70). USAGE and PARTY COUNT are derived from the Connection Table (R22). -/
structure Station where
  number : StationNumber
  kind : StationKind
  drop : Drop
  via : Option Handle
  tier : Nat
  cls : ClassNo
  state : StationState
  quota : Nat
  syncOwed : Bool
  roster : Option (List Handle)
  generation : Option Byte
  deadline : Option Countdown
  deriving DecidableEq, Repr

/-- A roster assembly (R93). -/
structure Assembly where
  generation : Byte
  declaredCount : Nat
  declaredDepth : Nat
  partsReceived : Nat
  entries : List RosterEntry
  deriving DecidableEq, Repr

/-- A Deny List entry (R113). -/
structure DenyEntry where
  number : StationNumber
  code : Byte
  hits : Nat
  deriving DecidableEq, Repr

/-- The role of a party in a connection (R23). -/
inductive Role where
  | originator
  | answerer
  deriving DecidableEq, Repr

/-- What a downlink message carries, by kind (R193). Its words follow from it and from the DESTINATION (R146). -/
inductive DownBody where
  | welcome (handle : Handle) (quota : Nat) (cls : ClassNo) (rosterRequired : Bool)
  /-- A station-addressed REFUSE. -/
  | refuse (reason : Reason) (tag : Option Tag) (reference : Option Reference)
  /-- A drop-addressed REFUSE, with the station number the refused message gave. -/
  | refuseDrop (reason : Reason) (tag : Option Tag) (reference : Option Reference) (number : StationNumber)
  | queued (tag : Tag)
  | offer (reference : Reference) (originator : StationNumber) (cls : ClassNo) (width : Nat) (contiguous : Bool)
      (slots : List Nat) (answer : Nat)
  | grant (reference : Reference) (role : Role) (other : StationNumber) (cls : ClassNo) (tag : Tag) (width : Nat)
      (slots : List Nat) (lease : Nat)
  | renewed (reference : Reference) (lease : Nat)
  | released (reference : Reference) (reason : Reason)
  | status (reference : Reference) (state : ConnectionState) (role : Role) (other : StationNumber) (cls : ClassNo)
      (width : Nat) (contiguous : Bool) (slots : List Nat) (pinned : Bool) (remaining : Nat) (tag : Tag)
  /-- STATUS_END; `queued` is the tag of the source's queue entry. -/
  | statusEnd (count : Nat) (queued : Option Tag)
  | rosterOk (generation : Byte) (admitted : Nat)
  | rosterReject (generation : Byte) (reason : Reason)
  | evicted (reason : Reason)
  | sync
  | nak (reason : Reason) (kind : BitVec 6)
  | resetAll
  | highwayState (state : HighwayState)
  deriving DecidableEq, Repr

/-- A message held in the Downlink Queue (R145). -/
structure DownMessage where
  destination : StationNumber
  body : DownBody
  deriving DecidableEq, Repr

/-- The causes that hold the part in full reset (R166): the supply not yet stable since power-up, RST low, and a host RESET
whose next frame start has not come. -/
structure Hold where
  supply : Bool
  rst : Bool
  host : Bool
  deriving DecidableEq, Repr

/-- No cause holds the part in full reset. -/
abbrev Hold.running : Hold := ⟨false, false, false⟩

/-- The Frame Timer (R1, R2). `firstFrameDue`: full reset has been released and the first frame has not started.
`hfsPulses` counts the pulses given on HFS. -/
structure Timer where
  position : Fin 64
  parity : Parity
  firstFrameDue : Bool
  hfsPulses : Nat
  deriving DecidableEq, Repr

/-- The superframe-boundary events that the four blocks of R2 have not yet taken. -/
structure Boundary where
  guardEnd : Bool
  leaseWalk : Bool
  queueWalk : Bool
  rosterWalk : Bool
  deriving DecidableEq, Repr

/-- Where a boundary walk stands because a countdown has just reached 0: its expiry is taken at once, before the walk
moves on (R36, R57, R107). -/
inductive Expiry where
  | connection (index : Index)
  | entry (position : Nat)
  | relay (handle : Handle)
  deriving DecidableEq, Repr

/-- The window of the Uplink Arbiter (R136). In RECEIVING the words taken so far stand in order, header first; WORDS
RECEIVED is their number, and it is 0 in GRANTED. -/
inductive Window where
  | idle
  | granted (drop : Drop)
  | receiving (drop : Drop) (expected : Nat) (words : List Word)
  deriving DecidableEq, Repr

/-- The Uplink Arbiter and Receiver (R136). `grantDue`: this frame's boundary is still to be considered (R137).
`wordDue`: slot 1 of this frame belongs to the open window and has not been taken (R138). -/
structure Arbiter where
  pointer : Drop
  window : Window
  grantDue : Bool
  wordDue : Bool
  deriving DecidableEq, Repr

/-- The Downlink Queue (R145, R149). `wordsSent` is present while the head is in transmission. `hdo` is the word driven in
slot 0 of the current frame. -/
structure Downlink where
  held : List DownMessage
  wordsSent : Option Nat
  hdo : Option Word
  deriving DecidableEq, Repr

/-- The command mailbox (R172, R174): no command, a command latched and not yet taken by its owner, or a command whose
work is done and whose completion is still to come. -/
inductive Mailbox where
  | idle
  | latched
  | done (result : Result) (readout : Vector Byte 32)
  deriving DecidableEq, Repr

/-- The registers of the Host Port (R170, R172, R184, R188). -/
structure Port where
  arguments : Vector Byte 20
  latched : Vector Byte 20
  command : Byte
  mailbox : Mailbox
  collided : Bool
  result : Result
  readout : Vector Byte 32
  enables : BitVec 10
  deriving DecidableEq, Repr

/-- An SPI transaction, SCS low (R167): its address byte still to come, a write transaction with the current address, or a
read transaction with the current address. `discarded`: full reset was held at some moment of it, so that no byte of it is
written (R168, R189). -/
inductive SpiTransaction where
  | addressing (discarded : Bool)
  | writing (address : BitVec 6) (discarded : Bool)
  | reading (address : BitVec 6)
  deriving DecidableEq, Repr

/-- The SPI target (R167, R169): the transaction in progress, the window captured for the last read transaction and the
bytes that transaction has driven on SDO. -/
structure Spi where
  transaction : Option SpiTransaction
  capture : Vector Byte 64
  sdo : List Byte
  deriving DecidableEq, Repr

/-- Input lines: DPR0 to DPR15 as they are, DRQ0 to DRQ15 as last sampled (R134). Bit n is drop n. -/
structure Pins where
  dpr : BitVec 16
  drq : BitVec 16
  deriving DecidableEq, Repr

/-- The whole part, and the queue of the commands that are waiting. -/
structure State where
  /-- The commands waiting, first in, first out. -/
  pending : List Instr
  hold : Hold
  timer : Timer
  owed : Boundary
  due : Option Expiry
  /-- The 62 bearer slots; wire number n stands at n - 2 (R5). -/
  slots : Vector SlotRecord 62
  connections : Vector (Option Connection) 32
  serials : Vector Serial 32
  waitQueue : List Entry
  stations : Vector (Option Station) 48
  assemblies : Vector (Option Assembly) 48
  denyList : List DenyEntry
  policy : Vector ClassPolicy 4
  answerPeriod : Nat
  rosterPeriod : Nat
  arbiter : Arbiter
  /-- Good messages handed on and not yet taken by their block (R143). Each stands here until its row comes (DESIGN CHOICE:
  notes/assumptions/27.md). -/
  handedOn : List Instr
  downlink : Downlink
  highway : HighwayState
  port : Port
  /-- NOTIFY PENDING (R186). -/
  flags : BitVec 10
  directoryChanges : BitVec 16
  connectionChanges : BitVec 16
  spi : Spi
  pins : Pins
  deriving DecidableEq, Repr

/-- Why a step can stop with a fault: the ES4162 has no such reason, so there is no constructor. -/
inductive Fault
  deriving DecidableEq, Repr

/-- Why a step can be refused. -/
inductive Refusal where
  /-- A command without a meaning. Raised by no arm of `exec`; stopping so would be safe. -/
  | notModelled (mnemonic : String)
  deriving DecidableEq, Repr

/-- The RESET_ALL that the Downlink Queue holds at the release of full reset (R145, R154). -/
def resetAllMessage : DownMessage := ⟨0xFFFFFFFF, .resetAll⟩

/-- The part at the release of full reset, the first frame not yet started (R1, R19, R49, R62, R91, R112, R120, R133, R136,
R145, R156, R189). Lines, SPI capture and HDO: DESIGN CHOICE, notes/assumptions/9.md. -/
def State.reset : State where
  pending := []
  hold := .running
  timer := ⟨0, false, true, 0⟩
  owed := ⟨false, false, false, false⟩
  due := none
  slots := Vector.replicate 62 .free
  connections := Vector.replicate 32 none
  serials := Vector.replicate 32 0
  waitQueue := []
  stations := Vector.replicate 48 none
  assemblies := Vector.replicate 48 none
  denyList := []
  policy := Config.defaultPolicy
  answerPeriod := Config.defaultAnswerPeriod
  rosterPeriod := Config.defaultRosterPeriod
  arbiter := ⟨15, .idle, false, false⟩
  handedOn := []
  downlink := ⟨[resetAllMessage], none, none⟩
  highway := .closed
  port :=
    { arguments := Vector.replicate 20 0
      latched := Vector.replicate 20 0
      command := 0
      mailbox := .idle
      collided := false
      result := .ok
      readout := Vector.replicate 32 0
      enables := 0 }
  flags := 0
  directoryChanges := 0
  connectionChanges := 0
  spi := ⟨none, Vector.replicate 64 0, []⟩
  pins := ⟨0, 0⟩

end Sys2Proof.Machine
end

