-- ==== Sys2Proof/Machine/Formats.lean ====
section
/-! DEFINITION. The codes and layouts of chapter 11 that stand on the wire: reason, result and state codes, the check word,
the words of every downlink message. -/

namespace Sys2Proof

/-- A reference in one byte: serial in bits 7 to 5, index in bits 4 to 0 (R191). -/
def Reference.byte (r : Reference) : Byte := r.serial ++ BitVec.ofNat 5 r.index.val

/-- The reference a byte names; every byte names one (R183, R191). -/
def Reference.ofByte (b : Byte) : Reference := ⟨(b.extractLsb' 0 5).toFin, b.extractLsb' 5 3⟩

end Sys2Proof

namespace Sys2Proof.Machine

/-- Section 11.4. -/
def Reason.code : Reason → BitVec 6
  | .denied => 0x01
  | .duplicate => 0x02
  | .dropOccupied => 0x03
  | .directoryFull => 0x04
  | .badNumber => 0x05
  | .highwayClosed => 0x06
  | .highwayDraining => 0x07
  | .notAdmitted => 0x08
  | .misrouted => 0x09
  | .notReady => 0x0A
  | .alreadyQueued => 0x0B
  | .selfPeer => 0x0C
  | .peerUnknown => 0x0D
  | .peerNotReady => 0x0E
  | .badClass => 0x0F
  | .badWidth => 0x10
  | .connectionLimit => 0x11
  | .quota => 0x12
  | .noSlots => 0x13
  | .queueDisplaced => 0x14
  | .queueTimeout => 0x15
  | .cancelled => 0x16
  | .notQueued => 0x17
  | .peerGone => 0x18
  | .unknownConnection => 0x19
  | .notParty => 0x1A
  | .notOriginator => 0x1B
  | .notAnswerer => 0x1C
  | .wrongState => 0x1D
  | .pinned => 0x1E
  | .declined => 0x1F
  | .noAnswer => 0x20
  | .byOriginator => 0x21
  | .byAnswerer => 0x22
  | .expired => 0x23
  | .preempted => 0x24
  | .departed => 0x25
  | .evicted => 0x26
  | .forced => 0x27
  | .drained => 0x28
  | .rosterFault => 0x29
  | .notTopRelay => 0x2A
  | .rosterManaged => 0x2B
  | .sequence => 0x2C
  | .malformed => 0x2D
  | .depth => 0x2E
  | .count => 0x2F
  | .deniedEntry => 0x30
  | .duplicateEntry => 0x31
  | .noRoom => 0x32
  | .host => 0x33
  | .rosterTimeout => 0x34
  | .checkWord => 0x35
  | .truncated => 0x36

/-- Result codes (R195). -/
def Result.code : Result → Byte
  | .ok => 0x00
  | .unknownCommand => 0x01
  | .badArgument => 0x02
  | .notFound => 0x03
  | .listFull => 0x04
  | .alreadyListed => 0x05
  | .slotBusy => 0x06
  | .tableFull => 0x07
  | .wrongState => 0x08
  | .partyLimit => 0x09
  | .notAdmitted => 0x0A

/-- 0 CLOSED, 1 OPEN, 2 DRAINING (R191, R194). -/
def HighwayState.code : HighwayState → Nat
  | .closed => 0
  | .opened => 1
  | .draining => 2

/-- 0 PENDING, 1 OFFERED, 2 ACTIVE (R193, R195). -/
def ConnectionState.code : ConnectionState → Nat
  | .pending => 0
  | .offered => 1
  | .active => 2

/-- 0 ADMITTED, 1 ROSTER_PENDING, 2 ROSTER_FAULT (R195). -/
def StationState.code : StationState → Nat
  | .admitted => 0
  | .rosterPending => 1
  | .rosterFault => 2

/-- 0 FREE, 1 GUARD, 2 RESERVED, 3 HELD (R195). -/
def SlotRecord.code : SlotRecord → Nat
  | .free => 0
  | .guard _ _ => 1
  | .reserved _ => 2
  | .held _ => 3

/-! ### The check word (R140, R191) -/

/-- One bit of the string, compared with bit 15 of the register. -/
def crcBit (register : BitVec 16) (bit : Bool) : BitVec 16 :=
  if bit = register.msb then register <<< 1 else (register <<< 1) ^^^ 0x1021

/-- The sixteen bits of one word, bit 15 first. -/
def crcWord (register : BitVec 16) (w : Word) : BitVec 16 :=
  [15, 14, 13, 12, 11, 10, 9, 8, 7, 6, 5, 4, 3, 2, 1, 0].foldl (fun r k => crcBit r (w.getLsbD k)) register

/-- The check word over the words in the order sent. -/
def crc (words : List Word) : Word := words.foldl crcWord 0xFFFF

/-! ### Downlink messages (R146, R191, R193) -/

/-- A header word: KIND, LENGTH and AUX. -/
def headerWord (kind : BitVec 6) (length : Nat) (aux : BitVec 6) : Word := kind ++ BitVec.ofNat 4 length ++ aux

def highWord (n : StationNumber) : Word := n.extractLsb' 16 16

def lowWord (n : StationNumber) : Word := n.extractLsb' 0 16

/-- A slot list, two slot numbers to a word (R191). -/
def slotWords : List Nat → List Word
  | [] => []
  | [a] => [BitVec.ofNat 8 a ++ (0 : BitVec 8)]
  | a :: b :: rest => (BitVec.ofNat 8 a ++ BitVec.ofNat 8 b) :: slotWords rest

/-- Bit of a role: 0 originator, 1 answerer. -/
def Role.bit : Role → BitVec 1
  | .originator => 0
  | .answerer => 1

/-- KIND codes of downlink messages (R191). -/
def DownBody.kind : DownBody → BitVec 6
  | .welcome .. => 0x20
  | .refuse .. => 0x21
  | .refuseDrop .. => 0x21
  | .queued _ => 0x22
  | .offer .. => 0x23
  | .grant .. => 0x24
  | .renewed .. => 0x25
  | .released .. => 0x26
  | .status .. => 0x27
  | .statusEnd .. => 0x28
  | .rosterOk .. => 0x29
  | .rosterReject .. => 0x2A
  | .evicted _ => 0x2B
  | .sync => 0x2C
  | .nak .. => 0x2D
  | .resetAll => 0x2E
  | .highwayState _ => 0x2F

/-- The AUX field: a reason, a width, a tag, a state, or 0 (R191, R193). -/
def DownBody.aux : DownBody → BitVec 6
  | .refuse reason _ _ => reason.code
  | .refuseDrop reason _ _ _ => reason.code
  | .queued tag => BitVec.ofNat 6 tag.val
  | .offer _ _ _ width _ _ _ => BitVec.ofNat 6 width
  | .grant _ _ _ _ _ width _ _ => BitVec.ofNat 6 width
  | .released _ reason => reason.code
  | .status _ _ _ _ _ width _ _ _ _ _ => BitVec.ofNat 6 width
  | .rosterReject _ reason => reason.code
  | .evicted reason => reason.code
  | .nak reason _ => reason.code
  | .highwayState state => BitVec.ofNat 6 state.code
  | _ => 0

/-- Body word 1 of a REFUSE: tag present, reference present, tag, reference; an absent field is sent as 0. -/
def refuseWord (tag : Option Tag) (reference : Option Reference) : Word :=
  BitVec.ofBool tag.isSome ++ BitVec.ofBool reference.isSome ++ (0 : BitVec 2) ++
    BitVec.ofNat 4 ((tag.map (·.val)).getD 0) ++ (reference.map (·.byte)).getD 0

/-- The body words of each kind (R193). -/
def DownBody.words : DownBody → List Word
  | .welcome handle quota cls rosterRequired =>
    [BitVec.ofNat 6 handle.val ++ BitVec.ofNat 5 quota ++ BitVec.ofNat 2 cls.val ++ (0 : BitVec 2) ++
      BitVec.ofBool rosterRequired]
  | .refuse _ tag reference => [refuseWord tag reference]
  | .refuseDrop _ tag reference number => [refuseWord tag reference, highWord number, lowWord number]
  | .queued _ => []
  | .offer reference originator cls _ contiguous slots answer =>
    [reference.byte ++ BitVec.ofNat 4 answer ++ BitVec.ofNat 2 cls.val ++ (0 : BitVec 1) ++ BitVec.ofBool contiguous,
      highWord originator, lowWord originator] ++ slotWords slots
  | .grant reference role other cls tag _ slots lease =>
    [reference.byte ++ BitVec.ofNat 8 lease,
      role.bit ++ (0 : BitVec 1) ++ BitVec.ofNat 2 cls.val ++ BitVec.ofNat 4 tag.val ++ (0 : BitVec 8),
      highWord other, lowWord other] ++ slotWords slots
  | .renewed reference lease => [reference.byte ++ BitVec.ofNat 8 lease]
  | .released reference _ => [(0 : BitVec 8) ++ reference.byte]
  | .status reference state role other cls _ contiguous slots pinned remaining tag =>
    [reference.byte ++ BitVec.ofNat 8 remaining,
      BitVec.ofNat 2 state.code ++ role.bit ++ BitVec.ofBool pinned ++ BitVec.ofBool contiguous ++ (0 : BitVec 1) ++
        BitVec.ofNat 2 cls.val ++ (0 : BitVec 4) ++ BitVec.ofNat 4 tag.val,
      highWord other, lowWord other] ++ slotWords slots
  | .statusEnd count waiting =>
    [BitVec.ofNat 4 count ++ (0 : BitVec 3) ++ BitVec.ofBool waiting.isSome ++ (0 : BitVec 4) ++
      BitVec.ofNat 4 ((waiting.map (·.val)).getD 0)]
  | .rosterOk generation admitted => [generation ++ (0 : BitVec 4) ++ BitVec.ofNat 4 admitted]
  | .rosterReject generation _ => [generation ++ (0 : BitVec 8)]
  | .evicted _ => []
  | .sync => []
  | .nak _ kind => [(0 : BitVec 10) ++ kind]
  | .resetAll => []
  | .highwayState _ => []

/-- LENGTH of a message: header, DESTINATION, body and check word (R191). -/
def DownBody.length (b : DownBody) : Nat := b.words.length + 4

/-- The words before the check word. -/
def DownMessage.framed (m : DownMessage) : List Word :=
  [headerWord m.body.kind m.body.length m.body.aux, highWord m.destination, lowWord m.destination] ++ m.body.words

/-- The message as built and sent (R146). -/
def DownMessage.words (m : DownMessage) : List Word := m.framed ++ [crc m.framed]

end Sys2Proof.Machine
end

