-- ==== Sys2Proof/Machine/Flags.lean ====
section
/-! DEFINITION. The ten notification flags and their enables (R186 to R188), with their bits (R194). -/

namespace Sys2Proof.Machine

/-- The flags of NOTIFY PENDING (R186). -/
inductive Flag where
  | joined | left | lease | roster | refusal | denyHit | sync | drained | signal | command
  deriving DecidableEq, Repr

/-- The bit of each flag in NOTIFY PENDING and NOTIFY ENABLE (R194). -/
def Flag.bit : Flag → Nat
  | .joined => 0
  | .left => 1
  | .lease => 2
  | .roster => 3
  | .refusal => 4
  | .denyHit => 5
  | .sync => 6
  | .drained => 7
  | .signal => 8
  | .command => 9

/-- The flag's own bit alone. -/
def Flag.mask (f : Flag) : BitVec 10 := BitVec.twoPow 10 f.bit

/-- The event a flag names sets it, whether or not it is enabled and whether or not it is pending (R186). -/
def State.raise (f : Flag) (s : State) : State := { s with flags := s.flags ||| f.mask }

/-- Raise a flag where a condition holds. -/
def State.raiseIf (b : Bool) (f : Flag) (s : State) : State := if b then s.raise f else s

/-- The flag is pending. -/
def State.pendingFlag (s : State) (f : Flag) : Bool := s.flags.getLsbD f.bit

/-- The enable of the flag is set (R188). -/
def State.enabledFlag (s : State) (f : Flag) : Bool := s.port.enables.getLsbD f.bit

/-- The NOTIFY output: high while some flag is both pending and enabled (R188). -/
def State.notify (s : State) : Bool := s.flags &&& s.port.enables != 0

/-- The ten flag bits that one byte of a 16-bit flag register carries: the high byte carries bits 9 and 8 (R194). -/
def flagByte (high : Bool) (value : Byte) : BitVec 10 :=
  if high then value.setWidth 10 <<< 8 else value.setWidth 10

/-- The ten bits that a write of one byte reaches. -/
def flagByteMask (high : Bool) : BitVec 10 := flagByte high 0xFF

/-- NOTIFY PENDING: each 1 bit clears its flag, each 0 bit leaves it (R187). -/
def State.clearFlags (high : Bool) (value : Byte) (s : State) : State :=
  { s with flags := s.flags &&& ~~~flagByte high value }

/-- NOTIFY ENABLE: each enable stands as last written (R188). -/
def State.writeEnables (high : Bool) (value : Byte) (s : State) : State :=
  { s with port.enables := (s.port.enables &&& ~~~flagByteMask high) ||| flagByte high value }

end Sys2Proof.Machine
end

