-- ==== Sys2Proof/Machine/Ops.lean ====
section
/-! DEFINITION. The named operations over the State's tables: reading and writing records, the derived counts, the lookups
of the Directory, the change counters and the policy in force. -/

namespace Sys2Proof.Machine

open Sys2Proof.Config (ClassPolicy)

/-- The handles, ascending. -/
def allHandles : List Handle := List.finRange 48

/-- The connection indices, ascending. -/
def allIndices : List Index := List.finRange 32

/-- The wire numbers of the bearer slots, ascending (R5). -/
def bearerSlots : List Nat := List.range' 2 62

/-! ### Records -/

/-- The record a handle names, or nothing (R72). -/
def State.station (s : State) (h : Handle) : Option Station := s.stations[h]

def State.setStation (h : Handle) (r : Option Station) (s : State) : State :=
  { s with stations := s.stations.set h r }

/-- Change the record a handle names, if there is one. -/
def State.modifyStation (h : Handle) (f : Station → Station) (s : State) : State :=
  s.setStation h ((s.station h).map f)

/-- The connection record of an index, or nothing where it is unused (R20). -/
def State.connection (s : State) (i : Index) : Option Connection := s.connections[i]

def State.setConnection (i : Index) (c : Option Connection) (s : State) : State :=
  { s with connections := s.connections.set i c }

/-- The serial of an index (R21). -/
def State.serial (s : State) (i : Index) : Serial := s.serials[i]

/-- The REFERENCE of the record of an index: the index with its current serial (R21). -/
def State.referenceOf (s : State) (i : Index) : Reference := ⟨i, s.serial i⟩

/-- The slot record of a wire number; a number outside 2 to 63 names none (R5). -/
def State.slot (s : State) (n : Nat) : Option SlotRecord := if 2 ≤ n then s.slots[n - 2]? else none

/-- Every change of slot records: each record is replaced by what `f` makes of its wire number and itself. -/
def State.mapSlots (f : Nat → SlotRecord → SlotRecord) (s : State) : State :=
  { s with slots := s.slots.mapIdx fun k r => f (k + 2) r }

/-- The roster assembly kept for a relay (R93). -/
def State.assembly (s : State) (h : Handle) : Option Assembly := s.assemblies[h]

def State.setAssembly (h : Handle) (a : Option Assembly) (s : State) : State :=
  { s with assemblies := s.assemblies.set h a }

/-- The class record of a class (R121). -/
def State.classPolicy (s : State) (k : ClassNo) : ClassPolicy := s.policy[k]

/-! ### Countdowns (R3, R4) -/

/-- A countdown set now: it is kept against the parity of the superframe the event belongs to (R3). -/
def State.countdownOf (s : State) (period : Nat) : Countdown := ⟨period, s.timer.parity⟩

/-- At a boundary, a countdown is lowered when it is kept against the superframe the boundary ends. After the frame start
of the boundary that is the other parity than the timer's (R2, R3). -/
def State.counts (s : State) (d : Countdown) : Bool := d.superframe != s.timer.parity

/-- Lowered by one and kept against the superframe the boundary begins (R36, R57, R107). -/
def State.lowered (s : State) (d : Countdown) : Countdown := ⟨d.remaining - 1, s.timer.parity⟩

/-! ### Change counters (R185) -/

/-- DIRECTORY CHANGES advances by `n`, wrapping (R73). -/
def State.bumpDirectory (n : Nat) (s : State) : State :=
  { s with directoryChanges := s.directoryChanges + BitVec.ofNat 16 n }

/-- CONNECTION CHANGES advances by `n`, wrapping (R22). -/
def State.bumpConnections (n : Nat) (s : State) : State :=
  { s with connectionChanges := s.connectionChanges + BitVec.ofNat 16 n }

/-! ### Derived counts -/

/-- The in-use connections, in index order. -/
def State.inUse (s : State) : List Connection := allIndices.filterMap s.connection

/-- The widths a connection adds to the USAGE of a station (R22). -/
def Connection.usageFor (c : Connection) (h : Handle) : Nat := if c.originator = h then c.width else 0

/-- USAGE (R22, R131): the widths of the connections the station originates, in any state. -/
def State.usage (s : State) (h : Handle) : Nat := (s.inUse.map (·.usageFor h)).sum

/-- The station is ORIGINATOR or ANSWERER of the connection. -/
def Connection.hasParty (c : Connection) (h : Handle) : Bool := c.originator = h || c.answerer = h

/-- PARTY COUNT (R22): the connections, in any state, the station is party to. -/
def State.partyCount (s : State) (h : Handle) : Nat := (s.inUse.filter (·.hasParty h)).length

/-- CONNECTION RECORDS of the live status group (R171). -/
def State.connectionCount (s : State) : Nat := s.inUse.length

/-- STATION RECORDS of the live status group (R171). -/
def State.stationCount (s : State) : Nat := (allHandles.filter fun h => (s.station h).isSome).length

/-- The table holds no record. -/
def State.tableEmpty (s : State) : Bool := allIndices.all fun i => (s.connection i).isNone

/-- The lowest unused index (R21). -/
def State.unusedIndex (s : State) : Option Index := allIndices.find? fun i => (s.connection i).isNone

/-- The lowest free handle (R72). -/
def State.freeHandle (s : State) : Option Handle := allHandles.find? fun h => (s.station h).isNone

/-- How many handles are free. -/
def State.freeHandleCount (s : State) : Nat := (allHandles.filter fun h => (s.station h).isNone).length

/-! ### Lookups of the Directory (R72) -/

/-- A valid station number, 0000_0010h to FFFF_FFFEh (00_scope.md, Terms). -/
def validNumber (n : StationNumber) : Bool := 0x10 ≤ n && n ≤ 0xFFFFFFFE

/-- Station number 0000_000nh, which addresses drop n in the downlink. -/
def dropAddress (d : Drop) : StationNumber := BitVec.ofNat 32 d.val

/-- The record a station number names, with its handle, or nothing (R72). -/
def State.lookup (s : State) (n : StationNumber) : Option (Handle × Station) :=
  allHandles.findSome? fun h => (s.station h).bind fun r => if r.number = n then some (h, r) else none

/-- The tier-0 record of a drop (R76). -/
def State.dropHolder (s : State) (d : Drop) : Option Handle :=
  allHandles.find? fun h => (s.station h).any fun r => r.drop = d && r.via = none

/-- A top relay: a tier-0 record of KIND RELAY (R92). -/
def Station.topRelay (r : Station) : Bool := r.kind = .relay && r.via = none

/-- The station number of a record; 0 where the handle is free, which no party of a record ever is (R20, R72).
DESIGN CHOICE for states no run reaches: notes/assumptions/15.md. -/
def State.numberOf (s : State) (h : Handle) : StationNumber := ((s.station h).map (·.number)).getD 0

/-- The Wait Queue entry of a source station (R26 check 3, R44). -/
def State.entryOf (s : State) (h : Handle) : Option Entry := s.waitQueue.find? fun e => e.source = h

/-- A number's Deny List entry (R114). -/
def State.listed (s : State) (n : StationNumber) : Bool := s.denyList.any fun e => e.number = n

/-- A hit on a listed number raises its HIT COUNT by one, saturating at 255 (R114). -/
def State.hit (n : StationNumber) (s : State) : State :=
  { s with denyList := s.denyList.map fun e => if e.number = n then { e with hits := min 255 (e.hits + 1) } else e }

/-- The Lease Engine's report of an empty table, at which Highway Control raises DRAINED (R25, R161). -/
def State.reportIfEmpty (s : State) : State :=
  s.raiseIf (s.tableEmpty && s.highway = .draining) .drained

end Sys2Proof.Machine
end

