-- ==== Sys2Proof/Machine/SlotMap.lean ====
section
/-! DEFINITION. The Slot Map: its searches (R6 to R9), its claims (R10 to R14) and what guard end does to a record (R15). -/

namespace Sys2Proof.Machine

/-- The slot is FREE. -/
def State.slotFree (s : State) (n : Nat) : Bool := s.slot n = some .free

/-- The FREE slots, ascending; their number is FREE SLOTS (R6). -/
def State.freeSlots (s : State) : List Nat := bearerSlots.filter s.slotFree

/-- Non-contiguous search: the `w` lowest-numbered FREE slots (R7). -/
def State.scatteredSearch (s : State) (w : Nat) : Option (List Nat) :=
  if w ≤ s.freeSlots.length then some (s.freeSlots.take w) else none

/-- The run of `w` slots from `a` on. -/
def slotRun (a w : Nat) : List Nat := List.range' a w

/-- Contiguous search: the lowest-numbered run of `w` FREE slots, which ends at 63 at the latest (R8). -/
def State.runSearch (s : State) (w : Nat) : Option (List Nat) :=
  (bearerSlots.find? fun a => a + w ≤ 64 && (slotRun a w).all s.slotFree).map fun a => slotRun a w

/-- The search a request's contiguous flag asks for (R27). -/
def State.searchSlots (s : State) (contiguous : Bool) (w : Nat) : Option (List Nat) :=
  if contiguous then s.runSearch w else s.scatteredSearch w

/-- Reserve claim: each slot of the list goes RESERVED with the index as owner (R10). -/
def State.reserveClaim (i : Index) (list : List Nat) (s : State) : State :=
  s.mapSlots fun n r => if n ∈ list then .reserved i else r

/-- Hold claim: each RESERVED slot of the index goes HELD (R11). -/
def State.holdClaim (i : Index) (s : State) : State :=
  s.mapSlots fun _ r => if r = .reserved i then .held i else r

/-- End claim: each HELD slot of the index goes GUARD, unowned, in the superframe of the ending event (R12). -/
def State.endClaim (i : Index) (s : State) : State :=
  s.mapSlots fun _ r => if r = .held i then .guard none s.timer.parity else r

/-- What a withdraw claim does to one record (R14). -/
def SlotRecord.withdrawn (i : Index) : SlotRecord → SlotRecord
  | .reserved j => if j = i then .free else .reserved j
  | .guard (some j) p => if j = i then .guard none p else .guard (some j) p
  | r => r

/-- Withdraw claim: RESERVED slots of the index go FREE, its GUARD slots lose their owner (R14). -/
def State.withdrawClaim (i : Index) (s : State) : State := s.mapSlots fun _ r => r.withdrawn i

/-- What a pre-emption claim does to one record (R13). -/
def SlotRecord.preempted (victims : List Index) (i : Index) (chosen : Bool) (p : Parity) : SlotRecord → SlotRecord
  | .free => if chosen then .reserved i else .free
  | .held j => if j ∈ victims then .guard (if chosen then some i else none) p else .held j
  | r => r

/-- Pre-emption claim of index `i` on the new list, with the victims' indices (R13). -/
def State.preemptClaim (victims : List Index) (i : Index) (list : List Nat) (s : State) : State :=
  s.mapSlots fun n r => r.preempted victims i (n ∈ list) s.timer.parity

/-- What guard end does to one record, for the parity of the superframe the boundary ends (R15). -/
def SlotRecord.guardEnded (ending : Parity) : SlotRecord → SlotRecord
  | .guard owner p =>
    if p = ending then
      match owner with
      | none => .free
      | some i => .reserved i
    else .guard owner p
  | r => r

/-- The record is an owned GUARD slot of index `i` that this guard end turns RESERVED (R16). -/
def SlotRecord.completes (ending : Parity) (i : Index) (r : SlotRecord) : Bool := r = .guard (some i) ending

/-- The owner that READ_SLOTS shows (R180). -/
def SlotRecord.owner : SlotRecord → Option Index
  | .free => none
  | .guard o _ => o
  | .reserved i => some i
  | .held i => some i

end Sys2Proof.Machine
end

