-- ==== Sys2Proof/WellFormed.lean ====
section
/-! DEFINITION. The checks on a command as syntax: what the row it stands for can bring. A command that fails them still
has a meaning (`exec` is total); it is only not an event of the row whose name it bears. -/

namespace Sys2Proof

/-- The command codes of R195. -/
def commandCodes : List Byte :=
  [0x01, 0x02, 0x03, 0x0F, 0x10, 0x11, 0x12, 0x13, 0x14, 0x15, 0x20, 0x21, 0x22, 0x23, 0x24, 0x25, 0x26, 0x27, 0x28]

/-- Addresses 03h and 05h to 08h have a behaviour of their own (R168), so REGISTER_WRITE does not start there;
bit 6 is not decoded. -/
def ownBehaviour (address : Byte) : Bool :=
  [0x03, 0x05, 0x06, 0x07, 0x08].contains (address.setWidth 6 : BitVec 6)

/-- What each row can bring: a ROSTER_PART carries one to three entries (R96), SPI_READ_CAPTURE has the read flag set and
REGISTER_WRITE has it clear (R194) and a byte of 00h at an edge of SCS, a REGISTER_WRITE from the start of a transaction begins
at a location with no behaviour of its own (R168), and UNKNOWN_COMMAND carries a code that names no command (R175). -/
def Instr.wellFormed : Instr → Bool
  | .rosterPart _ _ _ entries => 1 ≤ entries.length && entries.length ≤ 3
  | .spiReadCapture address _ => address.getLsbD 7
  | .registerWrite .select value => value = 0
  | .registerWrite .deselect value => value = 0
  | .registerWrite .address value => !value.getLsbD 7
  | .registerWrite (.first address) _ => !address.getLsbD 7 && !ownBehaviour address
  | .unknownCommand code => !commandCodes.contains code
  | _ => true

end Sys2Proof
end

