-- ==== Sys2Proof/Machine/Operands.lean ====
section
/-! DEFINITION. The operand forms: the header and bodies of uplink messages (R139, R140, R191, R192), the argument bytes of
host commands (R172, R195), and the readout forms and the register window (sections 11.5 and 11.6). -/

namespace Sys2Proof.Machine

/-! ### Uplink messages -/

def headerKind (w : Word) : BitVec 6 := w.extractLsb' 10 6

def headerLength (w : Word) : Nat := (w.extractLsb' 6 4).toNat

def headerAux (w : Word) : Fin 64 := (w.extractLsb' 0 6).toFin

/-- The twelve uplink kinds, 01h to 0Ch (R139, R191). -/
def uplinkKind (kind : BitVec 6) : Bool := 0x01 ≤ kind && kind ≤ 0x0C

/-- The LENGTHs R140 allows for each uplink kind. -/
def allowedLength (kind : BitVec 6) (length : Nat) : Bool :=
  match kind.toNat with
  | 0x01 => length = 5
  | 0x02 => length = 4
  | 0x03 => length = 7
  | 0x04 => length = 5
  | 0x05 => length = 5
  | 0x06 => length = 5
  | 0x07 => length = 5
  | 0x08 => length = 4
  | 0x09 => length = 5
  | 0x0A => length = 5
  | 0x0B => length = 7 || length = 9 || length = 11
  | 0x0C => length = 5
  | _ => false

/-- A station number from two words, high word first (R191). -/
def numberOfWords (high low : Word) : StationNumber := high ++ low

def referenceOfWord (w : Word) : Reference := Reference.ofByte (w.extractLsb' 0 8)

def tagOfWord (w : Word) : Tag := (w.extractLsb' 0 4).toFin

/-- KIND of a station from one bit: 0 END, 1 RELAY (R192). -/
def stationKindOf (bit : Bool) : StationKind := if bit then .relay else .endStation

/-- Entry `k` of a ROSTER_PART: its group of body word 1 and its station number (R192). -/
def entryOfWords (attributes : Word) (k : Nat) (high low : Word) : RosterEntry where
  number := numberOfWords high low
  kind := stationKindOf (attributes.getLsbD (15 - 4 * k))
  tier := (attributes.extractLsb' (12 - 4 * k) 3).toFin

/-- The message a block takes, from the hand-off of R143: drop, KIND, AUX, source and body words (R192). -/
def uplinkMessage (drop : Drop) (kind : BitVec 6) (aux : Fin 64) (source : StationNumber) (body : List Word) :
    Option Instr :=
  match kind.toNat, body with
  | 0x01, [w] => some (.attach drop source (stationKindOf (w.getLsbD 15)) (w.extractLsb' 0 2).toFin)
  | 0x02, [] => some (.detach drop source)
  | 0x03, [high, low, w] =>
    some (.request drop source (numberOfWords high low) (w.extractLsb' 14 2).toFin (w.getLsbD 13)
      (w.extractLsb' 8 4).toFin (tagOfWord w))
  | 0x04, [w] => some (.accept drop source (referenceOfWord w))
  | 0x05, [w] => some (.decline drop source (referenceOfWord w))
  | 0x06, [w] => some (.renew drop source (referenceOfWord w))
  | 0x07, [w] => some (.release drop source (referenceOfWord w))
  | 0x08, [] => some (.query drop source)
  | 0x09, [w] => some (.cancel drop source (tagOfWord w))
  | 0x0A, [w] =>
    some (.rosterBegin drop source (w.extractLsb' 8 8) (w.extractLsb' 4 4).toFin (w.extractLsb' 2 2).toFin
      (w.getLsbD 1) (w.getLsbD 0))
  | 0x0B, [w, h1, l1] => some (.rosterPart drop source aux [entryOfWords w 0 h1 l1])
  | 0x0B, [w, h1, l1, h2, l2] => some (.rosterPart drop source aux [entryOfWords w 0 h1 l1, entryOfWords w 1 h2 l2])
  | 0x0B, [w, h1, l1, h2, l2, h3, l3] =>
    some (.rosterPart drop source aux [entryOfWords w 0 h1 l1, entryOfWords w 1 h2 l2, entryOfWords w 2 h3 l3])
  | 0x0C, [w] => some (.rosterEnd drop source (w.extractLsb' 8 8))
  | _, _ => none

/-- A whole message as received, header to check word: its check word is right (R140 step 1). -/
def checkWordRight (words : List Word) : Bool := words.getLast? = some (crc words.dropLast)

/-- The good message in the words received in a window of a drop; none where the LENGTH is not one its KIND allows
(R140 steps 2 and 3). -/
def messageOfWords (drop : Drop) (words : List Word) : Option Instr :=
  match words with
  | header :: high :: low :: rest =>
    if allowedLength (headerKind header) words.length then
      uplinkMessage drop (headerKind header) (headerAux header) (numberOfWords high low) rest.dropLast
    else none
  | _ => none

/-! ### The words a station sends (R191, R192) -/

/-- A message of a kind with its body, framed: header, source, body, check word (R191). -/
def uplinkFrame (kind aux : BitVec 6) (source : StationNumber) (body : List Word) : List Word :=
  let words := headerWord kind (4 + body.length) aux :: highWord source :: lowWord source :: body
  words ++ [crc words]

/-- A body word whose low byte is a reference (R192). -/
def referenceWord (reference : Reference) : Word := reference.byte.setWidth 16

/-- The bit of a KIND: 0 END, 1 RELAY (R192). -/
def kindBit (kind : StationKind) : BitVec 1 := BitVec.ofBool (kind = .relay)

/-- The attribute group of entry `k`, and 0 where there is no such entry (R192). -/
def entryGroup (entries : List RosterEntry) (k : Nat) : BitVec 4 :=
  match entries[k]? with
  | some e => kindBit e.kind ++ BitVec.ofNat 3 e.tier.val
  | none => 0

/-- The body of a ROSTER_PART (R192). -/
def partBody (entries : List RosterEntry) : List Word :=
  (entryGroup entries 0 ++ entryGroup entries 1 ++ entryGroup entries 2 ++ (0 : BitVec 4)) ::
    entries.flatMap fun e => [highWord e.number, lowWord e.number]

/-- The window's drop and the words of the uplink message that a command stands for; none for any other command. -/
def uplinkWords : Instr → Option (Drop × List Word)
  | .attach drop source kind cls =>
    some (drop, uplinkFrame 0x01 0 source [kindBit kind ++ (0 : BitVec 13) ++ BitVec.ofNat 2 cls.val])
  | .detach drop source => some (drop, uplinkFrame 0x02 0 source [])
  | .request drop source peer cls contiguous width tag =>
    some (drop, uplinkFrame 0x03 0 source
      [highWord peer, lowWord peer,
        BitVec.ofNat 2 cls.val ++ BitVec.ofBool contiguous ++ (0 : BitVec 1) ++ BitVec.ofNat 4 width.val ++
          (0 : BitVec 4) ++ BitVec.ofNat 4 tag.val])
  | .accept drop source reference => some (drop, uplinkFrame 0x04 0 source [referenceWord reference])
  | .decline drop source reference => some (drop, uplinkFrame 0x05 0 source [referenceWord reference])
  | .renew drop source reference => some (drop, uplinkFrame 0x06 0 source [referenceWord reference])
  | .release drop source reference => some (drop, uplinkFrame 0x07 0 source [referenceWord reference])
  | .query drop source => some (drop, uplinkFrame 0x08 0 source [])
  | .cancel drop source tag => some (drop, uplinkFrame 0x09 0 source [BitVec.ofNat 16 tag.val])
  | .rosterBegin drop source generation count depth depthExceeded countExceeded =>
    some (drop, uplinkFrame 0x0A 0 source
      [generation ++ BitVec.ofNat 4 count.val ++ BitVec.ofNat 2 depth.val ++ BitVec.ofBool depthExceeded ++
        BitVec.ofBool countExceeded])
  | .rosterPart drop source partIndex entries =>
    some (drop, uplinkFrame 0x0B (BitVec.ofNat 6 partIndex.val) source (partBody entries))
  | .rosterEnd drop source generation =>
    some (drop, uplinkFrame 0x0C 0 source [generation ++ (0 : BitVec 8)])
  | _ => none

/-! ### Arguments of host commands -/

/-- Latched argument byte `k` (R172, R195). -/
def State.arg (s : State) (k : Fin 20) : Byte := s.port.latched[k]

/-- The number an argument byte is read as (R195). -/
def State.argNat (s : State) (k : Fin 20) : Nat := (s.arg k).toNat

/-- A station number in argument bytes A0 to A3, high byte first (R195). -/
def State.argNumber (s : State) : StationNumber := s.arg 0 ++ s.arg 1 ++ s.arg 2 ++ s.arg 3

/-- The station number in A1 to A4, of READ_STATION BY NUMBER. -/
def State.argNumber1 (s : State) : StationNumber := s.arg 1 ++ s.arg 2 ++ s.arg 3 ++ s.arg 4

/-- The answerer's station number in A4 to A7, of PIN. -/
def State.argNumber4 (s : State) : StationNumber := s.arg 4 ++ s.arg 5 ++ s.arg 6 ++ s.arg 7

/-- The slot bytes of PIN, as many as its slot count (R183, R195). -/
def State.argSlots (s : State) : List Nat := ((s.port.latched.toList.drop 10).take (s.argNat 9)).map (·.toNat)

/-! ### Readouts -/

def byteOf (n : Nat) : Byte := BitVec.ofNat 8 n

/-- The four bytes of a station number, high byte first (R195). -/
def numberBytes (n : StationNumber) : List Byte :=
  [n.extractLsb' 24 8, n.extractLsb' 16 8, n.extractLsb' 8 8, n.extractLsb' 0 8]

/-- The readout buffer a form fills; every byte the form does not assign is 00h (R184, R195). -/
def readoutOf (bytes : List Byte) : Vector Byte 32 := Vector.ofFn fun k => bytes.getD k.val 0

def flagBits (b0 b1 b2 : Bool) : Byte := (0 : BitVec 5) ++ BitVec.ofBool b2 ++ BitVec.ofBool b1 ++ BitVec.ofBool b0

/-- Station form (R178, section 11.6). -/
def State.stationForm (s : State) (h : Handle) (r : Station) : List Byte :=
  let roster := if r.topRelay then r.roster.getD [] else []
  let generation := if r.topRelay then r.generation else none
  let deadline := if r.topRelay then r.deadline else none
  [byteOf h.val] ++ numberBytes r.number ++
    [flagBits (r.kind = .relay) r.syncOwed generation.isSome, byteOf r.drop.val, byteOf r.tier,
      (r.via.map fun v => byteOf v.val).getD 0xFF, byteOf r.cls.val, byteOf r.state.code, byteOf r.quota,
      byteOf (s.usage h), byteOf (s.partyCount h), generation.getD 0, byteOf ((deadline.map (·.remaining)).getD 0),
      byteOf roster.length] ++
    (List.range 15).map fun k => (roster[k]?.map fun v => byteOf v.val).getD 0xFF

/-- Connection form (R179, section 11.6). -/
def State.connectionForm (s : State) (i : Index) (c : Connection) : List Byte :=
  [(s.referenceOf i).byte, byteOf c.state.code, flagBits c.pinned c.contiguous false, byteOf c.originator.val] ++
    numberBytes (s.numberOf c.originator) ++ [byteOf c.answerer.val] ++ numberBytes (s.numberOf c.answerer) ++
    [byteOf c.cls.val, byteOf c.width, byteOf c.tag.val, byteOf ((c.countdown.map (·.remaining)).getD 0)] ++
    c.slotList.map byteOf

/-- The two bytes of one slot in READ_SLOTS; a place beyond slot 63 holds zero bytes (R180). -/
def State.slotBytes (s : State) (n : Nat) : List Byte :=
  match s.slot n with
  | none => [0, 0]
  | some r =>
    [BitVec.ofBool r.owner.isSome ++ (0 : BitVec 5) ++ BitVec.ofNat 2 r.code,
      (r.owner.map fun i => (s.referenceOf i).byte).getD 0]

/-- Slot form of a group (R180, section 11.6). -/
def State.slotForm (s : State) (group : Nat) : List Byte :=
  (List.range 16).flatMap fun k => s.slotBytes (2 + 16 * group + k)

/-- Queue form (R181, section 11.6). -/
def State.queueForm (s : State) (position : Nat) (e : Entry) : List Byte :=
  [byteOf position, byteOf s.waitQueue.length, byteOf e.source.val] ++ numberBytes (s.numberOf e.source) ++
    [byteOf e.peer.val] ++ numberBytes e.peerNumber ++
    [byteOf e.cls.val, byteOf e.width, flagBits e.contiguous false false, byteOf e.tag.val,
      byteOf e.countdown.remaining]

/-- Deny form (R115, R117, R118, section 11.6). -/
def denyForm (position entries : Nat) (e : DenyEntry) : List Byte :=
  [byteOf position, byteOf entries] ++ numberBytes e.number ++ [e.code, byteOf e.hits]

/-- Policy form (R128, R130, section 11.6). -/
def State.policyForm (s : State) (k : ClassNo) : List Byte :=
  let p := s.classPolicy k
  [byteOf k.val, byteOf p.leasePeriod, byteOf p.maxWidth, byteOf p.defaultQuota, byteOf p.queuePeriod,
    flagBits p.mayPreempt false false, byteOf s.answerPeriod, byteOf s.rosterPeriod]

/-- Timing form (R129, section 11.6). -/
def State.timingForm (s : State) : List Byte := [byteOf s.answerPeriod, byteOf s.rosterPeriod]

end Sys2Proof.Machine
end

