-- ==== Sys2Proof/Machine/DownlinkQueue.lean ====
section
/-! DEFINITION. The Downlink Queue: admission (R147), broadcasts (R148), the word of a frame (R149, R150), departure and
SYNC issue (R151, R152), and the notices blocks hand to it (R23). -/

namespace Sys2Proof.Machine

/-- The number of free entries (R145). -/
def State.downlinkFree (s : State) : Nat := Config.downlinkCapacity - s.downlink.held.length

/-- Append a message at the tail. -/
def State.enqueue (m : DownMessage) (s : State) : State := { s with downlink.held := s.downlink.held ++ [m] }

/-- Set SYNC OWED of the record that holds a station number, if one does (R89, R147). -/
def State.oweSync (n : StationNumber) (s : State) : State :=
  match s.lookup n with
  | some (h, _) => if validNumber n then s.modifyStation h fun r => { r with syncOwed := true } else s
  | none => s

/-- A station-addressed or drop-addressed message is offered: admitted with at least 3 entries free, and otherwise dropped,
raising SYNC and marking the record it was for (R147). -/
def State.offer (m : DownMessage) (s : State) : State :=
  if Config.downlinkAdmission ≤ s.downlinkFree then s.enqueue m else (s.raise .sync).oweSync m.destination

/-- Offer a message to the station number the record of a handle holds now (R23). -/
def State.tell (h : Handle) (body : DownBody) (s : State) : State :=
  match s.station h with
  | some r => s.offer ⟨r.number, body⟩
  | none => s

/-- Offer a message to a party where there is one to offer. -/
def State.tellOpt (h : Handle) (body : Option DownBody) (s : State) : State :=
  match body with
  | some b => s.tell h b
  | none => s

/-- The messages at the front that are in transmission: the head, or none. -/
def Downlink.sending (d : Downlink) : Nat := if d.wordsSent.isSome then 1 else 0

/-- A HIGHWAY_STATE broadcast. -/
def DownMessage.isHighwayState : DownMessage → Bool
  | ⟨_, .highwayState _⟩ => true
  | _ => false

/-- Put a new HIGHWAY_STATE in the place of the first one waiting in the list (R148). -/
def replaceWaiting (m : DownMessage) : List DownMessage → List DownMessage
  | [] => []
  | x :: xs => if x.isHighwayState then m :: xs else x :: replaceWaiting m xs

/-- A broadcast is offered (R148): a HIGHWAY_STATE takes the place of one waiting; otherwise the broadcast is appended with
at least 1 entry free, and dropped with SYNC raised and no SYNC OWED set with none. -/
def State.broadcast (body : DownBody) (s : State) : State :=
  let m : DownMessage := ⟨0xFFFFFFFF, body⟩
  let front := s.downlink.held.take s.downlink.sending
  let waiting := s.downlink.held.drop s.downlink.sending
  if m.isHighwayState && waiting.any (·.isHighwayState) then
    { s with downlink.held := front ++ replaceWaiting m waiting }
  else if 1 ≤ s.downlinkFree then s.enqueue m
  else s.raise .sync

/-- At a frame start the word of slot 0 is chosen: the next word of the message in transmission, else the header of the
head, which enters transmission, else the idle word (R149, R150). -/
def State.chooseWord (s : State) : State :=
  match s.downlink.held with
  | [] => { s with downlink.hdo := some 0, downlink.wordsSent := none }
  | m :: _ =>
    let k := s.downlink.wordsSent.getD 0
    { s with downlink.hdo := m.words[k]?, downlink.wordsSent := some (k + 1) }

/-- The last word of the head has been sent in slot 0 of this frame (R151). -/
def State.departureDue (s : State) : Bool :=
  match s.downlink.held with
  | [] => false
  | m :: _ => s.downlink.wordsSent = some m.words.length

/-- The record with the lowest handle that owes a SYNC (R152). -/
def State.syncOwner (s : State) : Option Handle :=
  allHandles.find? fun h => (s.station h).any (·.syncOwed)

/-- SYNC issue at a departure (R152). -/
def State.issueSync (s : State) : State :=
  match s.syncOwner with
  | some h =>
    if Config.downlinkAdmission ≤ s.downlinkFree then
      (s.enqueue ⟨s.numberOf h, .sync⟩).modifyStation h fun r => { r with syncOwed := false }
    else s
  | none => s

/-- Departure of the head at the end of slot 0, with its SYNC issue (R151, R152). The boundary of the frame is past, so no
grant is made at it any more (R137). -/
def State.depart (s : State) : State :=
  State.issueSync
    { s with downlink.held := s.downlink.held.tail, downlink.wordsSent := none, arbiter.grantDue := false }

end Sys2Proof.Machine
end

