-- ==== Sys2Proof/Machine/LeaseEngine.lean ====
section
/-! DEFINITION. The Lease Engine's shared operations: creating a connection (R21, R27), offering it (R23, R29), removing it
(R25), and the pre-emption rule (R63 to R66). -/

namespace Sys2Proof.Machine

/-- REMAINING of a record, 0 where it is absent. -/
def Connection.remaining (c : Connection) : Nat := (c.countdown.map (·.remaining)).getD 0

/-- A connection is created in an index: the serial advances, the record stands, CONNECTION CHANGES advances (R21, R22). -/
def State.createConnection (i : Index) (c : Connection) (s : State) : State :=
  ({ s with serials := s.serials.set i (s.serial i + 1) }.setConnection i (some c)).bumpConnections 1

/-- OFFER of a connection to its answerer (R23, R27 step 5, R29 step 4). -/
def State.sendOffer (i : Index) (c : Connection) (s : State) : State :=
  s.tell c.answerer
    (.offer (s.referenceOf i) (s.numberOf c.originator) c.cls c.width c.contiguous c.slotList c.remaining)

/-- GRANT of a connection to both parties, originator first (R23, R30, R39). Both copies carry the connection's TAG
(DEDUCED: notes/assumptions/11.md); the lease countdown is 0 for a pinned connection. -/
def State.sendGrants (i : Index) (c : Connection) (s : State) : State :=
  let originatorCopy : DownBody :=
    .grant (s.referenceOf i) .originator (s.numberOf c.answerer) c.cls c.tag c.width c.slotList c.remaining
  let answererCopy : DownBody :=
    .grant (s.referenceOf i) .answerer (s.numberOf c.originator) c.cls c.tag c.width c.slotList c.remaining
  (s.tell c.originator originatorCopy).tell c.answerer answererCopy

/-- The record that placement fills in (R27 step 3). -/
def State.offeredRecord (s : State) (source peer : Handle) (cls : ClassNo) (contiguous : Bool) (width : Nat) (tag : Tag)
    (slots : List Nat) : Connection where
  state := .offered
  pinned := false
  originator := source
  answerer := peer
  cls := cls
  width := width
  contiguous := contiguous
  tag := tag
  slotList := slots
  countdown := some (s.countdownOf s.answerPeriod)

/-- Placement in an index on searched slots (R27): claim, record, OFFER to the answerer. -/
def State.place (i : Index) (c : Connection) (s : State) : State :=
  ((s.reserveClaim i c.slotList).createConnection i c).sendOffer i c

/-- The index and the slots that placement would take, if there are an unused index and room (R27, R55 check 4). -/
def State.room (s : State) (contiguous : Bool) (width : Nat) : Option (Index × List Nat) :=
  match s.unusedIndex, s.searchSlots contiguous width with
  | some i, some slots => some (i, slots)
  | _, _ => none

/-- The record is removed: its index becomes unused and keeps its serial, and CONNECTION CHANGES advances (R25). -/
def State.forgetConnection (i : Index) (s : State) : State := (s.setConnection i none).bumpConnections 1

/-- A withdrawal or an end up to its notices (R25): withdraw claim or end claim, the record removed, LEASE at an end, and
the report to Highway Control when the table has become empty. -/
def State.dropConnection (i : Index) (c : Connection) (s : State) : State :=
  let claimed := if c.state = .active then (s.endClaim i).raise .lease else s.withdrawClaim i
  (claimed.forgetConnection i).reportIfEmpty

/-- A withdrawal or an end with its notices, originator's first (R23, R25). The service pass follows apart. -/
def State.removeConnection (i : Index) (c : Connection) (toOriginator toAnswerer : Option DownBody) (s : State) : State :=
  ((s.dropConnection i c).tellOpt c.originator toOriginator).tellOpt c.answerer toAnswerer

/-- What DRAIN and FORCE_RELEASE tell the parties, by the state of the connection (R41, R47): the originator's notice. -/
def State.noticeToOriginator (s : State) (i : Index) (c : Connection) (reason : Reason) : DownBody :=
  if c.state = .active then .released (s.referenceOf i) reason else .refuse reason (some c.tag) none

/-- The answerer's notice: none of a PENDING connection, which it was never offered (R33, R41, R47). -/
def State.noticeToAnswerer (s : State) (i : Index) (c : Connection) (reason : Reason) : Option DownBody :=
  if c.state = .pending then none else some (.released (s.referenceOf i) reason)

/-! ### Pre-emption (R63 to R66) -/

/-- A candidate for a request of a class: ACTIVE, not pinned, of a class greater than the request's (R63). -/
def Connection.candidateFor (cls : ClassNo) (c : Connection) : Bool :=
  c.state = .active && !c.pinned && decide (cls < c.cls)

/-- The candidates with their indices, in index order (R63). -/
def State.candidates (s : State) (cls : ClassNo) : List (Index × Connection) :=
  allIndices.filterMap fun i => (s.connection i).bind fun c => if c.candidateFor cls then some (i, c) else none

/-- The ranking (R64): CLASS descending, then REMAINING ascending, then index descending. -/
def rankedBefore (a b : Index × Connection) : Bool :=
  decide (b.2.cls < a.2.cls) ||
    (a.2.cls = b.2.cls && (decide (a.2.remaining < b.2.remaining) ||
      (a.2.remaining = b.2.remaining && decide (b.1 ≤ a.1))))

/-- The candidates in the order of the ranking (R64). -/
def State.ranking (s : State) (cls : ClassNo) : List (Index × Connection) :=
  (s.candidates cls).insertionSort fun a b => rankedBefore a b = true

/-- The point where taking victims stops: the width is covered and, where the table was full, at least one victim has been
taken (R65). -/
def victimsSuffice (width : Nat) (needOne : Bool) (covered : Nat) (taken : List (Index × Connection)) : Bool :=
  width ≤ covered && (!needOne || !taken.isEmpty)

/-- Victims are taken from the head of the ranking one at a time until they suffice; `covered` is F plus the widths taken
(R65). -/
def takeVictims (width : Nat) (needOne : Bool) :
    List (Index × Connection) → Nat → List (Index × Connection) → Option (List (Index × Connection))
  | [], covered, taken => if victimsSuffice width needOne covered taken then some taken else none
  | v :: rest, covered, taken =>
    if victimsSuffice width needOne covered taken then some taken
    else takeVictims width needOne rest (covered + v.2.width) (taken ++ [v])

/-- The victims a request of a class and width would end, or none where there are too few (R65). -/
def State.victimsFor (s : State) (cls : ClassNo) (width : Nat) : Option (List (Index × Connection)) :=
  takeVictims width s.unusedIndex.isNone (s.ranking cls) s.freeSlots.length []

/-- A slot of a victim: HELD by a victim's index (R13). -/
def SlotRecord.victims (victims : List Index) : SlotRecord → Bool
  | .held j => victims.contains j
  | _ => false

/-- The new list: the lowest-numbered slots of the union of the FREE slots and the victims' slots (R66). -/
def State.preemptList (s : State) (victims : List Index) (width : Nat) : List Nat :=
  (bearerSlots.filter fun n => s.slotFree n || (s.slot n).any (·.victims victims)).take width

/-- The record pre-emption makes: PENDING without REMAINING where a slot came from a victim, else OFFERED (R66 step 4). -/
def State.preemptRecord (s : State) (source peer : Handle) (cls : ClassNo) (width : Nat) (tag : Tag) (slots : List Nat) :
    Connection :=
  let base := s.offeredRecord source peer cls false width tag slots
  if slots.all s.slotFree then base else { base with state := .pending, countdown := none }

/-- RELEASED(PREEMPTED) to both parties of a victim (R66 step 5); `reference` is the victim's own. -/
def State.tellVictim (reference : Reference) (c : Connection) (s : State) : State :=
  (s.tell c.originator (.released reference .preempted)).tell c.answerer (.released reference .preempted)

/-- The messages of a pre-emption, connection by connection in ascending index order (R66 step 5). Where the new connection
takes a victim's index, the victim's messages come first (DEDUCED: notes/assumptions/12.md). -/
def State.preemptMessages (references : List (Reference × Connection)) (i : Index) (c : Connection) (s : State) : State :=
  allIndices.foldl
    (fun s j =>
      let told := (references.filter fun v => v.1.index = j).foldl (fun s v => s.tellVictim v.1 v.2) s
      if j = i && c.state = .offered then told.sendOffer i c else told)
    s

/-- Pre-emption with the victims settled (R66): their records go, the lowest unused index is taken, the claim is made, the
record stands, the messages are offered. -/
def State.preempt (victims : List (Index × Connection)) (source peer : Handle) (cls : ClassNo) (width : Nat) (tag : Tag)
    (s : State) : State :=
  let indices := victims.map (·.1)
  let references := victims.map fun v => (s.referenceOf v.1, v.2)
  let slots := s.preemptList indices width
  let c := s.preemptRecord source peer cls width tag slots
  let ended := victims.foldl (fun s v => (s.forgetConnection v.1).raise .lease) s
  match ended.unusedIndex with
  | none => s
  | some i => ((ended.preemptClaim indices i slots).createConnection i c).preemptMessages references i c

end Sys2Proof.Machine
end

