-- ==== Sys2Proof/Machine/WaitQueue.lean ====
section
/-! DEFINITION. The Wait Queue: order (R51), joining and displacement (R52, R53), the service pass (R54, R55). -/

namespace Sys2Proof.Machine

/-- A new entry stands directly after the last entry whose CLASS is equal to or smaller than its own (R51). -/
def insertEntry (e : Entry) (queue : List Entry) : List Entry :=
  queue.takeWhile (fun x => x.cls ≤ e.cls) ++ e :: queue.dropWhile (fun x => x.cls ≤ e.cls)

/-- An entry leaves; the others close up (R50). -/
def State.removeEntry (e : Entry) (s : State) : State := { s with waitQueue := s.waitQueue.erase e }

/-- Tell an entry's source why its entry leaves, with the entry's tag. -/
def State.refuseEntry (e : Entry) (reason : Reason) (s : State) : State :=
  s.tell e.source (.refuse reason (some e.tag) none)

/-- REFUSE(NO_SLOTS) at queueing, which raises REFUSAL (R52). -/
def State.refuseNoSlots (e : Entry) (s : State) : State := (s.refuseEntry e .noSlots).raise .refusal

/-- An entry is inserted and its source told QUEUED (R52). -/
def State.insertAndTell (e : Entry) (s : State) : State :=
  { s with waitQueue := insertEntry e s.waitQueue }.tell e.source (.queued e.tag)

/-- A request that could not be placed reaches queueing (R52), and displaces the tail of a full queue where its class is
smaller (R53). -/
def State.joinQueue (e : Entry) (s : State) : State :=
  if e.countdown.remaining = 0 then s.refuseNoSlots e
  else if s.waitQueue.length < Config.queueCapacity then s.insertAndTell e
  else
    match s.waitQueue.getLast? with
    | none => s.refuseNoSlots e
    | some tail =>
      if e.cls < tail.cls then
        (({ s with waitQueue := s.waitQueue.dropLast }.refuseEntry tail .queueDisplaced).raise .refusal).insertAndTell e
      else s.refuseNoSlots e

/-- A service pass examines one entry (R55). -/
def State.examine (s : State) (e : Entry) : State :=
  if (s.classPolicy e.cls).maxWidth < e.width then (s.removeEntry e).refuseEntry e .badWidth
  else if Config.partyLimit ≤ s.partyCount e.source ∨ Config.partyLimit ≤ s.partyCount e.peer then s
  else if ((s.station e.source).map (·.quota)).getD 0 < s.usage e.source + e.width then s
  else
    match s.room e.contiguous e.width with
    | none => s
    | some (i, slots) =>
      (s.removeEntry e).place i (s.offeredRecord e.source e.peer e.cls e.contiguous e.width e.tag slots)

/-- A service pass walks the entries as they stand at its start, head to tail; outside OPEN it examines none (R54, R55). -/
def State.servicePass (s : State) : State :=
  if s.highway = .opened then s.waitQueue.foldl State.examine s else s

/-- Passes started by one event are taken one after another (R54). -/
def State.servicePasses : Nat → State → State
  | 0, s => s
  | n + 1, s => State.servicePasses n s.servicePass

end Sys2Proof.Machine
end

