-- ==== Sys2Proof/Machine/Removal.lean ====
section
/-! DEFINITION. The removal cascade (R45, R46, R60, R83), the shortening of a roster (R84) and eviction (R85). -/

namespace Sys2Proof.Machine

/-- The in-use connections with a party in the set, ascending (R45). -/
def State.touching (s : State) (set : List Handle) : List Index :=
  allIndices.filter fun i => (s.connection i).any fun c => set.contains c.originator || set.contains c.answerer

/-- One connection of the walk of R45 is removed; notices go to parties outside the set alone, with the set's reason. -/
def State.cutConnection (set : List Handle) (reason : Reason) (s : State) (i : Index) : State :=
  match s.connection i with
  | none => s
  | some c =>
    let toOriginator := if set.contains c.originator then none else some (s.noticeToOriginator i c reason)
    let toAnswerer := if set.contains c.answerer then none else s.noticeToAnswerer i c reason
    s.removeConnection i c toOriginator toAnswerer

/-- Step 1 of the cascade: the Lease Engine's walk, its service passes held back (R45, R83). -/
def State.cutConnections (set : List Handle) (reason : Reason) (s : State) : State :=
  (s.touching set).foldl (State.cutConnection set reason) s

/-- One entry of the walk of R60 is removed, with REFUSE(PEER_GONE) where its peer alone is leaving. -/
def State.cutEntry (set : List Handle) (s : State) (e : Entry) : State :=
  if set.contains e.source then s.removeEntry e
  else if set.contains e.peer then (s.removeEntry e).refuseEntry e .peerGone
  else s

/-- Step 2 of the cascade: the Wait Queue's walk (R60). -/
def State.cutEntries (set : List Handle) (s : State) : State := s.waitQueue.foldl (State.cutEntry set) s

/-- A record is deleted: its handle becomes free, its assembly is dropped, DIRECTORY CHANGES advances and LEFT is raised
(R73, R83 step 3). -/
def State.deleteStation (s : State) (h : Handle) : State :=
  (((s.setStation h none).setAssembly h none).bumpDirectory 1).raise .left

/-- Step 3 of the cascade (R83). -/
def State.deleteStations (set : List Handle) (s : State) : State := set.foldl State.deleteStation s

/-- The removal cascade (R83): connections, queue, the records to delete, what the cause does then, and the service passes
held back, one for each connection record freed. -/
def State.cascade (set deleted : List Handle) (reason : Reason) (after : State → State) (s : State) : State :=
  let freed := (s.touching set).length
  State.servicePasses freed (after (((s.cutConnections set reason).cutEntries set).deleteStations deleted))

/-- The records whose VIA names a handle, ascending. -/
def State.downstream (s : State) (h : Handle) : List Handle :=
  allHandles.filter fun k => (s.station k).any fun r => r.via = some h

/-- The records of a drop, ascending (R81). -/
def State.onDrop (s : State) (d : Drop) : List Handle :=
  allHandles.filter fun k => (s.station k).any fun r => r.drop = d

/-- A station that leaves takes with it the records whose VIA names it, if it is a top relay (R82). -/
def State.removalSet (s : State) (h : Handle) (r : Station) : List Handle :=
  if r.topRelay then h :: s.downstream h else [h]

/-- The staying relay's ACCEPTED ROSTER loses the handle of an evicted downstream record; DIRECTORY CHANGES advances for it
(R84). -/
def State.shortenRoster (h : Handle) (r : Station) (s : State) : State :=
  match r.via with
  | none => s
  | some relay =>
    (s.modifyStation relay fun x => { x with roster := x.roster.map (·.filter (· != h)) }).bumpDirectory 1

/-- Eviction of the record of a handle, with the reason its EVICTED carries (R85). -/
def State.evictStation (h : Handle) (r : Station) (reason : Reason) (s : State) : State :=
  let set := s.removalSet h r
  s.cascade set set .evicted fun s => (s.shortenRoster h r).offer ⟨r.number, .evicted reason⟩

end Sys2Proof.Machine
end

