-- ==== Sys2Proof/Machine/Walks.lean ====
section
/-! DEFINITION. The events of a superframe boundary (R2): guard end with its hand-offs (R15, R16), the countdown walks of the
Lease Engine (R36), the Wait Queue (R57) and the Roster Checker (R107), and the expiries they take at once (R37, R38, R57,
R108). A walk that meets a countdown reaching 0 stands there (`State.due`) until its expiry is taken; `State.settled` takes
what is due, so that no other event comes in between (notes/assumptions/4.md). -/

namespace Sys2Proof.Machine

/-! ### Guard end -/

/-- Some bearer slot's record has the property. -/
def State.anySlot (s : State) (p : SlotRecord → Bool) : Bool := bearerSlots.any fun n => (s.slot n).any p

/-- Earmark completion of an index: a PENDING connection becomes OFFERED, with an answer countdown and OFFER (R16, R29). -/
def State.completeEarmark (s : State) (i : Index) : State :=
  match s.connection i with
  | none => s
  | some c =>
    if c.state = .pending then
      let offered := { c with state := .offered, countdown := some (s.countdownOf s.answerPeriod) }
      ((s.setConnection i (some offered)).bumpConnections 1).sendOffer i offered
    else s

/-- The indices whose earmarks this guard end turns RESERVED, ascending (R16). -/
def State.completing (s : State) (ending : Parity) : List Index :=
  allIndices.filter fun i => s.anySlot (·.completes ending i)

/-- Guard end with its two hand-offs: the completions, then one service pass if a slot went FREE (R15, R16). -/
def State.takeGuardEnd (s : State) : State :=
  let ending := !s.timer.parity
  let completed := (s.completing ending).foldl State.completeEarmark (s.mapSlots fun _ r => r.guardEnded ending)
  if s.anySlot (· = .guard none ending) then completed.servicePass else completed

/-! ### The Lease Engine's walk -/

/-- The walk over the indices of the list: each countdown kept against the ending superframe is lowered; at one that
reaches 0 the walk stands (R36). -/
def State.walkConnections : List Index → State → State
  | [], s => { s with due := none }
  | i :: rest, s =>
    match s.connection i with
    | none => State.walkConnections rest s
    | some c =>
      match c.countdown with
      | none => State.walkConnections rest s
      | some d =>
        if s.counts d then
          let s' := s.setConnection i (some { c with countdown := some (s.lowered d) })
          if (s.lowered d).remaining = 0 then { s' with due := some (.connection i) } else State.walkConnections rest s'
        else State.walkConnections rest s

/-- The expiry of an index whose countdown has reached 0: of a lease by R37, of an answer countdown by R38. -/
def State.expireConnection (i : Index) (s : State) : State :=
  match s.connection i with
  | none => s
  | some c =>
    match c.state with
    | .active =>
      (s.removeConnection i c (some (.released (s.referenceOf i) .expired))
        (some (.released (s.referenceOf i) .expired))).servicePass
    | .offered =>
      (s.removeConnection i c (some (.refuse .noAnswer (some c.tag) none))
        (some (.released (s.referenceOf i) .noAnswer))).servicePass
    | .pending => s

/-- The indices the walk has still to reach after one. -/
def indicesAfter (i : Index) : List Index := allIndices.filter (i < ·)

/-- The expiry is taken and the walk moves on (R36 step 3). -/
def State.takeConnectionExpiry (i : Index) (s : State) : State :=
  (s.expireConnection i).walkConnections (indicesAfter i)

/-! ### The Wait Queue's walk -/

/-- The walk over the entries of the list, the first standing at the position (counted from 0): as R57 says, up to the first
entry whose countdown reaches 0. -/
def State.walkEntries : List Entry → Nat → State → State
  | [], _, s => { s with due := none }
  | e :: rest, position, s =>
    if s.counts e.countdown then
      let s' := { s with waitQueue := s.waitQueue.set position { e with countdown := s.lowered e.countdown } }
      if (s.lowered e.countdown).remaining = 0 then { s' with due := some (.entry position) }
      else State.walkEntries rest (position + 1) s'
    else State.walkEntries rest (position + 1) s

/-- The entry at the position is removed with REFUSE(QUEUE_TIMEOUT), and REFUSAL is raised (R57 step 3). -/
def State.timeOutEntry (position : Nat) (s : State) : State :=
  match s.waitQueue[position]? with
  | none => s
  | some e => ({ s with waitQueue := s.waitQueue.eraseIdx position }.refuseEntry e .queueTimeout).raise .refusal

/-- The timeout is taken and the walk moves on to the entry that has closed up. -/
def State.takeEntryTimeout (position : Nat) (s : State) : State :=
  let s' := s.timeOutEntry position
  s'.walkEntries (s'.waitQueue.drop position) position

/-! ### The Roster Checker's walk -/

/-- The walk over the handles of the list, up to the first relay whose deadline reaches 0 (R107). -/
def State.walkRelays : List Handle → State → State
  | [], s => { s with due := none }
  | h :: rest, s =>
    match s.station h with
    | none => State.walkRelays rest s
    | some r =>
      match r.deadline with
      | none => State.walkRelays rest s
      | some d =>
        if r.topRelay && s.counts d then
          let s' := s.setStation h (some { r with deadline := some (s.lowered d) })
          if (s.lowered d).remaining = 0 then { s' with due := some (.relay h) } else State.walkRelays rest s'
        else State.walkRelays rest s

/-- The relay is evicted with ROSTER_TIMEOUT (R85, R108). -/
def State.expireRelay (h : Handle) (s : State) : State :=
  match s.station h with
  | none => s
  | some r => s.evictStation h r .rosterTimeout

/-- The handles the walk has still to reach after one. -/
def handlesAfter (h : Handle) : List Handle := allHandles.filter (h < ·)

/-- The eviction is taken and the walk moves on (R107 step 3). -/
def State.takeRelayExpiry (h : Handle) (s : State) : State := (s.expireRelay h).walkRelays (handlesAfter h)

/-! ### Taking what is due -/

/-- The expiry at which a walk stands is taken. -/
def State.takeDue (s : State) : State :=
  match s.due with
  | none => s
  | some (.connection i) => s.takeConnectionExpiry i
  | some (.entry position) => s.takeEntryTimeout position
  | some (.relay h) => s.takeRelayExpiry h

/-- Expiries are taken one after another until none is due; the number bounds how many. -/
def State.takeAllDue : Nat → State → State
  | 0, s => s
  | n + 1, s => if s.due.isNone then s else State.takeAllDue n s.takeDue

/-- The walk that stands at an expiry is brought to its end. A walk meets at most one expiry for each index, handle or
entry. -/
def State.settled (s : State) : State :=
  if s.hold = .running then State.takeAllDue (s.waitQueue.length + 48) s else s

/-- An event at a block: nothing comes of it while full reset is held (R144, R166), and a walk standing at an expiry is
ended first. -/
def State.event (f : State → State) (s : State) : State := if s.hold = .running then f s.settled else s

/-- A change of the input lines with the event it makes at a block: a walk standing at an expiry is ended first, the lines
change whatever the part does, and while full reset is held nothing else comes of it (R134, R144). -/
def State.lineEvent (change : Pins → Pins) (f : State → State) (s : State) : State :=
  let settled := s.settled
  let changed := { settled with pins := change settled.pins }
  if changed.hold = .running then f changed else changed

/-- The four blocks' events of a boundary, where the block has still to take it (R2). -/
def State.takeOwedGuardEnd (s : State) : State :=
  if s.owed.guardEnd then { s with owed.guardEnd := false }.takeGuardEnd else s

def State.takeOwedLeaseWalk (s : State) : State :=
  if s.owed.leaseWalk then { s with owed.leaseWalk := false }.walkConnections allIndices else s

def State.takeOwedQueueWalk (s : State) : State :=
  if s.owed.queueWalk then
    let s' := { s with owed.queueWalk := false }
    s'.walkEntries s'.waitQueue 0
  else s

def State.takeOwedRosterWalk (s : State) : State :=
  if s.owed.rosterWalk then { s with owed.rosterWalk := false }.walkRelays allHandles else s

end Sys2Proof.Machine
end

