-- ==== Sys2Proof/Machine/HostPort.lean ====
section
/-! DEFINITION. The Host Port: the register window and its capture (R169 to R171, R194), writes and transactions (R167, R168,
R189), the mailbox (R172 to R175), with the meanings of SPI_READ_CAPTURE, REGISTER_WRITE, NOTIFY_PENDING_WRITE,
NOTIFY_ENABLE_WRITE, COMMAND_COLLISION, COMMAND_COMPLETION and UNKNOWN_COMMAND. -/

namespace Sys2Proof.Machine

/-! ### The window -/

/-- BUSY (R170, R174, R189). -/
def State.busy (s : State) : Bool := s.hold != .running || s.port.mailbox != .idle

/-- STATUS: 7 BUSY, 6 COLLIDED, 1 to 0 HIGHWAY STATE (R194). -/
def State.statusByte (s : State) : Byte :=
  BitVec.ofBool s.busy ++ BitVec.ofBool s.port.collided ++ (0 : BitVec 4) ++ BitVec.ofNat 2 s.highway.code

/-- The high or low byte of a 16-bit register; the high byte has the lower address (R194). -/
def highByte (v : BitVec 16) : Byte := v.extractLsb' 8 8

def lowByte (v : BitVec 16) : Byte := v.extractLsb' 0 8

/-- The byte a read gives at a location of the window, 00h to 3Fh (R194). -/
def State.windowByte (s : State) (a : Nat) : Byte :=
  match a with
  | 0x00 => Config.partCode
  | 0x01 => Config.revision
  | 0x02 => s.statusByte
  | 0x03 => s.port.command
  | 0x04 => s.port.result.code
  | 0x05 => highByte (s.flags.setWidth 16)
  | 0x06 => lowByte (s.flags.setWidth 16)
  | 0x07 => highByte (s.port.enables.setWidth 16)
  | 0x08 => lowByte (s.port.enables.setWidth 16)
  | 0x09 => byteOf s.stationCount
  | 0x0A => byteOf s.connectionCount
  | 0x0B => byteOf s.waitQueue.length
  | 0x0C => byteOf s.denyList.length
  | 0x0D => byteOf s.freeSlots.length
  | 0x0E => byteOf s.downlinkFree
  | 0x0F => highByte s.pins.dpr
  | 0x10 => lowByte s.pins.dpr
  | 0x11 => highByte s.directoryChanges
  | 0x12 => lowByte s.directoryChanges
  | 0x13 => highByte s.connectionChanges
  | 0x14 => lowByte s.connectionChanges
  | a => if 0x20 ≤ a then s.port.readout.toList.getD (a - 0x20) 0 else 0

/-- The window a read transaction captures: as it stands, and while full reset is held the reset values with BUSY set and
the lines as they are (R169, R189). -/
def State.windowNow (s : State) : Vector Byte 64 :=
  let shown := if s.hold = .running then s else { State.reset with hold := s.hold, pins := s.pins }
  Vector.ofFn fun a => shown.windowByte a.val

/-- The location a register address names: bit 6 is not decoded (R168). -/
def location (address : BitVec 7) : BitVec 6 := address.setWidth 6

/-- The byte of a capture at an address, wrapping past 3Fh (R168). -/
def captured (capture : Vector Byte 64) (a : BitVec 6) : Byte := capture.toList.getD a.toNat 0

/-- The address byte of a transaction (R194): whether bit 7 makes it a read transaction, and the location that bits 6 to 0
name. -/
def addressByte (byte : Byte) : Bool × BitVec 6 := (byte.getLsbD 7, location (byte.setWidth 7))

/-- SCS falls: a transaction begins (R167). Begun while full reset is held it writes nothing to its end (R189). -/
def State.select (s : State) : State := { s with spi.transaction := some (.addressing (s.hold != .running)) }

/-- SCS rises: the transaction ends (R167). -/
def State.deselect (s : State) : State := { s with spi.transaction := none }

/-- The address byte of the transaction in progress is complete (R167, R194): it makes it a read transaction, which captures
the window (R169), or a write transaction. Any byte comes to nothing where no address byte is awaited. -/
def State.takeAddress (byte : Byte) (s : State) : State :=
  match s.spi.transaction with
  | some (.addressing discarded) =>
    if (addressByte byte).1 then { s with spi := ⟨some (.reading (addressByte byte).2), s.windowNow, []⟩ }
    else { s with spi.transaction := some (.writing (addressByte byte).2 discarded) }
  | _ => s

/-- Data bytes of a read transaction: SDO is driven from the capture, and the address advances (R167, R169). -/
def State.driveBytes (a : BitVec 6) (count : Nat) (s : State) : State :=
  { s with
    spi.transaction := some (.reading (a + BitVec.ofNat 6 count))
    spi.sdo := s.spi.sdo ++ (List.range count).map fun k => captured s.spi.capture (a + BitVec.ofNat 6 k) }

/-! ### Writes -/

/-- The mailbox takes a command code (R172): the argument area is copied, the code stored, BUSY set, COLLIDED cleared. -/
def State.latch (code : Byte) (s : State) : State :=
  { s with
    port.latched := s.port.arguments
    port.command := code
    port.mailbox := .latched
    port.collided := false }

/-- The completion of a command (R174): result, readout, BUSY clear, COMMAND. A result other than OK leaves the readout all
zero (R195). -/
def State.complete (result : Result) (readout : Vector Byte 32) (s : State) : State :=
  State.raise .command
    { s with
      port.result := result
      port.readout := if result = .ok then readout else readoutOf []
      port.mailbox := .idle }

/-- A write of the command byte: ignored with COLLIDED set while BUSY (R173); otherwise latched (R172), and completed at
once when the code names no command (R175). -/
def State.writeCommand (code : Byte) (s : State) : State :=
  if s.port.mailbox = .idle then
    if commandCodes.contains code then s.latch code else (s.latch code).complete .unknownCommand (readoutOf [])
  else { s with port.collided := true }

/-- A byte is stored in the argument area (R172). -/
def State.writeArgument (k : Nat) (value : Byte) (s : State) : State :=
  { s with port.arguments := s.port.arguments.setIfInBounds k value }

/-- A data byte reaches the location at an address (R168); a read-only or unused location discards it. -/
def State.writeLocation (a : BitVec 6) (value : Byte) (s : State) : State :=
  if a = 0x03 then s.writeCommand value
  else if a = 0x05 then s.clearFlags true value
  else if a = 0x06 then s.clearFlags false value
  else if a = 0x07 then s.writeEnables true value
  else if a = 0x08 then s.writeEnables false value
  else if 0x20 ≤ a && a ≤ 0x33 then s.writeArgument (a.toNat - 0x20) value
  else s

/-- A whole data byte (R167, R168). In a write transaction it is written at the current address, unless the transaction is
discarded, and the address advances, wrapping from 3Fh to 00h; in a read transaction the byte at the current address is
driven. With no transaction past its address byte nothing happens. -/
def State.dataByte (value : Byte) (s : State) : State :=
  match s.spi.transaction with
  | some (.writing a discarded) =>
    let advanced := { s with spi.transaction := some (.writing (a + 1) discarded) }
    if discarded then advanced else advanced.writeLocation a value
  | some (.reading a) => s.driveBytes a 1
  | _ => s

/-- A transaction from its start to its first data byte. -/
def State.firstByte (address value : Byte) (s : State) : State := (s.select.takeAddress address).dataByte value

/-! ### Taking a host command -/

/-- What the owner of a command makes of it: the part after the work, the result and the readout. -/
structure Work where
  part : State
  result : Result
  readout : List Byte

/-- Nothing changed and a result other than OK. -/
def State.failed (s : State) (result : Result) : Work := ⟨s, result, []⟩

/-- The owner takes the latched command whole (R174): its work is done, and the completion is still to come. -/
def State.runCommand (work : State → Work) (s : State) : State :=
  let w := work s
  { w.part with port.mailbox := .done w.result (readoutOf w.readout) }

/-- A host command reaches the part. With the command latched by an earlier write it is taken by its owner (R174). Otherwise
the host writes its code to the command byte (R172, R173): with BUSY clear it is latched and taken, with BUSY set the write
is ignored and COLLIDED set, under full reset it is discarded (R189). -/
def State.hostCommand (code : Byte) (take : State → State) (s : State) : State :=
  let s := s.settled
  if s.hold = .running ∧ s.port.mailbox = .latched ∧ s.port.command = code then take s
  else
    let written := s.firstByte 0x03 code
    if s.hold = .running ∧ s.port.mailbox = .idle then take written else written

/-! ### Meanings -/

/-- SPI_READ_CAPTURE (R169): a transaction from its start, and the data bytes read in it. With the read flag of the address
byte clear it is the start of a write transaction (R194). -/
def execSpiReadCapture (address : Byte) (length : Nat) (s : State) : Host.Outcome State Fault Refusal :=
  .next
    (let begun := s.settled.select.takeAddress address
    match begun.spi.transaction with
    | some (.reading a) => begun.driveBytes a length
    | _ => begun)

/-- REGISTER_WRITE (R168): an event of a transaction, with the byte it completes (notes/assumptions/21.md). -/
def execRegisterWrite (event : SpiEvent) (value : Byte) (s : State) : Host.Outcome State Fault Refusal :=
  .next
    (match event with
    | .select => s.settled.select
    | .address => s.settled.takeAddress value
    | .data => s.settled.dataByte value
    | .deselect => s.settled.deselect
    | .first address => s.settled.firstByte address value)

/-- NOTIFY_PENDING_WRITE (R187): the byte at 05h or 06h. -/
def execNotifyPendingWrite (high : Bool) (value : Byte) (s : State) : Host.Outcome State Fault Refusal :=
  .next (s.settled.firstByte (if high then 0x05 else 0x06) value)

/-- NOTIFY_ENABLE_WRITE (R188): the byte at 07h or 08h. -/
def execNotifyEnableWrite (high : Bool) (value : Byte) (s : State) : Host.Outcome State Fault Refusal :=
  .next (s.settled.firstByte (if high then 0x07 else 0x08) value)

/-- COMMAND_COLLISION (R173): a write of the command byte. -/
def execCommandCollision (code : Byte) (s : State) : Host.Outcome State Fault Refusal :=
  .next (s.settled.firstByte 0x03 code)

/-- COMMAND_COMPLETION (R174); without a command whose work is done nothing is completed. -/
def execCommandCompletion (s : State) : Host.Outcome State Fault Refusal :=
  .next (s.event fun s =>
    match s.port.mailbox with
    | .done result readout => s.complete result readout
    | .latched => s
    | .idle => s)

/-- UNKNOWN_COMMAND (R175): a write of the command byte with a code that names no command. -/
def execUnknownCommand (code : Byte) (s : State) : Host.Outcome State Fault Refusal :=
  .next (s.settled.firstByte 0x03 code)

end Sys2Proof.Machine
end

