-- ==== Sys2Proof/Machine/Signalling.lean ====
section
/-! DEFINITION. The drop lines, the Uplink Arbiter and the Uplink Receiver (R134 to R144), with the meanings of UPLINK_GRANT,
UPLINK_HEADER, UPLINK_WORD, DRQ_FALL, DPR_FALL, DPR_RISE and MESSAGE_DEPARTURE. -/

namespace Sys2Proof.Machine

/-- The drop a window is open on. -/
def Window.drop? : Window → Option Drop
  | .idle => none
  | .granted d => some d
  | .receiving d _ _ => some d

/-- The grant line of a drop: high from the grant of a window to it until the window closes (R134). -/
def State.dgt (s : State) (d : Drop) : Bool := s.arbiter.window.drop? = some d

/-- A drop is eligible when its DPR and its DRQ are high (R137). -/
def Pins.eligible (p : Pins) (d : Drop) : Bool := p.dpr.getLsbD d.val && p.drq.getLsbD d.val

/-- The drops in the order of a grant: upward from the one after POINTER, wrapping from 15 to 0, POINTER last (R137). -/
def grantOrder (pointer : Drop) : List Drop := (List.range 16).map fun k => pointer + 1 + Fin.ofNat 16 k

/-- The drop a grant goes to, if it is made: the window is IDLE, a drop is eligible and 12 entries are free (R137). -/
def State.grantee (s : State) : Option Drop :=
  if s.arbiter.window = .idle ∧ Config.grantThreshold ≤ s.downlinkFree then
    (grantOrder s.arbiter.pointer).find? s.pins.eligible
  else none

/-- The grant decision of a frame boundary, made once (R137). -/
def State.considerGrant (s : State) : State :=
  match s.grantee with
  | none => { s with arbiter.grantDue := false }
  | some d => { s with arbiter.grantDue := false, arbiter.pointer := d, arbiter.window := .granted d }

/-- The window closes; its words go with it, and the drop's DGT falls (R138). -/
def State.closeWindow (s : State) : State := { s with arbiter.window := .idle, arbiter.wordDue := false }

/-- A NAK to a window's drop, which raises SIGNAL whether or not the Downlink Queue takes it (R142). -/
def State.makeNak (d : Drop) (reason : Reason) (kind : BitVec 6) (s : State) : State :=
  (s.offer ⟨dropAddress d, .nak reason kind⟩).raise .signal

/-- The header word of a window in GRANTED is judged (R139). -/
def State.judgeHeader (d : Drop) (word : Word) (s : State) : State :=
  let kind := headerKind word
  if kind = 0 then s.closeWindow
  else if uplinkKind kind && decide (4 ≤ headerLength word) && decide (headerLength word ≤ 12) then
    { s with arbiter.window := .receiving d (headerLength word) [word], arbiter.wordDue := false }
  else s.closeWindow.makeNak d .malformed kind

/-- A whole message is judged at the arrival of its last word, which closes the window: NAK(CHECK), NAK(MALFORMED), or handed
on (R140, R143). -/
def State.judgeMessage (d : Drop) (words : List Word) (s : State) : State :=
  let closed := s.closeWindow
  let kind := headerKind (words.headD 0)
  if checkWordRight words then
    match messageOfWords d words with
    | some message => { closed with handedOn := closed.handedOn ++ [message] }
    | none => closed.makeNak d .malformed kind
  else closed.makeNak d .checkWord kind

/-- A word after the header is appended; the last one closes the window (R140). -/
def State.takeWord (d : Drop) (expected : Nat) (words : List Word) (word : Word) (s : State) : State :=
  let received := words ++ [word]
  if expected ≤ received.length then s.judgeMessage d received
  else { s with arbiter.window := .receiving d expected received, arbiter.wordDue := false }

/-- KIND of a window's header as received, 0 where none was received (R141, R142). -/
def Window.kind : Window → BitVec 6
  | .receiving _ _ words => headerKind (words.headD 0)
  | _ => 0

/-- UPLINK_GRANT (R137): the levels of DRQ are sampled and the grant of this frame's boundary is decided; a boundary already
considered or past gives none. -/
def execUplinkGrant (drq : BitVec 16) (s : State) : Host.Outcome State Fault Refusal :=
  .next (s.lineEvent (fun p => { p with drq := drq }) fun s => if s.arbiter.grantDue then s.considerGrant else s)

/-- UPLINK_HEADER (R139): the word of slot 1 in a frame after the grant; in any other slot 1 it is not read (R138). -/
def execUplinkHeader (word : Word) (s : State) : Host.Outcome State Fault Refusal :=
  .next (s.event fun s =>
    match s.arbiter.window with
    | .granted d => if s.arbiter.wordDue then s.judgeHeader d word else s
    | .receiving _ _ _ => s
    | .idle => s)

/-- UPLINK_WORD (R140): the word of slot 1 while the window is RECEIVING, one a frame (R138). -/
def execUplinkWord (word : Word) (s : State) : Host.Outcome State Fault Refusal :=
  .next (s.event fun s =>
    match s.arbiter.window with
    | .receiving d expected words => if s.arbiter.wordDue then s.takeWord d expected words word else s
    | .granted _ => s
    | .idle => s)

/-- DRQ_FALL (R141): the fall of the granted drop's request line closes the window with NAK(TRUNCATED); on any other drop it
changes nothing but the line. -/
def execDrqFall (drop : Drop) (s : State) : Host.Outcome State Fault Refusal :=
  .next (s.lineEvent (fun p => { p with drq := p.drq &&& ~~~BitVec.twoPow 16 drop.val }) fun s =>
    if s.arbiter.window.drop? = some drop then s.closeWindow.makeNak drop .truncated s.arbiter.window.kind else s)

/-- A presence line goes low (R134). -/
def Pins.lowerPresence (drop : Drop) (p : Pins) : Pins := { p with dpr := p.dpr &&& ~~~BitVec.twoPow 16 drop.val }

/-- DPR_FALL (R135): the window open on the drop is closed and discarded, with no NAK. -/
def execDprFall (drop : Drop) (s : State) : Host.Outcome State Fault Refusal :=
  .next (s.lineEvent (Pins.lowerPresence drop) fun s =>
    if s.arbiter.window.drop? = some drop then s.closeWindow else s)

/-- DPR_RISE (R135): the line goes high; no record and no window changes. -/
def execDprRise (drop : Drop) (s : State) : Host.Outcome State Fault Refusal :=
  .next (s.lineEvent (fun p => { p with dpr := p.dpr ||| BitVec.twoPow 16 drop.val }) fun s => s)

/-- MESSAGE_DEPARTURE (R151): at the end of the slot 0 that carried the last word of the head; otherwise none departs. -/
def execMessageDeparture (s : State) : Host.Outcome State Fault Refusal :=
  .next (s.event fun s => if s.departureDue then s.depart else s)

end Sys2Proof.Machine
end

