-- ==== Sys2Proof/Machine/Directory.lean ====
section
/-! DEFINITION. The Station Directory's messages and events: source resolution (R74), ATTACH (R76 to R79), DETACH (R80) and
presence loss (R81). -/

namespace Sys2Proof.Machine

/-- A message is taken as an event of its own (R75): it is no longer among the messages handed on. A message that stands
there no more, or never did, is taken all the same (DESIGN CHOICE: notes/assumptions/5.md). R75 and R143 do not say how long
after its hand-off a message is taken: it stands among them until its row comes, over any number of frames and boundaries
(DESIGN CHOICE: notes/assumptions/27.md). -/
def State.message (command : Instr) (f : State → State) (s : State) : State :=
  s.event fun s => f { s with handedOn := s.handedOn.erase command }

/-- A refusal of source resolution, to the drop address, with the number the message gave (R74). -/
def State.refuseAtDrop (drop : Drop) (reason : Reason) (tag : Option Tag) (reference : Option Reference)
    (number : StationNumber) (s : State) : State :=
  s.offer ⟨dropAddress drop, .refuseDrop reason tag reference number⟩

/-- Source resolution (R74): the message of a source without a record, or with a record on another drop, is refused to the
drop address; any other passes to its owner with the source's handle and record. -/
def State.resolve (drop : Drop) (source : StationNumber) (tag : Option Tag) (reference : Option Reference)
    (owner : Handle → Station → State → State) (s : State) : State :=
  match s.lookup source with
  | none => s.refuseAtDrop drop .notAdmitted tag reference source
  | some (h, r) => if r.drop = drop then owner h r s else s.refuseAtDrop drop .misrouted tag reference source

/-- A refusal of an owning block to the source's own station number, with neither tag nor reference (R193). -/
def State.refusePlain (h : Handle) (reason : Reason) (s : State) : State := s.tell h (.refuse reason none none)

/-! ### ATTACH -/

/-- The number is held by the tier-0 record of the drop, so the ATTACH is a restart (R76, R79). -/
def State.restartOf (s : State) (drop : Drop) (number : StationNumber) : Option (Handle × Station) :=
  match s.lookup number with
  | some (h, r) => if r.drop = drop && r.via = none then some (h, r) else none
  | none => none

/-- The checks of R76 in order; the reason of the first that fails. -/
def State.attachRefusal (s : State) (drop : Drop) (number : StationNumber) : Option Reason :=
  match s.highway with
  | .closed => some .highwayClosed
  | .draining => some .highwayDraining
  | .opened =>
    if !validNumber number then some .badNumber
    else if s.listed number then some .denied
    else if (s.restartOf drop number).isSome then none
    else if (s.lookup number).isSome then some .duplicate
    else if (s.dropHolder drop).isSome then some .dropOccupied
    else if s.freeHandle.isNone then some .directoryFull
    else none

/-- The record that admission by ATTACH makes (R78). -/
def State.attachedRecord (s : State) (drop : Drop) (number : StationNumber) (kind : StationKind) (cls : ClassNo) :
    Station where
  number := number
  kind := kind
  drop := drop
  via := none
  tier := 0
  cls := cls
  state := if kind = .relay then .rosterPending else .admitted
  quota := (s.classPolicy cls).defaultQuota
  syncOwed := false
  roster := if kind = .relay then some [] else none
  generation := none
  deadline := if kind = .relay then some (s.countdownOf s.rosterPeriod) else none

/-- A record is added: DIRECTORY CHANGES advances and JOINED is raised (R73). -/
def State.addStation (h : Handle) (r : Station) (s : State) : State :=
  ((s.setStation h (some r)).bumpDirectory 1).raise .joined

/-- Admission by ATTACH at the lowest free handle, with WELCOME (R78). -/
def State.admitByAttach (drop : Drop) (number : StationNumber) (kind : StationKind) (cls : ClassNo) (s : State) : State :=
  match s.freeHandle with
  | none => s
  | some h =>
    let r := s.attachedRecord drop number kind cls
    (s.addStation h r).offer ⟨number, .welcome h r.quota cls (kind = .relay)⟩

/-- A departure with reason DEPARTED: the record and those whose VIA names it, if it is a top relay, go by the cascade
(R82, R83). -/
def State.departWithSubtree (h : Handle) (r : Station) (s : State) : State :=
  let set := s.removalSet h r
  s.cascade set set .departed fun s => s

/-- A refused ATTACH of a listed number gives its entry one hit and raises DENY_HIT (R77, R114). -/
def State.denyHit (number : StationNumber) (s : State) : State := (s.hit number).raise .denyHit

/-- ATTACH is taken by the Directory (R76 to R79). -/
def State.takeAttach (drop : Drop) (number : StationNumber) (kind : StationKind) (cls : ClassNo) (s : State) : State :=
  match s.attachRefusal drop number with
  | some reason =>
    (if reason = .denied then s.denyHit number else s).refuseAtDrop drop reason none none number
  | none =>
    match s.restartOf drop number with
    | some (h, r) => (s.departWithSubtree h r).admitByAttach drop number kind cls
    | none => s.admitByAttach drop number kind cls

/-- ATTACH (R76). -/
def execAttach (drop : Drop) (source : StationNumber) (kind : StationKind) (cls : ClassNo) (s : State) :
    Host.Outcome State Fault Refusal :=
  .next (s.message (.attach drop source kind cls) fun s => s.takeAttach drop source kind cls)

/-- DETACH is taken from a tier-0 station, and refused ROSTER_MANAGED from a downstream one (R80). -/
def State.takeDetach (h : Handle) (r : Station) (s : State) : State :=
  if r.via = none then s.departWithSubtree h r else s.refusePlain h .rosterManaged

/-- DETACH (R80). -/
def execDetach (drop : Drop) (source : StationNumber) (s : State) : Host.Outcome State Fault Refusal :=
  .next (s.message (.detach drop source) fun s => s.resolve drop source none none State.takeDetach)

/-- Every record of the drop is removed with reason DEPARTED (R81). -/
def State.losePresence (drop : Drop) (s : State) : State :=
  let set := s.onDrop drop
  s.cascade set set .departed fun s => s

/-- PRESENCE_LOSS (R81): the line has fallen, and the Directory takes the fall. -/
def execPresenceLoss (drop : Drop) (s : State) : Host.Outcome State Fault Refusal :=
  .next (s.lineEvent (Pins.lowerPresence drop) fun s => s.losePresence drop)

end Sys2Proof.Machine
end

