-- ==== Sys2Proof/Machine/Leases.lean ====
section
/-! DEFINITION. The messages the Lease Engine owns: REQUEST (R26 to R28), ACCEPT (R30), DECLINE (R31), RENEW (R35), RELEASE
(R32 to R34) and QUERY (R43, R44). -/

namespace Sys2Proof.Machine

/-! ### REQUEST -/

/-- The checks of R26 in order; the reason of the first that fails. -/
def State.requestRefusal (s : State) (h : Handle) (r : Station) (peer : StationNumber) (cls : ClassNo) (width : Nat) :
    Option Reason :=
  match s.highway with
  | .draining => some .highwayDraining
  | .closed => some .highwayClosed
  | .opened =>
    if r.state ≠ .admitted then some .notReady
    else if (s.entryOf h).isSome then some .alreadyQueued
    else if peer = r.number then some .selfPeer
    else
      match s.lookup peer with
      | none => some .peerUnknown
      | some (p, pr) =>
        if pr.state ≠ .admitted then some .peerNotReady
        else if cls < r.cls then some .badClass
        else if width < 1 ∨ (s.classPolicy cls).maxWidth < width then some .badWidth
        else if Config.partyLimit ≤ s.partyCount h ∨ Config.partyLimit ≤ s.partyCount p then some .connectionLimit
        else if r.quota < s.usage h + width then some .quota
        else none

/-- The entry a request makes if it is queued (R52). -/
def State.entryFor (s : State) (h : Handle) (peer : StationNumber) (p : Handle) (cls : ClassNo) (contiguous : Bool)
    (width : Nat) (tag : Tag) : Entry where
  source := h
  peerNumber := peer
  peer := p
  cls := cls
  width := width
  contiguous := contiguous
  tag := tag
  countdown := s.countdownOf (s.classPolicy cls).queuePeriod

/-- A request that could not be placed is handed on (R28): to pre-emption where its class may and it is not contiguous, and
to queueing otherwise or where there are too few victims (R63, R65). One service pass follows for each victim (R67). -/
def State.handOn (h : Handle) (peer : StationNumber) (p : Handle) (cls : ClassNo) (contiguous : Bool) (width : Nat)
    (tag : Tag) (s : State) : State :=
  let queued := s.joinQueue (s.entryFor h peer p cls contiguous width tag)
  if (s.classPolicy cls).mayPreempt && !contiguous then
    match s.victimsFor cls width with
    | some victims => State.servicePasses victims.length (s.preempt victims h p cls width tag)
    | none => queued
  else queued

/-- A request that passed every check is placed if there are an unused index and room (R27), and handed on otherwise. -/
def State.serveRequest (h : Handle) (peer : StationNumber) (p : Handle) (cls : ClassNo) (contiguous : Bool) (width : Nat)
    (tag : Tag) (s : State) : State :=
  match s.room contiguous width with
  | some (i, slots) => s.place i (s.offeredRecord h p cls contiguous width tag slots)
  | none => s.handOn h peer p cls contiguous width tag

/-- REQUEST is taken by the Lease Engine (R26). -/
def State.takeRequest (peer : StationNumber) (cls : ClassNo) (contiguous : Bool) (width : Nat) (tag : Tag) (h : Handle)
    (r : Station) (s : State) : State :=
  match s.requestRefusal h r peer cls width with
  | some reason => s.tell h (.refuse reason (some tag) none)
  | none =>
    match s.lookup peer with
    | none => s
    | some (p, _) => s.serveRequest h peer p cls contiguous width tag

/-- REQUEST (R26). -/
def execRequest (drop : Drop) (source peer : StationNumber) (cls : ClassNo) (contiguous : Bool) (width : Fin 16)
    (tag : Tag) (s : State) : Host.Outcome State Fault Refusal :=
  .next (s.message (.request drop source peer cls contiguous width tag) fun s =>
    s.resolve drop source (some tag) none (State.takeRequest peer cls contiguous width.val tag))

/-! ### Messages that name a reference -/

/-- The checks of R24, before any check of the message's kind: the record the reference names, with the role of the source,
or the reason of the refusal. -/
def State.named (s : State) (reference : Reference) (h : Handle) : Except Reason (Connection × Role) :=
  match s.connection reference.index with
  | none => .error .unknownConnection
  | some c =>
    if s.serial reference.index ≠ reference.serial then .error .unknownConnection
    else if c.originator = h then .ok (c, .originator)
    else if c.answerer = h then .ok (c, .answerer)
    else .error .notParty

/-- A refusal that carries the reference as named (R24, R193). -/
def State.refuseNamed (h : Handle) (reference : Reference) (reason : Reason) (s : State) : State :=
  s.tell h (.refuse reason none (some reference))

/-- A message that names a reference, after source resolution (R24). -/
def State.onReference (reference : Reference) (f : Connection → Role → Handle → State → State) (h : Handle) (_r : Station)
    (s : State) : State :=
  match s.named reference h with
  | .error reason => s.refuseNamed h reference reason
  | .ok (c, role) => f c role h s

/-- The connection becomes ACTIVE on the answerer's ACCEPT (R30). -/
def State.activate (i : Index) (c : Connection) (s : State) : State :=
  let c' := { c with state := .active, countdown := some (s.countdownOf (s.classPolicy c.cls).leasePeriod) }
  ((((s.holdClaim i).setConnection i (some c')).bumpConnections 1).raise .lease).sendGrants i c'

/-- ACCEPT after R24 (R30). -/
def State.takeAccept (reference : Reference) (c : Connection) (role : Role) (h : Handle) (s : State) : State :=
  match role, c.state with
  | .originator, _ => s.refuseNamed h reference .notAnswerer
  | .answerer, .offered => s.activate reference.index c
  | .answerer, .pending => s.refuseNamed h reference .wrongState
  | .answerer, .active => s.refuseNamed h reference .wrongState

/-- ACCEPT (R30). -/
def execAccept (drop : Drop) (source : StationNumber) (reference : Reference) (s : State) :
    Host.Outcome State Fault Refusal :=
  .next (s.message (.accept drop source reference) fun s =>
    s.resolve drop source none (some reference) (State.onReference reference (State.takeAccept reference)))

/-- The answerer turns an OFFERED connection down: withdrawal with REFUSE(DECLINED) to the originator (R31). -/
def State.turnDown (i : Index) (c : Connection) (s : State) : State :=
  (s.removeConnection i c (some (.refuse .declined (some c.tag) none)) none).servicePass

/-- DECLINE after R24 (R31). -/
def State.takeDecline (reference : Reference) (c : Connection) (role : Role) (h : Handle) (s : State) : State :=
  match role, c.state with
  | .originator, _ => s.refuseNamed h reference .notAnswerer
  | .answerer, .offered => s.turnDown reference.index c
  | .answerer, .pending => s.refuseNamed h reference .wrongState
  | .answerer, .active => s.refuseNamed h reference .wrongState

/-- DECLINE (R31). -/
def execDecline (drop : Drop) (source : StationNumber) (reference : Reference) (s : State) :
    Host.Outcome State Fault Refusal :=
  .next (s.message (.decline drop source reference) fun s =>
    s.resolve drop source none (some reference) (State.onReference reference (State.takeDecline reference)))

/-- The checks of RENEW after R24, in order (R35). -/
def State.renewRefusal (s : State) (c : Connection) (role : Role) : Option Reason :=
  if role = .answerer then some .notOriginator
  else if c.state ≠ .active then some .wrongState
  else if c.pinned then some .pinned
  else if s.highway = .draining then some .highwayDraining
  else none

/-- A lease is set from the class's LEASE PERIOD in force, and RENEWED tells the originator (R35, R40). -/
def State.grantLease (i : Index) (c : Connection) (s : State) : State :=
  let period := (s.classPolicy c.cls).leasePeriod
  let c' := { c with countdown := some (s.countdownOf period) }
  ((s.setConnection i (some c')).bumpConnections 1).tell c.originator (.renewed (s.referenceOf i) period)

/-- RENEW after R24 (R35). -/
def State.takeRenew (reference : Reference) (c : Connection) (role : Role) (h : Handle) (s : State) : State :=
  match s.renewRefusal c role with
  | some reason => s.refuseNamed h reference reason
  | none => s.grantLease reference.index c

/-- RENEW (R35). -/
def execRenew (drop : Drop) (source : StationNumber) (reference : Reference) (s : State) :
    Host.Outcome State Fault Refusal :=
  .next (s.message (.renew drop source reference) fun s =>
    s.resolve drop source none (some reference) (State.onReference reference (State.takeRenew reference)))

/-- RELEASE after R24, by the state of the connection: PENDING (R33), OFFERED (R31, R32), ACTIVE (R34). -/
def State.takeRelease (reference : Reference) (c : Connection) (role : Role) (h : Handle) (s : State) : State :=
  let i := reference.index
  let byOriginator : Option DownBody := some (.released (s.referenceOf i) .byOriginator)
  let byAnswerer : Option DownBody := some (.released (s.referenceOf i) .byAnswerer)
  match c.state, role with
  | .pending, .originator => (s.removeConnection i c byOriginator none).servicePass
  | .pending, .answerer => s.refuseNamed h reference .wrongState
  | .offered, .originator => (s.removeConnection i c byOriginator byOriginator).servicePass
  | .offered, .answerer => s.turnDown i c
  | .active, .originator =>
    if c.pinned then s.refuseNamed h reference .pinned
    else (s.removeConnection i c byOriginator byOriginator).servicePass
  | .active, .answerer =>
    if c.pinned then s.refuseNamed h reference .pinned
    else (s.removeConnection i c byAnswerer byAnswerer).servicePass

/-- RELEASE (R34). -/
def execRelease (drop : Drop) (source : StationNumber) (reference : Reference) (s : State) :
    Host.Outcome State Fault Refusal :=
  .next (s.message (.release drop source reference) fun s =>
    s.resolve drop source none (some reference) (State.onReference reference (State.takeRelease reference)))

/-! ### QUERY -/

/-- The STATUS of a connection for a station, if R43 lists it for that station. -/
def State.statusFor (s : State) (h : Handle) (i : Index) : Option DownBody :=
  match s.connection i with
  | none => none
  | some c =>
    if c.originator = h then
      some (.status (s.referenceOf i) c.state .originator (s.numberOf c.answerer) c.cls c.width c.contiguous c.slotList
        c.pinned c.remaining c.tag)
    else if c.answerer = h ∧ c.state ≠ .pending then
      some (.status (s.referenceOf i) c.state .answerer (s.numberOf c.originator) c.cls c.width c.contiguous c.slotList
        c.pinned c.remaining 0)
    else none

/-- The STATUS messages of a QUERY, in index order (R43). -/
def State.statuses (s : State) (h : Handle) : List DownBody := allIndices.filterMap (s.statusFor h)

/-- QUERY is answered with the STATUS messages and one STATUS_END (R43, R44). -/
def State.takeQuery (h : Handle) (_r : Station) (s : State) : State :=
  let statuses := s.statuses h
  let told := statuses.foldl (fun s body => s.tell h body) s
  told.tell h (.statusEnd statuses.length ((s.entryOf h).map (·.tag)))

/-- QUERY (R43). -/
def execQuery (drop : Drop) (source : StationNumber) (s : State) : Host.Outcome State Fault Refusal :=
  .next (s.message (.query drop source) fun s => s.resolve drop source none none State.takeQuery)

/-! ### CANCEL, which the Wait Queue owns -/

/-- CANCEL is taken by the Wait Queue (R59). -/
def State.takeCancel (tag : Tag) (h : Handle) (r : Station) (s : State) : State :=
  if r.state ≠ .admitted then s.tell h (.refuse .notReady (some tag) none)
  else
    match s.entryOf h with
    | none => s.tell h (.refuse .notQueued (some tag) none)
    | some e =>
      if e.tag = tag then (s.removeEntry e).tell h (.refuse .cancelled (some tag) none)
      else s.tell h (.refuse .notQueued (some tag) none)

/-- CANCEL (R59). -/
def execCancel (drop : Drop) (source : StationNumber) (tag : Tag) (s : State) : Host.Outcome State Fault Refusal :=
  .next (s.message (.cancel drop source tag) fun s => s.resolve drop source (some tag) none (State.takeCancel tag))

end Sys2Proof.Machine
end

