-- ==== Sys2Proof/Machine/Administration.lean ====
section
/-! DEFINITION. The commands that administer: DENY_ADD (R115, R116), DENY_REMOVE (R117), EVICT (R86), SET_QUOTA (R88), PIN
(R39), UNPIN (R40), FORCE_RELEASE (R41), SET_POLICY (R128) and SET_TIMING (R129). -/

namespace Sys2Proof.Machine

open Sys2Proof.Config (ClassPolicy)

/-! ### The deny list and the directory -/

/-- The list with an entry at the position its number takes in ascending order (R113, R115). -/
def insertDeny (e : DenyEntry) (list : List DenyEntry) : List DenyEntry :=
  list.takeWhile (fun x => x.number < e.number) ++ e :: list.dropWhile (fun x => x.number < e.number)

/-- The position of a number's entry, counted from 1 (R113). -/
def denyPosition (n : StationNumber) (list : List DenyEntry) : Nat := list.findIdx (fun x => x.number = n) + 1

/-- The station a number names is evicted, if there is one (R85). -/
def State.evictNumber (n : StationNumber) (reason : Reason) (s : State) : State :=
  match s.lookup n with
  | some (h, r) => s.evictStation h r reason
  | none => s

/-- DENY_ADD of the number in A0 to A3 with the code in A4 (R115, R116). -/
def State.denyAddWork (s : State) : Work :=
  let n := s.argNumber
  if !validNumber n then s.failed .badArgument
  else if s.listed n then s.failed .alreadyListed
  else if Config.denyCapacity ≤ s.denyList.length then s.failed .listFull
  else
    let e : DenyEntry := ⟨n, s.arg 4, 0⟩
    let list := insertDeny e s.denyList
    ⟨State.evictNumber n .denied { s with denyList := list }, .ok, denyForm (denyPosition n list) list.length e⟩

/-- DENY_REMOVE of the number in A0 to A3 (R117). -/
def State.denyRemoveWork (s : State) : Work :=
  let n := s.argNumber
  match s.denyList.find? (fun e => e.number = n) with
  | none => s.failed .notFound
  | some e =>
    ⟨{ s with denyList := s.denyList.erase e }, .ok, denyForm (denyPosition n s.denyList) s.denyList.length e⟩

/-- EVICT of the number in A0 to A3 (R86). -/
def State.evictWork (s : State) : Work :=
  match s.lookup s.argNumber with
  | none => s.failed .notFound
  | some (h, r) => ⟨s.evictStation h r .host, .ok, []⟩

/-- SET_QUOTA of the number in A0 to A3 to the quota in A4, with its service pass (R88). -/
def State.setQuotaWork (s : State) : Work :=
  let quota := s.argNat 4
  if quota < 1 ∨ 16 < quota then s.failed .badArgument
  else
    match s.lookup s.argNumber with
    | none => s.failed .notFound
    | some (h, r) =>
      let changed := (s.setStation h (some { r with quota := quota })).bumpDirectory (if r.quota = quota then 0 else 1)
      ⟨changed.servicePass, .ok, []⟩

/-! ### Connections -/

/-- The argument checks of R9 on a slot list: 1 to 8 numbers, each in 2 to 63, none repeated. -/
def slotArgumentsGood (list : List Nat) : Bool :=
  1 ≤ list.length && list.length ≤ 8 && list.all (fun n => 2 ≤ n && n ≤ 63) && list.Nodup

/-- A list of bearer slots in ascending order (R9). -/
def ascending (list : List Nat) : List Nat := bearerSlots.filter fun n => n ∈ list

/-- The stored list is a run of consecutive numbers (R9). -/
def isRun (list : List Nat) : Bool := list = slotRun (list.headD 0) list.length

/-- The record PIN makes (R39 step 3). -/
def pinnedRecord (originator answerer : Handle) (cls : ClassNo) (slots : List Nat) : Connection where
  state := .active
  pinned := true
  originator := originator
  answerer := answerer
  cls := cls
  width := slots.length
  contiguous := isRun slots
  tag := 0
  slotList := slots
  countdown := none

/-- A PIN that passes its checks (R39 steps 1 to 6). -/
def State.makePinned (i : Index) (c : Connection) (s : State) : State :=
  ((((s.reserveClaim i c.slotList).holdClaim i).createConnection i c).raise .lease).sendGrants i c

/-- PIN's checks 4 to 7 and its effect, for two records of the directory (R39). -/
def State.pinParties (originator answerer : Handle × Station) (cls : ClassNo) (slots : List Nat) (s : State) : Work :=
  if originator.2.state ≠ .admitted ∨ answerer.2.state ≠ .admitted then s.failed .notAdmitted
  else if Config.partyLimit ≤ s.partyCount originator.1 ∨ Config.partyLimit ≤ s.partyCount answerer.1 then
    s.failed .partyLimit
  else
    match s.unusedIndex with
    | none => s.failed .tableFull
    | some i =>
      if slots.all s.slotFree then
        let c := pinnedRecord originator.1 answerer.1 cls slots
        let made := s.makePinned i c
        ⟨made, .ok, made.connectionForm i c⟩
      else s.failed .slotBusy

/-- PIN (R39): originator in A0 to A3, answerer in A4 to A7, class in A8, slot count in A9, slots from A10. A count above 8
fails the checks of R9 and its slot bytes decide nothing (R183). -/
def State.pinWork (s : State) : Work :=
  if bound : s.argNat 8 < 4 then
    if s.argNat 9 < 1 ∨ 8 < s.argNat 9 ∨ !slotArgumentsGood s.argSlots ∨ s.argNumber = s.argNumber4 then
      s.failed .badArgument
    else if s.highway ≠ .opened then s.failed .wrongState
    else
      match s.lookup s.argNumber, s.lookup s.argNumber4 with
      | some originator, some answerer =>
        s.pinParties originator answerer ⟨s.argNat 8, bound⟩ (ascending s.argSlots)
      | _, _ => s.failed .notFound
  else s.failed .badArgument

/-- The in-use record the reference in A0 names with its current serial (R40, R41). -/
def State.argConnection (s : State) : Option (Index × Connection) :=
  let reference := Reference.ofByte (s.arg 0)
  if s.serial reference.index = reference.serial then
    (s.connection reference.index).map fun c => (reference.index, c)
  else none

/-- UNPIN (R40). -/
def State.unpinWork (s : State) : Work :=
  match s.argConnection with
  | none => s.failed .notFound
  | some (i, c) =>
    if c.pinned then
      let unpinned := s.grantLease i { c with pinned := false }
      ⟨unpinned, .ok, ((unpinned.connection i).map (unpinned.connectionForm i)).getD []⟩
    else s.failed .wrongState

/-- FORCE_RELEASE (R41), with the service pass its removal starts (R25). -/
def State.forceReleaseWork (s : State) : Work :=
  match s.argConnection with
  | none => s.failed .notFound
  | some (i, c) =>
    let removed := s.removeConnection i c (some (s.noticeToOriginator i c .forced)) (s.noticeToAnswerer i c .forced)
    ⟨removed.servicePass, .ok, s.connectionForm i c⟩

/-! ### Policy -/

/-- The class record in A1 to A5 (R128, R195). -/
def State.argPolicy (s : State) : ClassPolicy :=
  ⟨s.argNat 1, s.argNat 2, s.argNat 3, s.argNat 4, s.argNat 5 = 1⟩

/-- The range checks of R128 on A1 to A5. -/
def State.policyArgumentsGood (s : State) : Bool :=
  1 ≤ s.argNat 1 && 1 ≤ s.argNat 2 && s.argNat 2 ≤ 8 && 1 ≤ s.argNat 3 && s.argNat 3 ≤ 16 && s.argNat 5 ≤ 1

/-- SET_POLICY of the class in A0, with its service pass (R128). -/
def State.setPolicyWork (s : State) : Work :=
  if bound : s.argNat 0 < 4 then
    if s.policyArgumentsGood then
      let changed : State := { s with policy := s.policy.set (s.argNat 0) s.argPolicy }
      ⟨changed.servicePass, .ok, changed.policyForm ⟨s.argNat 0, bound⟩⟩
    else s.failed .badArgument
  else s.failed .badArgument

/-- SET_TIMING to the periods in A0 and A1 (R129). -/
def State.setTimingWork (s : State) : Work :=
  if s.argNat 0 < 1 ∨ 15 < s.argNat 0 ∨ s.argNat 1 < 1 then s.failed .badArgument
  else
    let changed : State := { s with answerPeriod := s.argNat 0, rosterPeriod := s.argNat 1 }
    ⟨changed, .ok, changed.timingForm⟩

/-! ### Meanings -/

/-- DENY_ADD (R115, R116). -/
def execDenyAdd (s : State) : Host.Outcome State Fault Refusal :=
  .next (s.hostCommand 0x20 (State.runCommand State.denyAddWork))

/-- DENY_REMOVE (R117). -/
def execDenyRemove (s : State) : Host.Outcome State Fault Refusal :=
  .next (s.hostCommand 0x21 (State.runCommand State.denyRemoveWork))

/-- EVICT (R86). -/
def execEvict (s : State) : Host.Outcome State Fault Refusal :=
  .next (s.hostCommand 0x22 (State.runCommand State.evictWork))

/-- SET_QUOTA (R88). -/
def execSetQuota (s : State) : Host.Outcome State Fault Refusal :=
  .next (s.hostCommand 0x23 (State.runCommand State.setQuotaWork))

/-- PIN (R39). -/
def execPin (s : State) : Host.Outcome State Fault Refusal :=
  .next (s.hostCommand 0x24 (State.runCommand State.pinWork))

/-- UNPIN (R40). -/
def execUnpin (s : State) : Host.Outcome State Fault Refusal :=
  .next (s.hostCommand 0x25 (State.runCommand State.unpinWork))

/-- FORCE_RELEASE (R41). -/
def execForceRelease (s : State) : Host.Outcome State Fault Refusal :=
  .next (s.hostCommand 0x26 (State.runCommand State.forceReleaseWork))

/-- SET_POLICY (R128). -/
def execSetPolicy (s : State) : Host.Outcome State Fault Refusal :=
  .next (s.hostCommand 0x27 (State.runCommand State.setPolicyWork))

/-- SET_TIMING (R129). -/
def execSetTiming (s : State) : Host.Outcome State Fault Refusal :=
  .next (s.hostCommand 0x28 (State.runCommand State.setTimingWork))

end Sys2Proof.Machine
end

