-- ==== Sys2Proof/Machine/Boundaries.lean ====
section
/-! DEFINITION. The meanings of the boundary events: GUARD_END, LEASE_COUNTDOWN_WALK, LEASE_EXPIRY, ANSWER_EXPIRY,
QUEUE_DEADLINE_WALK, QUEUE_TIMEOUT, ROSTER_DEADLINE_WALK and ROSTER_DEADLINE_EXPIRY. A block takes the event of a boundary
once; with no boundary to take, or no expiry due, nothing happens (notes/assumptions/2.md). -/

namespace Sys2Proof.Machine

/-- GUARD_END (R15, R16). -/
def execGuardEnd (s : State) : Host.Outcome State Fault Refusal := .next (s.event State.takeOwedGuardEnd)

/-- LEASE_COUNTDOWN_WALK (R36), up to the first countdown that reaches 0. -/
def execLeaseCountdownWalk (s : State) : Host.Outcome State Fault Refusal := .next (s.event State.takeOwedLeaseWalk)

/-- The connection at whose expiry the walk stands has the state. -/
def State.dueIn (s : State) (state : ConnectionState) : Bool :=
  match s.due with
  | some (.connection i) => (s.connection i).any fun c => c.state = state
  | _ => false

/-- LEASE_EXPIRY (R37): the ACTIVE connection at whose expiry the walk stands; the walk then moves on (R36 step 3). -/
def execLeaseExpiry (s : State) : Host.Outcome State Fault Refusal :=
  .next (if s.hold = .running ∧ s.dueIn .active then s.takeDue else s)

/-- ANSWER_EXPIRY (R38): the OFFERED connection at whose expiry the walk stands. -/
def execAnswerExpiry (s : State) : Host.Outcome State Fault Refusal :=
  .next (if s.hold = .running ∧ s.dueIn .offered then s.takeDue else s)

/-- QUEUE_DEADLINE_WALK (R57), up to the first countdown that reaches 0. -/
def execQueueDeadlineWalk (s : State) : Host.Outcome State Fault Refusal := .next (s.event State.takeOwedQueueWalk)

/-- The Wait Queue's walk stands at an entry. -/
def State.entryDue (s : State) : Bool :=
  match s.due with
  | some (.entry _) => true
  | _ => false

/-- QUEUE_TIMEOUT (R57 step 3). -/
def execQueueTimeout (s : State) : Host.Outcome State Fault Refusal :=
  .next (if s.hold = .running ∧ s.entryDue then s.takeDue else s)

/-- ROSTER_DEADLINE_WALK (R107), up to the first deadline that reaches 0. -/
def execRosterDeadlineWalk (s : State) : Host.Outcome State Fault Refusal := .next (s.event State.takeOwedRosterWalk)

/-- The Roster Checker's walk stands at a relay. -/
def State.relayDue (s : State) : Bool :=
  match s.due with
  | some (.relay _) => true
  | _ => false

/-- ROSTER_DEADLINE_EXPIRY (R108). -/
def execRosterDeadlineExpiry (s : State) : Host.Outcome State Fault Refusal :=
  .next (if s.hold = .running ∧ s.relayDue then s.takeDue else s)

end Sys2Proof.Machine
end

