-- ==== Sys2Proof/Machine/Frames.lean ====
section
/-! DEFINITION. Full reset (R1, R19, R144, R166, R189), the release, and the frame start (R1, R2, R137, R138, R149), with the
meanings of POWER_UP, RST_LOW, RST_HIGH, RESET_RELEASE and FRAME_START. -/

namespace Sys2Proof.Machine

/-- A transaction in progress when full reset is taken: a write, or one whose address byte is still to come, has its further
bytes discarded to its end, and a read goes on from its capture (R189). -/
def SpiTransaction.underReset : SpiTransaction → SpiTransaction
  | .addressing _ => .addressing true
  | .writing address _ => .writing address true
  | .reading address => .reading address

/-- The Frame Timer is stopped: RST is low or the supply is not stable (R1). -/
def Hold.stopped (h : Hold) : Bool := h.supply || h.rst

/-- Full reset is taken for a cause or a further one: every block is held at its reset values, the Downlink Queue empty (R154,
R166). Under a host RESET alone the Frame Timer runs on and the word in slot 0 stands; otherwise the Frame Timer is stopped
(R1; notes/assumptions/24.md). -/
def State.enterReset (h : Hold) (s : State) : State :=
  { State.reset with
    pending := s.pending
    hold := h
    timer := if h.stopped then ⟨0, false, false, s.timer.hfsPulses⟩ else { s.timer with firstFrameDue := false }
    downlink := ⟨[], none, if h.stopped then none else s.downlink.hdo⟩
    spi := { s.spi with transaction := s.spi.transaction.map SpiTransaction.underReset }
    pins := s.pins }

/-- The release of full reset, before its first frame starts: the reset values of R189, R145 and R136. -/
def State.release (s : State) : State :=
  { State.reset with
    pending := s.pending
    timer := ⟨0, false, true, s.timer.hfsPulses⟩
    spi := s.spi
    pins := s.pins }

/-- A frame starts (R1): HFS pulses, the frame position advances, the parity is inverted at position 0 and the four blocks
are owed their boundary event (R2); the slot 0 word is chosen (R149). A grant is to be considered at this boundary only
with no window open (R137), and slot 1 belongs to a window that is open now (R138). The word is chosen before anything that
the same boundary's guard end and walks offer, an order that R149 leaves open (DESIGN CHOICE: notes/assumptions/26.md). Whether
the window is IDLE at this boundary is read together with that choice, so a fall of DRQ in the same instant, and its NAK, come
before both or after both; R137, R141 and R149 leave open that they come between (DESIGN CHOICE: notes/assumptions/28.md). -/
def State.startFrame (s : State) : State :=
  let position : Fin 64 := if s.timer.firstFrameDue then 0 else s.timer.position + 1
  let boundary : Bool := position = 0
  let parity := if boundary && !s.timer.firstFrameDue then !s.timer.parity else s.timer.parity
  State.chooseWord
    { s with
      timer := ⟨position, parity, false, s.timer.hfsPulses + 1⟩
      owed := if boundary then ⟨true, true, true, true⟩ else s.owed
      arbiter.grantDue := s.arbiter.window = .idle
      arbiter.wordDue := s.arbiter.window != .idle }

/-- What the frame that ends has still left: a departure (R151), and the boundary events no command has taken, each with its
expiries. The order among them is a DESIGN CHOICE: notes/assumptions/3.md. -/
def State.finishFrame (s : State) : State :=
  let departed := if s.settled.departureDue then s.settled.depart else s.settled
  departed.takeOwedGuardEnd.takeOwedLeaseWalk.settled.takeOwedQueueWalk.settled.takeOwedRosterWalk.settled

/-- A cause of full reset is over, which leaves the causes given: full reset is released, and the first frame begins, once
neither RST nor the supply stops the Frame Timer (R1, R166). -/
def State.endCause (left : Hold) (s : State) : State :=
  if left.stopped then { s with hold := left } else s.release.startFrame

/-- POWER_UP: the part is in full reset from power-up on; RST keeps its level (R166). -/
def execPowerUp (s : State) : Host.Outcome State Fault Refusal := .next (s.enterReset ⟨true, s.hold.rst, false⟩)

/-- RST_LOW: the part is in full reset while RST is low, whether or not the supply is stable (R166). -/
def execRstLow (s : State) : Host.Outcome State Fault Refusal := .next (s.enterReset ⟨s.hold.supply, true, false⟩)

/-- RST_HIGH: the rise releases full reset, and the first frame begins, unless the supply is not yet stable (R1, R166). With
RST high already nothing changes (DESIGN CHOICE: notes/assumptions/2.md). -/
def execRstHigh (s : State) : Host.Outcome State Fault Refusal :=
  .next (if s.hold.rst then s.endCause { s.hold with rst := false } else s)

/-- RESET_RELEASE: after a host RESET the next frame start releases full reset and becomes frame position 0 (R1, R166). After
power-up it stands for the supply becoming stable, which the table has no row for: full reset is released unless RST is low
(DESIGN CHOICE: notes/assumptions/7.md). -/
def execResetRelease (s : State) : Host.Outcome State Fault Refusal :=
  .next
    (if s.hold.supply then s.endCause { s.hold with supply := false }
    else if s.hold.host && !s.hold.rst then s.release.startFrame
    else s)

/-- FRAME_START (R1). Under a host RESET it is the release (R1; notes/assumptions/23.md); with RST low or the supply not
stable no frame starts. -/
def execFrameStart (s : State) : Host.Outcome State Fault Refusal :=
  .next
    (if s.hold = .running then s.finishFrame.startFrame
    else if s.hold.stopped then s
    else s.release.startFrame)

end Sys2Proof.Machine
end

