-- ==== Sys2Proof/Machine/HighwayControl.lean ====
section
/-! DEFINITION. Highway Control's commands: OPEN (R157), DRAIN (R158, R159), CLOSE (R163, R164) and RESET (R166, R177). -/

namespace Sys2Proof.Machine

/-- OK with a readout buffer of zero bytes (R184). -/
def State.done (s : State) : Work := ⟨s, .ok, []⟩

/-- OPEN: from CLOSED and DRAINING the state changes and is broadcast (R157). -/
def State.openWork (s : State) : Work :=
  match s.highway with
  | .opened => s.done
  | .closed => (State.broadcast (.highwayState .opened) { s with highway := .opened }).done
  | .draining => (State.broadcast (.highwayState .opened) { s with highway := .opened }).done

/-- The drain withdraws the connection of an index unless it is ACTIVE (R47). -/
def State.drainConnection (s : State) (i : Index) : State :=
  match s.connection i with
  | none => s
  | some c =>
    if c.state = .active then s
    else s.removeConnection i c (some (s.noticeToOriginator i c .drained)) (s.noticeToAnswerer i c .drained)

/-- The Lease Engine's part of a drain, with its report of a table already empty (R47, R159 step 4). The service passes its
withdrawals start examine no entry, since the state is DRAINING (R54). -/
def State.drainConnections (s : State) : State :=
  if s.tableEmpty then s.reportIfEmpty else allIndices.foldl State.drainConnection s

/-- The drain removes one entry (R61). -/
def State.drainEntry (s : State) (e : Entry) : State := (s.removeEntry e).refuseEntry e .highwayDraining

/-- The Wait Queue's part of a drain (R61). -/
def State.drainEntries (s : State) : State := s.waitQueue.foldl State.drainEntry s

/-- DRAIN (R158); the drain of R159, its two parts in either order. -/
def State.drainWork (waitQueueFirst : Bool) (s : State) : Work :=
  match s.highway with
  | .closed => s.failed .wrongState
  | .draining => s.done
  | .opened =>
    let told := State.broadcast (.highwayState .draining) { s with highway := .draining }
    (if waitQueueFirst then told.drainEntries.drainConnections else told.drainConnections.drainEntries).done

/-- CLOSE: every table emptied, the Downlink Queue reset to its two broadcasts, the counters advanced by the deletions, LEFT
and LEASE raised where something was removed; the rest is kept (R163, R164). -/
def State.closeHighway (s : State) : State :=
  let emptied : State :=
    { s with
      highway := .closed
      stations := State.reset.stations
      assemblies := State.reset.assemblies
      connections := State.reset.connections
      slots := State.reset.slots
      waitQueue := []
      downlink.held := [resetAllMessage, ⟨0xFFFFFFFF, .highwayState .closed⟩]
      downlink.wordsSent := none }
  (((emptied.bumpDirectory s.stationCount).bumpConnections s.connectionCount).raiseIf (s.stationCount != 0) .left).raiseIf
    (s.connectionCount != 0) .lease

/-- CLOSE (R163). -/
def State.closeWork (s : State) : Work := s.closeHighway.done

/-- OPEN (R157). -/
def execOpenHighway (s : State) : Host.Outcome State Fault Refusal :=
  .next (s.hostCommand 0x01 (State.runCommand State.openWork))

/-- DRAIN (R158, R159). -/
def execDrain (waitQueueFirst : Bool) (s : State) : Host.Outcome State Fault Refusal :=
  .next (s.hostCommand 0x02 (State.runCommand (State.drainWork waitQueueFirst)))

/-- CLOSE (R163). -/
def execClose (s : State) : Host.Outcome State Fault Refusal :=
  .next (s.hostCommand 0x03 (State.runCommand State.closeWork))

/-- RESET (R166, R177): full reset is taken, with no completion. -/
def execReset (s : State) : Host.Outcome State Fault Refusal :=
  .next (s.hostCommand 0x0F (State.enterReset ⟨false, false, true⟩))

end Sys2Proof.Machine
end

