-- ==== Sys2Proof/Machine/Reads.lean ====
section
/-! DEFINITION. The commands that read: READ_STATION (R178), READ_CONNECTION (R179), READ_SLOTS (R180), READ_QUEUE (R181),
READ_DENY (R118) and READ_POLICY (R130). They change no record. -/

namespace Sys2Proof.Machine

/-- The record a handle's number names, with its handle; none above 47 (R72, R178). -/
def State.stationNumbered (s : State) (h : Nat) : Option (Handle × Station) :=
  if bound : h < 48 then (s.station ⟨h, bound⟩).map fun r => (⟨h, bound⟩, r) else none

/-- OK with the station form of the record found, or NOT_FOUND (R178). -/
def State.stationRead (s : State) : Option (Handle × Station) → Work
  | some (h, r) => ⟨s, .ok, s.stationForm h r⟩
  | none => s.failed .notFound

/-- READ_STATION, by the selector of A0 (R178, R195). -/
def State.readStationWork (s : State) : Work :=
  if s.argNat 0 = 0 then s.stationRead (s.stationNumbered (s.argNat 1))
  else if s.argNat 0 = 1 then s.stationRead (s.lookup s.argNumber1)
  else s.failed .badArgument

/-- READ_CONNECTION of the index in A0 (R179). -/
def State.readConnectionWork (s : State) : Work :=
  if bound : s.argNat 0 < 32 then
    match s.connection ⟨s.argNat 0, bound⟩ with
    | some c => ⟨s, .ok, s.connectionForm ⟨s.argNat 0, bound⟩ c⟩
    | none => s.failed .notFound
  else s.failed .badArgument

/-- READ_SLOTS of the group in A0 (R180). -/
def State.readSlotsWork (s : State) : Work :=
  if s.argNat 0 ≤ 3 then ⟨s, .ok, s.slotForm (s.argNat 0)⟩ else s.failed .badArgument

/-- READ_QUEUE of the position in A0 (R181). -/
def State.readQueueWork (s : State) : Work :=
  if s.argNat 0 < 1 ∨ Config.queueCapacity < s.argNat 0 then s.failed .badArgument
  else
    match s.waitQueue[s.argNat 0 - 1]? with
    | some e => ⟨s, .ok, s.queueForm (s.argNat 0) e⟩
    | none => s.failed .notFound

/-- READ_DENY of the position in A0 (R118). -/
def State.readDenyWork (s : State) : Work :=
  if s.argNat 0 < 1 ∨ Config.denyCapacity < s.argNat 0 then s.failed .badArgument
  else
    match s.denyList[s.argNat 0 - 1]? with
    | some e => ⟨s, .ok, denyForm (s.argNat 0) s.denyList.length e⟩
    | none => s.failed .notFound

/-- READ_POLICY of the class in A0 (R130). -/
def State.readPolicyWork (s : State) : Work :=
  if bound : s.argNat 0 < 4 then ⟨s, .ok, s.policyForm ⟨s.argNat 0, bound⟩⟩ else s.failed .badArgument

/-- READ_STATION (R178). -/
def execReadStation (s : State) : Host.Outcome State Fault Refusal :=
  .next (s.hostCommand 0x10 (State.runCommand State.readStationWork))

/-- READ_CONNECTION (R179). -/
def execReadConnection (s : State) : Host.Outcome State Fault Refusal :=
  .next (s.hostCommand 0x11 (State.runCommand State.readConnectionWork))

/-- READ_SLOTS (R180). -/
def execReadSlots (s : State) : Host.Outcome State Fault Refusal :=
  .next (s.hostCommand 0x12 (State.runCommand State.readSlotsWork))

/-- READ_QUEUE (R181). -/
def execReadQueue (s : State) : Host.Outcome State Fault Refusal :=
  .next (s.hostCommand 0x13 (State.runCommand State.readQueueWork))

/-- READ_DENY (R118). -/
def execReadDeny (s : State) : Host.Outcome State Fault Refusal :=
  .next (s.hostCommand 0x14 (State.runCommand State.readDenyWork))

/-- READ_POLICY (R130). -/
def execReadPolicy (s : State) : Host.Outcome State Fault Refusal :=
  .next (s.hostCommand 0x15 (State.runCommand State.readPolicyWork))

end Sys2Proof.Machine
end

