-- ==== Sys2Proof/Machine/Rosters.lean ====
section
/-! DEFINITION. The Roster Checker: the assembly (R93 to R98), the content checks (R99 to R101), acceptance (R102 to R104) and
rejection (R105, R106), with the meanings of ROSTER_BEGIN, ROSTER_PART and ROSTER_END. -/

namespace Sys2Proof.Machine

/-- A roster message is taken from a top relay, and refused NOT_TOP_RELAY from any other source (R92). -/
def State.fromTopRelay (f : Handle → Station → State → State) (h : Handle) (r : Station) (s : State) : State :=
  if r.topRelay then f h r s else s.refusePlain h .notTopRelay

/-- ROSTER_REJECT, which raises ROSTER whatever its reason (R92). -/
def State.rejectRoster (h : Handle) (generation : Byte) (reason : Reason) (s : State) : State :=
  (s.tell h (.rosterReject generation reason)).raise .roster

/-- A change counted once where the condition holds (R104, R106). -/
def changeIf (b : Bool) : Nat := if b then 1 else 0

/-! ### Rejection for content -/

/-- Steps 3 and 4 of a rejection for content: the relay's record and the answer (R105, R106). -/
def State.faultRelay (h : Handle) (r : Station) (generation : Byte) (reason : Reason) (s : State) : State :=
  let changes := changeIf (r.state ≠ .rosterFault) + changeIf (r.roster.getD [] ≠ [] || r.generation.isSome)
  let changed := (s.modifyStation h fun x =>
    { x with
      state := .rosterFault
      roster := some []
      generation := none
      deadline := some (s.countdownOf s.rosterPeriod) }).bumpDirectory changes
  changed.rejectRoster h generation reason

/-- A rejection for content (R105): the assembly is closed, the relay and the records whose VIA names it go through the
cascade with reason ROSTER_FAULT, the relay alone staying in the directory. -/
def State.rejectContent (h : Handle) (r : Station) (generation : Byte) (reason : Reason) (s : State) : State :=
  let under := s.downstream h
  (s.setAssembly h none).cascade (h :: under) under .rosterFault fun s => s.faultRelay h r generation reason

/-! ### ROSTER_BEGIN and ROSTER_PART -/

/-- ROSTER_BEGIN from a top relay (R94, R95). -/
def State.beginRoster (generation : Byte) (count depth : Nat) (depthExceeded countExceeded : Bool) (h : Handle)
    (r : Station) (s : State) : State :=
  if depthExceeded then s.rejectContent h r generation .depth
  else if countExceeded then s.rejectContent h r generation .count
  else s.setAssembly h (some ⟨generation, count, depth, 0, []⟩)

/-- ROSTER_BEGIN (R94). -/
def execRosterBegin (drop : Drop) (source : StationNumber) (generation : Byte) (count : Fin 16) (depth : Fin 4)
    (depthExceeded countExceeded : Bool) (s : State) : Host.Outcome State Fault Refusal :=
  .next (s.message (.rosterBegin drop source generation count depth depthExceeded countExceeded) fun s =>
    s.resolve drop source none none
      (State.fromTopRelay (State.beginRoster generation count.val depth.val depthExceeded countExceeded)))

/-- ROSTER_PART from a top relay (R96, R97). -/
def State.partRoster (partIndex : Nat) (entries : List RosterEntry) (h : Handle) (r : Station) (s : State) : State :=
  match s.assembly h with
  | none => s.refusePlain h .sequence
  | some a =>
    if partIndex ≠ a.partsReceived ∨ a.partsReceived = Config.partLimit then
      (s.setAssembly h none).rejectRoster h a.generation .sequence
    else if a.declaredCount < a.entries.length + entries.length then s.rejectContent h r a.generation .malformed
    else
      s.setAssembly h (some { a with partsReceived := a.partsReceived + 1, entries := a.entries ++ entries })

/-- ROSTER_PART (R96). -/
def execRosterPart (drop : Drop) (source : StationNumber) (partIndex : Fin 64) (entries : List RosterEntry) (s : State) :
    Host.Outcome State Fault Refusal :=
  .next (s.message (.rosterPart drop source partIndex entries) fun s =>
    s.resolve drop source none none (State.fromTopRelay (State.partRoster partIndex.val entries)))

/-! ### The content checks -/

/-- Check 2 of R99: numbers valid, no number twice, none the relay's own. -/
def numbersGood (own : StationNumber) (entries : List RosterEntry) : Bool :=
  entries.all (fun e => validNumber e.number && e.number != own) && (entries.map (·.number)).Nodup

/-- The highest TIER of a RELAY entry, or 0 (R99 check 3). -/
def relayDepth (entries : List RosterEntry) : Nat :=
  ((entries.filter fun e => e.kind = .relay).map (·.tier.val)).foldl max 0

/-- Check 3 of R99: tiers 1 to 4, relays at 1 to 3, the declared depth the highest tier of a relay. -/
def tiersGood (declaredDepth : Nat) (entries : List RosterEntry) : Bool :=
  entries.all (fun e => 1 ≤ e.tier.val && e.tier.val ≤ (if e.kind = .relay then 3 else 4)) &&
    declaredDepth = relayDepth entries

/-- The number is held by a record other than one whose VIA names the relay (R101). -/
def State.heldElsewhere (s : State) (h : Handle) (n : StationNumber) : Bool :=
  (s.lookup n).any fun k => k.2.via ≠ some h

/-- The records under the relay whose numbers are absent from the entries: the omitted group (R102). -/
def State.omitted (s : State) (h : Handle) (entries : List RosterEntry) : List Handle :=
  (s.downstream h).filter fun k => !(entries.map (·.number)).contains (s.numberOf k)

/-- The entries whose numbers no record holds: the new group, in order (R102). -/
def State.newEntries (s : State) (entries : List RosterEntry) : List RosterEntry :=
  entries.filter fun e => (s.lookup e.number).isNone

/-- The checks of R99 in order; the reason of the first that fails. -/
def State.rosterRefusal (s : State) (h : Handle) (r : Station) (a : Assembly) : Option Reason :=
  if a.entries.length ≠ a.declaredCount then some .malformed
  else if !numbersGood r.number a.entries then some .malformed
  else if !tiersGood a.declaredDepth a.entries then some .depth
  else if a.entries.any fun e => s.listed e.number then some .deniedEntry
  else if a.entries.any fun e => s.heldElsewhere h e.number then some .duplicateEntry
  else if s.freeHandleCount + (s.omitted h a.entries).length < (s.newEntries a.entries).length then some .noRoom
  else none

/-- One hit for each listed entry of the run, and DENY_HIT once (R100, R114). -/
def State.hitEntries (entries : List RosterEntry) (s : State) : State :=
  ((entries.filter fun e => s.listed e.number).foldl (fun s e => s.hit e.number) s).raise .denyHit

/-! ### Acceptance -/

/-- A kept record takes the KIND and TIER of its entry; DIRECTORY CHANGES advances where one of them changed
(R103 step 2, R104). -/
def State.keepEntry (relay : Handle) (s : State) (e : RosterEntry) : State :=
  match s.lookup e.number with
  | none => s
  | some (k, x) =>
    if x.via = some relay then
      (s.setStation k (some { x with kind := e.kind, tier := e.tier.val })).bumpDirectory
        (changeIf (x.kind ≠ e.kind || x.tier ≠ e.tier.val))
    else s

/-- The record a new entry makes (R103 step 3). -/
def State.rosterRecord (s : State) (relay : Handle) (r : Station) (e : RosterEntry) : Station where
  number := e.number
  kind := e.kind
  drop := r.drop
  via := some relay
  tier := e.tier.val
  cls := r.cls
  state := .admitted
  quota := (s.classPolicy r.cls).defaultQuota
  syncOwed := false
  roster := none
  generation := none
  deadline := none

/-- A new entry is admitted at the lowest free handle (R103 step 3). -/
def State.admitEntry (relay : Handle) (r : Station) (s : State) (e : RosterEntry) : State :=
  match s.freeHandle with
  | none => s
  | some k => s.addStation k (s.rosterRecord relay r e)

/-- Steps 4 and 5 of an acceptance: the relay's record and the close of the assembly (R103, R104). -/
def State.acceptRelay (h : Handle) (r : Station) (a : Assembly) (s : State) : State :=
  let roster := a.entries.filterMap fun e => (s.lookup e.number).map (·.1)
  let changes := changeIf (r.state ≠ .admitted) + changeIf (r.roster ≠ some roster || r.generation ≠ some a.generation)
  ((s.modifyStation h fun x =>
    { x with state := .admitted, roster := some roster, generation := some a.generation, deadline := none }).bumpDirectory
      changes).setAssembly h none

/-- An acceptance (R103): the omitted group goes by the cascade, kept records take their entries, new records are admitted,
the relay's record is changed, the assembly closed, and ROSTER_OK answers. -/
def State.acceptRoster (h : Handle) (r : Station) (a : Assembly) (s : State) : State :=
  let gone := s.omitted h a.entries
  let fresh := s.newEntries a.entries
  s.cascade gone gone .departed fun s =>
    let kept := a.entries.foldl (State.keepEntry h) s
    let admitted := fresh.foldl (State.admitEntry h r) kept
    ((admitted.acceptRelay h r a).tell h (.rosterOk a.generation fresh.length)).raise .roster

/-- ROSTER_END from a top relay (R98, R99). -/
def State.endRoster (generation : Byte) (h : Handle) (r : Station) (s : State) : State :=
  match s.assembly h with
  | none => s.rejectRoster h generation .sequence
  | some a =>
    if generation ≠ a.generation then (s.setAssembly h none).rejectRoster h generation .sequence
    else
      match s.rosterRefusal h r a with
      | none => s.acceptRoster h r a
      | some reason =>
        (if reason = .deniedEntry then s.hitEntries a.entries else s).rejectContent h r a.generation reason

/-- ROSTER_END (R98). -/
def execRosterEnd (drop : Drop) (source : StationNumber) (generation : Byte) (s : State) :
    Host.Outcome State Fault Refusal :=
  .next (s.message (.rosterEnd drop source generation) fun s =>
    s.resolve drop source none none (State.fromTopRelay (State.endRoster generation)))

end Sys2Proof.Machine
end

