-- ==== Sys2Proof/Machine/Dispatch.lean ====
section
/-! DEFINITION. The meaning of every command, one arm to a constructor of Instr. -/

namespace Sys2Proof.Machine

/-- The command's effect on everything but the queue of waiting commands. -/
def exec (i : Instr) (s : State) : Host.Outcome State Fault Refusal :=
  match i with
  | .powerUp => Sys2Proof.Machine.execPowerUp s
  | .rstLow => Sys2Proof.Machine.execRstLow s
  | .rstHigh => Sys2Proof.Machine.execRstHigh s
  | .resetRelease => Sys2Proof.Machine.execResetRelease s
  | .frameStart => Sys2Proof.Machine.execFrameStart s
  | .uplinkGrant drq => Sys2Proof.Machine.execUplinkGrant drq s
  | .uplinkHeader word => Sys2Proof.Machine.execUplinkHeader word s
  | .drqFall drop => Sys2Proof.Machine.execDrqFall drop s
  | .dprFall drop => Sys2Proof.Machine.execDprFall drop s
  | .presenceLoss drop => Sys2Proof.Machine.execPresenceLoss drop s
  | .dprRise drop => Sys2Proof.Machine.execDprRise drop s
  | .messageDeparture => Sys2Proof.Machine.execMessageDeparture s
  | .attach drop source kind cls => Sys2Proof.Machine.execAttach drop source kind cls s
  | .detach drop source => Sys2Proof.Machine.execDetach drop source s
  | .request drop source peer cls contiguous width tag => Sys2Proof.Machine.execRequest drop source peer cls contiguous width tag s
  | .accept drop source reference => Sys2Proof.Machine.execAccept drop source reference s
  | .decline drop source reference => Sys2Proof.Machine.execDecline drop source reference s
  | .renew drop source reference => Sys2Proof.Machine.execRenew drop source reference s
  | .release drop source reference => Sys2Proof.Machine.execRelease drop source reference s
  | .query drop source => Sys2Proof.Machine.execQuery drop source s
  | .cancel drop source tag => Sys2Proof.Machine.execCancel drop source tag s
  | .rosterBegin drop source generation count depth depthExceeded countExceeded => Sys2Proof.Machine.execRosterBegin drop source generation count depth depthExceeded countExceeded s
  | .rosterPart drop source partIndex entries => Sys2Proof.Machine.execRosterPart drop source partIndex entries s
  | .rosterEnd drop source generation => Sys2Proof.Machine.execRosterEnd drop source generation s
  | .guardEnd => Sys2Proof.Machine.execGuardEnd s
  | .leaseCountdownWalk => Sys2Proof.Machine.execLeaseCountdownWalk s
  | .leaseExpiry => Sys2Proof.Machine.execLeaseExpiry s
  | .answerExpiry => Sys2Proof.Machine.execAnswerExpiry s
  | .queueDeadlineWalk => Sys2Proof.Machine.execQueueDeadlineWalk s
  | .queueTimeout => Sys2Proof.Machine.execQueueTimeout s
  | .rosterDeadlineWalk => Sys2Proof.Machine.execRosterDeadlineWalk s
  | .rosterDeadlineExpiry => Sys2Proof.Machine.execRosterDeadlineExpiry s
  | .spiReadCapture address length => Sys2Proof.Machine.execSpiReadCapture address length s
  | .registerWrite event value => Sys2Proof.Machine.execRegisterWrite event value s
  | .notifyPendingWrite high value => Sys2Proof.Machine.execNotifyPendingWrite high value s
  | .notifyEnableWrite high value => Sys2Proof.Machine.execNotifyEnableWrite high value s
  | .commandCollision code => Sys2Proof.Machine.execCommandCollision code s
  | .commandCompletion => Sys2Proof.Machine.execCommandCompletion s
  | .unknownCommand code => Sys2Proof.Machine.execUnknownCommand code s
  | .openHighway => Sys2Proof.Machine.execOpenHighway s
  | .drain waitQueueFirst => Sys2Proof.Machine.execDrain waitQueueFirst s
  | .close => Sys2Proof.Machine.execClose s
  | .reset => Sys2Proof.Machine.execReset s
  | .readStation => Sys2Proof.Machine.execReadStation s
  | .readConnection => Sys2Proof.Machine.execReadConnection s
  | .readSlots => Sys2Proof.Machine.execReadSlots s
  | .readQueue => Sys2Proof.Machine.execReadQueue s
  | .readDeny => Sys2Proof.Machine.execReadDeny s
  | .readPolicy => Sys2Proof.Machine.execReadPolicy s
  | .denyAdd => Sys2Proof.Machine.execDenyAdd s
  | .denyRemove => Sys2Proof.Machine.execDenyRemove s
  | .evict => Sys2Proof.Machine.execEvict s
  | .setQuota => Sys2Proof.Machine.execSetQuota s
  | .pin => Sys2Proof.Machine.execPin s
  | .unpin => Sys2Proof.Machine.execUnpin s
  | .forceRelease => Sys2Proof.Machine.execForceRelease s
  | .setPolicy => Sys2Proof.Machine.execSetPolicy s
  | .setTiming => Sys2Proof.Machine.execSetTiming s
  | .uplinkWord word => Sys2Proof.Machine.execUplinkWord word s

end Sys2Proof.Machine
end

