-- ==== Sys2Proof/Machine/Step.lean ====
section
/-! DEFINITION. The step: the command at the front of the queue is taken, whole; on an empty queue the part idles. -/

namespace Sys2Proof.Machine

/-- One step (95_what_each_step_holds.md). An empty queue leaves the part as it is (DESIGN CHOICE:
notes/assumptions/1.md). -/
def step (s : State) : Host.Outcome State Fault Refusal :=
  match s.pending with
  | [] => .next s
  | command :: rest => exec command { s with pending := rest }

/-- The state with the command a word spells put at the front of its queue; as it is where the word spells none. -/
def State.withFetchWord (s : State) (nbits w : Nat) : State :=
  match decodeTableWord nbits w with
  | some command => { s with pending := command :: s.pending }
  | none => s

end Sys2Proof.Machine
end

