-- ==== Sys2Proof/Safety.lean ====
section
/-! DEFINITION. The terms that claims use: when the part is ready for an event, which command code a host command bears,
what a step answers, and the laws the spec says the host and the stations can always rely on. -/

namespace Sys2Proof.Machine

/-! ### Readiness -/

/-- Full reset is not held and no boundary walk stands at an expiry. -/
abbrev State.Quiet (s : State) : Prop := s.hold = .running ∧ s.due = none

/-- The command code of R195 that a host command bears. -/
def hostCode : Instr → Option Byte
  | .openHighway => some 0x01
  | .drain _ => some 0x02
  | .close => some 0x03
  | .reset => some 0x0F
  | .readStation => some 0x10
  | .readConnection => some 0x11
  | .readSlots => some 0x12
  | .readQueue => some 0x13
  | .readDeny => some 0x14
  | .readPolicy => some 0x15
  | .denyAdd => some 0x20
  | .denyRemove => some 0x21
  | .evict => some 0x22
  | .setQuota => some 0x23
  | .pin => some 0x24
  | .unpin => some 0x25
  | .forceRelease => some 0x26
  | .setPolicy => some 0x27
  | .setTiming => some 0x28
  | _ => none

/-- A command code is latched and its owner may take it (R172, R174). -/
abbrev State.Latched (s : State) (code : Byte) : Prop :=
  s.Quiet ∧ s.port.mailbox = .latched ∧ s.port.command = code

/-- The part after a command whose work is done and whose completion is to post the result and the readout (R174). -/
def State.finished (s : State) (result : Result) (readout : List Byte) : State :=
  { s with port.mailbox := .done result (readoutOf readout) }

/-- A message is taken by its block: it stands no more among the messages handed on (R143). -/
def State.taking (s : State) (message : Instr) : State := { s with handedOn := s.handedOn.erase message }

/-- The input lines after a command: a fall, a rise or a sampling brings the line with it, whatever the part does. -/
def linesAfter (p : Pins) : Instr → Pins
  | .uplinkGrant drq => { p with drq := drq }
  | .drqFall d => { p with drq := p.drq &&& ~~~BitVec.twoPow 16 d.val }
  | .dprFall d => { p with dpr := p.dpr &&& ~~~BitVec.twoPow 16 d.val }
  | .presenceLoss d => { p with dpr := p.dpr &&& ~~~BitVec.twoPow 16 d.val }
  | .dprRise d => { p with dpr := p.dpr ||| BitVec.twoPow 16 d.val }
  | _ => p

/-- What a station message other than ATTACH names: the window's drop, the source, the tag of a REQUEST or CANCEL, and the
reference of an ACCEPT, DECLINE, RENEW or RELEASE (R74). -/
def sourced : Instr → Option (Drop × StationNumber × Option Tag × Option Reference)
  | .detach d n => some (d, n, none, none)
  | .request d n _ _ _ _ tag => some (d, n, some tag, none)
  | .accept d n reference => some (d, n, none, some reference)
  | .decline d n reference => some (d, n, none, some reference)
  | .renew d n reference => some (d, n, none, some reference)
  | .release d n reference => some (d, n, none, some reference)
  | .query d n => some (d, n, none, none)
  | .cancel d n tag => some (d, n, some tag, none)
  | .rosterBegin d n _ _ _ _ _ => some (d, n, none, none)
  | .rosterPart d n _ _ => some (d, n, none, none)
  | .rosterEnd d n _ => some (d, n, none, none)
  | _ => none

/-- A roster message (R92). -/
def isRosterMessage : Instr → Bool
  | .rosterBegin .. => true
  | .rosterPart .. => true
  | .rosterEnd .. => true
  | _ => false

/-- An expiry at which a boundary walk stands (R36, R57, R107). -/
def isExpiry : Instr → Bool
  | .leaseExpiry => true
  | .answerExpiry => true
  | .queueTimeout => true
  | .rosterDeadlineExpiry => true
  | _ => false

/-- An event at a block that reads no pin: a station message, a word of slot 1, a departure, a boundary event that starts a
walk, or a completion. -/
def isInnerEvent : Instr → Bool
  | .attach .. => true
  | .uplinkHeader _ => true
  | .uplinkWord _ => true
  | .messageDeparture => true
  | .guardEnd => true
  | .leaseCountdownWalk => true
  | .queueDeadlineWalk => true
  | .rosterDeadlineWalk => true
  | .commandCompletion => true
  | c => (sourced c).isSome

/-- A row that takes full reset or ends a cause of it (R1, R166); the host RESET is a host command. -/
def isResetEvent : Instr → Bool
  | .powerUp => true
  | .rstLow => true
  | .rstHigh => true
  | .resetRelease => true
  | _ => false

/-- An event that the change of an input line makes. -/
def isLineEvent : Instr → Bool
  | .uplinkGrant _ => true
  | .drqFall _ => true
  | .dprFall _ => true
  | .presenceLoss _ => true
  | .dprRise _ => true
  | _ => false

/-- What the frame that ends has left, the first that FRAME_START takes (notes/assumptions/3.md). -/
def State.nextLeft (s : State) : Option Instr :=
  if s.departureDue then some .messageDeparture
  else if s.owed.guardEnd then some .guardEnd
  else if s.owed.leaseWalk then some .leaseCountdownWalk
  else if s.owed.queueWalk then some .queueDeadlineWalk
  else if s.owed.rosterWalk then some .rosterDeadlineWalk
  else none

/-! ### What a removal leaves -/

/-- A station record apart from SYNC OWED, which any message dropped on the way may set (R147). -/
def Station.settledFields (r : Station) : Station := { r with syncOwed := false }

/-- The records of a set have left (R83): they and their assemblies are gone, no connection or queue entry names them, every
other record and connection stands, but for the roster of the relay that is shortened (R84), DIRECTORY CHANGES has advanced
once a record and once for a shortened roster, and LEFT is pending. -/
structure State.Left (s t : State) (set : List Handle) (shortened : Option Handle) : Prop where
  gone : ∀ h ∈ set, t.station h = none ∧ t.assembly h = none
  records : ∀ h, h ∉ set → shortened ≠ some h →
    (t.station h).map Station.settledFields = (s.station h).map Station.settledFields
  shortening : ∀ h, h ∉ set → shortened = some h →
    (t.station h).map Station.settledFields =
      (s.station h).map fun r => { r.settledFields with roster := r.roster.map fun l => l.filter fun k => k ∉ set }
  assemblies : ∀ h, h ∉ set → t.assembly h = s.assembly h
  noParty : ∀ i c, t.connection i = some c → c.originator ∉ set ∧ c.answerer ∉ set
  connections : ∀ i c, s.connection i = some c → c.originator ∉ set → c.answerer ∉ set → t.connection i = some c
  references : ∀ i c, s.connection i = some c → c.originator ∉ set → c.answerer ∉ set → t.serial i = s.serial i
  slots : ∀ n r, s.slot n = some r → r ≠ .free →
    (∀ i c, r.owner = some i → s.connection i = some c → c.originator ∉ set ∧ c.answerer ∉ set) → t.slot n = some r
  noEntry : ∀ e ∈ t.waitQueue, e.source ∉ set ∧ e.peer ∉ set
  messages : s.downlink.held <+: t.downlink.held
  counted : t.directoryChanges =
    s.directoryChanges + BitVec.ofNat 16 (set.length + if shortened.isSome then 1 else 0)
  left : set ≠ [] → t.pendingFlag .left = true
  untouched : t.denyList = s.denyList ∧ t.policy = s.policy ∧ t.answerPeriod = s.answerPeriod ∧
    t.rosterPeriod = s.rosterPeriod ∧ t.timer = s.timer ∧ t.owed = s.owed ∧ t.arbiter = s.arbiter ∧
    t.highway = s.highway ∧ t.port = s.port ∧ t.spi = s.spi ∧ t.hold = s.hold ∧ t.due = s.due

/-- A request that passes every check of R26: source `h` with record `r`, peer `p` with record `q`. -/
structure State.Passes (s : State) (h : Handle) (r : Station) (peer : StationNumber) (p : Handle) (q : Station)
    (cls : ClassNo) (width : Nat) : Prop where
  opened : s.highway = .opened
  ready : r.state = .admitted
  notQueued : ∀ e ∈ s.waitQueue, e.source ≠ h
  notSelf : peer ≠ r.number
  found : s.lookup peer = some (p, q)
  peerReady : q.state = .admitted
  goodClass : r.cls ≤ cls
  goodWidth : 1 ≤ width ∧ width ≤ (s.classPolicy cls).maxWidth
  parties : s.partyCount h < 8 ∧ s.partyCount p < 8
  quota : s.usage h + width ≤ r.quota

/-! ### Laws of the tables -/

/-- The deny list holds at most 24 valid numbers in strictly ascending order, hit counts at most 255 (R113). -/
structure State.DenyLaw (s : State) : Prop where
  atMost24 : s.denyList.length ≤ 24
  ascending : s.denyList.Pairwise fun a b => a.number < b.number
  valid : ∀ e ∈ s.denyList, validNumber e.number = true
  saturated : ∀ e ∈ s.denyList, e.hits ≤ 255

/-- Every class record and timing setting is in its range (R121, R122), and so are the widths of connections (R20) and of
queue entries (R50) and the quota and tier of station records (R70). -/
structure State.RangeLaw (s : State) : Prop where
  lease : ∀ k, 1 ≤ (s.classPolicy k).leasePeriod ∧ (s.classPolicy k).leasePeriod ≤ 255
  maxWidth : ∀ k, 1 ≤ (s.classPolicy k).maxWidth ∧ (s.classPolicy k).maxWidth ≤ 8
  defaultQuota : ∀ k, 1 ≤ (s.classPolicy k).defaultQuota ∧ (s.classPolicy k).defaultQuota ≤ 16
  queuePeriod : ∀ k, (s.classPolicy k).queuePeriod ≤ 255
  answer : 1 ≤ s.answerPeriod ∧ s.answerPeriod ≤ 15
  roster : 1 ≤ s.rosterPeriod ∧ s.rosterPeriod ≤ 255
  connectionWidth : ∀ i c, s.connection i = some c → 1 ≤ c.width ∧ c.width ≤ 8
  entryWidth : ∀ e ∈ s.waitQueue, 1 ≤ e.width ∧ e.width ≤ 8
  quota : ∀ h r, s.station h = some r → 1 ≤ r.quota ∧ r.quota ≤ 16
  tier : ∀ h r, s.station h = some r → r.tier ≤ 4

/-- The Downlink Queue holds at most 40 messages (R145). -/
def State.DownlinkLaw (s : State) : Prop := s.downlink.held.length ≤ 40

/-- The Wait Queue holds at most 16 entries, by class ascending, one for a source (R50, R51). -/
structure State.QueueLaw (s : State) : Prop where
  atMost16 : s.waitQueue.length ≤ 16
  byClass : s.waitQueue.Pairwise fun a b => a.cls ≤ b.cls
  oneEach : s.waitQueue.Pairwise fun a b => a.source ≠ b.source

/-- While the highway is CLOSED the directory, the Connection Table, the Wait Queue and the assemblies are empty and every
slot is FREE (R163). -/
structure State.ClosedLaw (s : State) : Prop where
  noStation : s.highway = .closed → ∀ h, s.station h = none
  noConnection : s.highway = .closed → ∀ i, s.connection i = none
  noEntry : s.highway = .closed → s.waitQueue = []
  noAssembly : s.highway = .closed → ∀ h, s.assembly h = none
  allFree : s.highway = .closed → ∀ n r, s.slot n = some r → r = .free

/-- While the highway is DRAINING the Wait Queue is empty and every connection is ACTIVE (R160). -/
structure State.DrainingLaw (s : State) : Prop where
  noEntry : s.highway = .draining → s.waitQueue = []
  allActive : s.highway = .draining → ∀ i c, s.connection i = some c → c.state = .active

/-- The records of a drop that have a VIA. -/
def State.behind (s : State) (d : Drop) : List Handle :=
  allHandles.filter fun h => (s.station h).any fun r => r.drop = d && r.via.isSome

/-- The two laws of the Directory (R70), with the bound on the declared count of an assembly that keeps them (R93). -/
structure State.DirectoryLaw (s : State) : Prop where
  oneRecord : ∀ h k r q, s.station h = some r → s.station k = some q → r.number = q.number → h = k
  notListed : ∀ h r, s.station h = some r → s.listed r.number = false
  viaRelay : ∀ h r v, s.station h = some r → r.via = some v →
    ∃ q, s.station v = some q ∧ q.topRelay = true ∧ q.state = .admitted ∧ q.drop = r.drop
  oneTopStation : ∀ h k r q, s.station h = some r → s.station k = some q → r.via = none → q.via = none →
    r.drop = q.drop → h = k
  atMost15 : ∀ d, (s.behind d).length ≤ 15
  declared : ∀ h a, s.assembly h = some a → a.declaredCount ≤ 15

/-- The slot has an owner. -/
def State.ownedBy (s : State) (n : Nat) (i : Index) : Prop := ∃ r, s.slot n = some r ∧ r.owner = some i

/-- What R20 says of the slots of a connection in each state. In PENDING the guards end together (R13, R29). -/
def State.slotsInState (s : State) (i : Index) (c : Connection) : Prop :=
  match c.state with
  | .active => ∀ n ∈ c.slotList, s.slot n = some (.held i)
  | .offered => ∀ n ∈ c.slotList, s.slot n = some (.reserved i)
  | .pending => ∃ p, (∀ n ∈ c.slotList, s.slot n = some (.reserved i) ∨ s.slot n = some (.guard (some i) p)) ∧
      ∃ n ∈ c.slotList, s.slot n = some (.guard (some i) p)

/-- The laws that tie slot records to connection records (R5, R20): a slot has an owner exactly when it stands in the slot
list of that connection, and the lists are ascending and as long as the width. -/
structure State.SlotLaw (s : State) : Prop where
  owners : ∀ n i, s.ownedBy n i ↔ ∃ c, s.connection i = some c ∧ n ∈ c.slotList
  states : ∀ i c, s.connection i = some c → s.slotsInState i c
  ascending : ∀ i c, s.connection i = some c → c.slotList.Pairwise (· < ·)
  widths : ∀ i c, s.connection i = some c → c.slotList.length = c.width

/-- The record of a handle stands and is ADMITTED. -/
def State.admittedAt (s : State) (h : Handle) : Prop := ∃ r, s.station h = some r ∧ r.state = .admitted

/-- The laws that tie connections and queue entries to station records (R20, R50): the two parties differ and are ADMITTED
records, no station is party to more than 8 connections, and a pinned connection is ACTIVE. -/
structure State.PartyLaw (s : State) : Prop where
  parties : ∀ i c, s.connection i = some c →
    c.originator ≠ c.answerer ∧ s.admittedAt c.originator ∧ s.admittedAt c.answerer
  entries : ∀ e ∈ s.waitQueue, e.source ≠ e.peer ∧ s.admittedAt e.source ∧ s.admittedAt e.peer
  atMost8 : ∀ h, s.partyCount h ≤ 8
  pinnedActive : ∀ i c, s.connection i = some c → c.pinned = true → c.state = .active

/-- While full reset is held every block stands at its reset values, the Downlink Queue empty, and a transaction in progress
writes nothing to its end (R154, R166, R189). -/
structure State.HeldLaw (s : State) : Prop where
  atReset : s.hold ≠ .running →
    s = { State.reset with
      pending := s.pending
      hold := s.hold
      timer := s.timer
      downlink := ⟨[], none, s.downlink.hdo⟩
      spi := s.spi
      pins := s.pins }
  discarded : s.hold ≠ .running → ∀ x, s.spi.transaction = some x → x.underReset = x

/-- A law that every step keeps. -/
def KeptByStep (law : State → Prop) : Prop := ∀ s t, law s → step s = .next t → law t

end Sys2Proof.Machine
end

