-- ==== Sys2Proof/Certificates/Slice0/Obligations.lean ====
section
/-! DEFINITION. The statements for the provers, each with the rules of spec/ it rests on in OBLIGATIONS.json. A message that a
statement offers to the Downlink Queue goes by `State.offer` or `State.broadcast`, whose own statement is
`Obligations.OffersAreTakenOrDropped`. -/

open Sys2Proof Sys2Proof.Machine

/-! ### The step -/

/-- The command at the front of the queue is taken, with the queue's rest (95_what_each_step_holds.md); an empty queue leaves
the part as it is, which is the model's choice (log entry 1). -/
def Obligations.StepTakesTheFrontCommand : Prop :=
  (∀ (c : Instr) (rest : List Instr) (s : State),
    step { s with pending := c :: rest } = exec c { s with pending := rest }) ∧
  ∀ s : State, s.pending = [] → step s = .next s

/-- Every command completes and leaves the queue of waiting commands alone (log entry 1). -/
def Obligations.CommandsLeaveTheQueue : Prop :=
  ∀ (c : Instr) (s : State), ∃ t, exec c s = .next t ∧ t.pending = s.pending

/-- While full reset is held an event at a block changes nothing but the input lines (R144, R166, R189). -/
def Obligations.HeldPartIgnoresEvents : Prop :=
  ∀ (c : Instr) (s : State), s.hold ≠ .running → isInnerEvent c ∨ isLineEvent c ∨ isExpiry c →
    exec c s = .next { s with pins := linesAfter s.pins c }

/-- A walk that stands at an expiry is brought to its end by `State.settled` ("taken at once" in R36, R57, R107), and every
command but the four expiries and the rows that take or end full reset from outside (POWER_UP, RST_LOW, RST_HIGH,
RESET_RELEASE) comes after that: the model's choice (log entry 4). -/
def Obligations.WalksEndBeforeOtherEvents : Prop :=
  (∀ s : State, s.hold = .running → s.settled.Quiet) ∧
  (∀ s : State, s.Quiet → s.settled = s) ∧
  ∀ (c : Instr) (s : State), s.hold = .running → isExpiry c = false → isResetEvent c = false →
    exec c s = exec c s.settled

/-! ### Full reset and frames -/

/-- POWER_UP and RST_LOW take full reset with the Frame Timer stopped, a host RESET with the Frame Timer running on (R1, R154,
R166, R177); a transaction in progress writes nothing to its end (R189). Full reset is released, and the first frame begins at
position 0 with parity 0, RESET_ALL's header in slot 0 (R1, R2, R154, R189), when RST rises with the supply stable, when the
supply becomes stable with RST high, or at the frame start after a host RESET; a cause that ends with another left only goes.
The model's choices: RESET_RELEASE stands for the supply becoming stable (log entry 7); RST_HIGH and RESET_RELEASE without the
cause they end, and FRAME_START with the Frame Timer stopped, change nothing (log entry 2); FRAME_START under a host RESET is
the release (log entry 23); the releasing row starts the first frame (log entry 8); the HDO word and the pulse count are kept
through a hold (log entry 24). -/
def Obligations.FullResetIsTakenAndReleased : Prop :=
  (∀ s : State,
    let discarded : Spi :=
      { s.spi with
        transaction := s.spi.transaction.map fun x =>
          match x with
          | .addressing _ => .addressing true
          | .writing a _ => .writing a true
          | .reading a => .reading a }
    let held (h : Hold) : State :=
      { State.reset with
        pending := s.pending
        hold := h
        timer := ⟨0, false, false, s.timer.hfsPulses⟩
        downlink := ⟨[], none, none⟩
        spi := discarded
        pins := s.pins }
    exec .powerUp s = .next (held ⟨true, s.hold.rst, false⟩) ∧
    exec .rstLow s = .next (held ⟨s.hold.supply, true, false⟩) ∧
    (s.Latched 0x0F → exec .reset s = .next
      { State.reset with
        pending := s.pending
        hold := ⟨false, false, true⟩
        timer := { s.timer with firstFrameDue := false }
        downlink := ⟨[], none, s.downlink.hdo⟩
        spi := discarded
        pins := s.pins })) ∧
  ∀ s : State,
    let released : State :=
      { State.reset with
        pending := s.pending
        timer := ⟨0, false, false, s.timer.hfsPulses + 1⟩
        owed := ⟨true, true, true, true⟩
        arbiter := ⟨15, .idle, true, false⟩
        downlink := ⟨[⟨0xFFFFFFFF, .resetAll⟩], some 1, some 0xB900⟩
        spi := s.spi
        pins := s.pins }
    (s.hold.rst = true → s.hold.supply = false → exec .rstHigh s = .next released) ∧
    (s.hold.rst = true → s.hold.supply = true →
      exec .rstHigh s = .next { s with hold := { s.hold with rst := false } }) ∧
    (s.hold.rst = false → exec .rstHigh s = .next s) ∧
    (s.hold.supply = true → s.hold.rst = true →
      exec .resetRelease s = .next { s with hold := { s.hold with supply := false } }) ∧
    (s.hold.rst = false → s.hold.supply = true ∨ s.hold.host = true → exec .resetRelease s = .next released) ∧
    (s.hold.supply = false → s.hold.rst = true ∨ s.hold.host = false → exec .resetRelease s = .next s) ∧
    (s.hold.host = true → s.hold.supply = false → s.hold.rst = false → exec .frameStart s = .next released) ∧
    (s.hold.supply = true ∨ s.hold.rst = true → exec .frameStart s = .next s)

/-- A frame start of a part with nothing left of the frame that ends: HFS pulses, the position advances and returns from 63
to 0, where the parity inverts and the four blocks are owed the boundary (R1, R2), the arbiter has the boundary to consider
only with no window open (R137), slot 1 belongs to an open window (R138), and the word of slot 0 is chosen (R149, R150). The
first frame after the release is at position 0 with the parity kept (R1, R2); that it too is a superframe boundary for the
blocks is the model's choice (log entry 8), and so are the choice of the word before the boundary's events (log entry 26),
that messages handed on and not yet taken stay so (log entry 27), and that whether the window is IDLE is read together with the
choice of the word (log entry 28). -/
def Obligations.FrameStartAdvancesTheFrame : Prop :=
  ∀ s : State, s.Quiet → s.nextLeft = none →
    let started (position : Fin 64) (parity : Parity) (owed : Boundary) : Prop :=
      exec .frameStart s = .next
        { s with
          timer := ⟨position, parity, false, s.timer.hfsPulses + 1⟩
          owed := owed
          arbiter :=
            { s.arbiter with grantDue := s.arbiter.window = .idle, wordDue := decide (s.arbiter.window ≠ .idle) }
          downlink :=
            match s.downlink.held with
            | [] => ⟨[], none, some 0⟩
            | m :: rest => ⟨m :: rest, some (s.downlink.wordsSent.getD 0 + 1), m.words[s.downlink.wordsSent.getD 0]?⟩ }
    (s.timer.firstFrameDue = false →
      started (s.timer.position + 1) (if s.timer.position = 63 then !s.timer.parity else s.timer.parity)
        (if s.timer.position = 63 then ⟨true, true, true, true⟩ else ⟨false, false, false, false⟩)) ∧
    (s.timer.firstFrameDue = true → started 0 s.timer.parity ⟨true, true, true, true⟩)

/-- FRAME_START takes what the frame that ends has left as if its row had come first: the model's choice (log entry 3), and so
is that a message handed on is not among it (log entry 27). -/
def Obligations.FrameStartTakesWhatIsLeft : Prop :=
  ∀ (s t : State) (row : Instr), s.Quiet → s.nextLeft = some row → exec row s = .next t →
    t.settled.departureDue = false → exec .frameStart s = exec .frameStart t

/-! ### The signalling channel -/

/-- A grant goes to the first eligible drop after POINTER, and is made only with the window IDLE, a drop eligible and 12
entries free (R137); a boundary already considered makes none (log entry 16). -/
def Obligations.GrantGoesToTheNextEligibleDrop : Prop :=
  ∀ (s : State) (drq : BitVec 16), s.Quiet →
    let eligible (d : Drop) : Bool := s.pins.dpr.getLsbD d.val && drq.getLsbD d.val
    let after (k : Nat) : Drop := s.arbiter.pointer + 1 + Fin.ofNat 16 k
    (s.arbiter.grantDue = true → s.arbiter.window = .idle → s.downlink.held.length ≤ 28 → ∀ k, k < 16 →
      eligible (after k) = true → (∀ j, j < k → eligible (after j) = false) →
      exec (.uplinkGrant drq) s = .next
        { s with
          pins := { s.pins with drq := drq }
          arbiter := { s.arbiter with pointer := after k, window := .granted (after k), grantDue := false } }) ∧
    (s.arbiter.grantDue = false ∨ s.arbiter.window ≠ .idle ∨ 28 < s.downlink.held.length ∨
        (∀ d, eligible d = false) →
      exec (.uplinkGrant drq) s = .next
        { s with pins := { s.pins with drq := drq }, arbiter := { s.arbiter with grantDue := false } })

/-- The header of a window in GRANTED: idle, malformed or accepted (R139, R142). A word of slot 1 is read only while the
frame's slot 1 belongs to the window (R138). -/
def Obligations.HeadersAreJudged : Prop :=
  ∀ (s : State) (d : Drop) (word : Word), s.Quiet → s.arbiter.window = .granted d →
    let kind := word.extractLsb' 10 6
    let length := (word.extractLsb' 6 4).toNat
    let closed : State := { s with arbiter := { s.arbiter with window := .idle, wordDue := false } }
    (s.arbiter.wordDue = false → exec (.uplinkHeader word) s = .next s) ∧
    (s.arbiter.wordDue = true →
      (kind = 0 → exec (.uplinkHeader word) s = .next closed) ∧
      (1 ≤ kind.toNat → kind.toNat ≤ 12 → 4 ≤ length → length ≤ 12 →
        exec (.uplinkHeader word) s = .next
          { s with arbiter := { s.arbiter with window := .receiving d length [word], wordDue := false } }) ∧
      (12 < kind.toNat ∨ (1 ≤ kind.toNat ∧ (length < 4 ∨ 12 < length)) →
        exec (.uplinkHeader word) s = .next
          ((closed.offer ⟨BitVec.ofNat 32 d.val, .nak .malformed kind⟩).raise .signal)))

/-- A word of a window in RECEIVING is appended; with the last one the window closes and the message is judged by its check
word, then by its LENGTH (R140, R142, R143). A message handed on then stands until its row comes, the model's choice (log entry
27). -/
def Obligations.WordsAreTaken : Prop :=
  ∀ (s : State) (d : Drop) (expected : Nat) (header : Word) (rest : List Word) (word : Word), s.Quiet →
    s.arbiter.window = .receiving d expected (header :: rest) →
    let kind := header.extractLsb' 10 6
    let received := header :: rest ++ [word]
    let closed : State := { s with arbiter := { s.arbiter with window := .idle, wordDue := false } }
    let nak (reason : Reason) : State :=
      (closed.offer ⟨BitVec.ofNat 32 d.val, .nak reason kind⟩).raise .signal
    (s.arbiter.wordDue = false → exec (.uplinkWord word) s = .next s) ∧
    (s.arbiter.wordDue = true →
      (received.length < expected →
        exec (.uplinkWord word) s = .next
          { s with arbiter := { s.arbiter with window := .receiving d expected received, wordDue := false } }) ∧
      (expected ≤ received.length → word ≠ crc (header :: rest) →
        exec (.uplinkWord word) s = .next (nak .checkWord)) ∧
      (expected ≤ received.length → word = crc (header :: rest) → allowedLength kind received.length = false →
        exec (.uplinkWord word) s = .next (nak .malformed)) ∧
      (expected ≤ received.length → word = crc (header :: rest) → allowedLength kind received.length = true →
        ∃ message, messageOfWords d received = some message ∧
          exec (.uplinkWord word) s = .next { closed with handedOn := s.handedOn ++ [message] }))

/-- The fall of DRQ closes the window of its drop with NAK(TRUNCATED) (R141, R142), the fall of DPR closes it without one
(R135), and a fall at another drop, or a rise of DPR, changes the line alone (R134, R135). DGT of a drop is high exactly while
the window is GRANTED or RECEIVING there, so at most one is high, and every one is low while full reset is held (R134, R136,
R138). -/
def Obligations.LinesCloseWindows : Prop :=
  (∀ (s : State) (d : Drop), s.Quiet →
    let closed : Arbiter := { s.arbiter with window := .idle, wordDue := false }
    let drqLow : Pins := { s.pins with drq := s.pins.drq &&& ~~~BitVec.twoPow 16 d.val }
    let dprLow : Pins := { s.pins with dpr := s.pins.dpr &&& ~~~BitVec.twoPow 16 d.val }
    let truncated (kind : BitVec 6) : Host.Outcome State Fault Refusal :=
      .next (({ s with arbiter := closed, pins := drqLow }.offer
        ⟨BitVec.ofNat 32 d.val, .nak .truncated kind⟩).raise .signal)
    (s.arbiter.window = .granted d → exec (.drqFall d) s = truncated 0) ∧
    (∀ expected header rest, s.arbiter.window = .receiving d expected (header :: rest) →
      exec (.drqFall d) s = truncated (header.extractLsb' 10 6)) ∧
    (s.arbiter.window.drop? ≠ some d → exec (.drqFall d) s = .next { s with pins := drqLow }) ∧
    (s.arbiter.window.drop? = some d → exec (.dprFall d) s = .next { s with arbiter := closed, pins := dprLow }) ∧
    (s.arbiter.window.drop? ≠ some d → exec (.dprFall d) s = .next { s with pins := dprLow }) ∧
    exec (.dprRise d) s = .next { s with pins := { s.pins with dpr := s.pins.dpr ||| BitVec.twoPow 16 d.val } }) ∧
  (∀ (s : State) (d : Drop), s.dgt d = true ↔
    s.arbiter.window = .granted d ∨ ∃ expected words, s.arbiter.window = .receiving d expected words) ∧
  (∀ (s : State) (d e : Drop), s.dgt d = true → s.dgt e = true → d = e) ∧
  ∀ s : State, s.HeldLaw → s.hold ≠ .running → ∀ d, s.dgt d = false

/-- The head departs when its last word has been sent, and the SYNC issue is made: to the lowest handle that owes one, with at
least 3 entries free after the departure (R151, R152). The model's choices: MESSAGE_DEPARTURE before the last word changes
nothing (log entry 2), and no grant is made any more at the boundary of a frame whose departure is past (log entry 16). -/
def Obligations.HeadDepartsWithItsSync : Prop :=
  ∀ (s : State) (m : DownMessage) (rest : List DownMessage), s.Quiet → s.downlink.held = m :: rest →
    let departed : State :=
      { s with
        downlink := { s.downlink with held := rest, wordsSent := none }
        arbiter := { s.arbiter with grantDue := false } }
    (s.downlink.wordsSent ≠ some m.words.length → exec .messageDeparture s = .next s) ∧
    (s.downlink.wordsSent = some m.words.length →
      (37 < rest.length ∨ (∀ h r, s.station h = some r → r.syncOwed = false) →
        exec .messageDeparture s = .next departed) ∧
      ∀ h r, rest.length ≤ 37 → s.station h = some r → r.syncOwed = true →
        (∀ k x, k < h → s.station k = some x → x.syncOwed = false) →
        exec .messageDeparture s = .next
          { departed with
            downlink := { s.downlink with held := rest ++ [⟨r.number, .sync⟩], wordsSent := none }
            stations := s.stations.set h (some { r with syncOwed := false }) })

/-- A station-addressed or drop-addressed message is taken with 3 entries free and otherwise dropped, raising SYNC and marking
the record of its destination (R147); a HIGHWAY_STATE takes the place of one waiting, and a broadcast is otherwise taken with
1 entry free (R148). -/
def Obligations.OffersAreTakenOrDropped : Prop :=
  (∀ (s : State) (m : DownMessage),
    (s.downlink.held.length ≤ 37 → s.offer m = { s with downlink := { s.downlink with held := s.downlink.held ++ [m] } }) ∧
    (37 < s.downlink.held.length → s.lookup m.destination = none ∨ validNumber m.destination = false →
      s.offer m = { s with flags := s.flags ||| 0x40 }) ∧
    ∀ h r, 37 < s.downlink.held.length → s.lookup m.destination = some (h, r) → validNumber m.destination = true →
      s.offer m =
        { s with flags := s.flags ||| 0x40, stations := s.stations.set h (some { r with syncOwed := true }) }) ∧
  ∀ (s : State) (state : HighwayState),
    let m : DownMessage := ⟨0xFFFFFFFF, .highwayState state⟩
    (∀ front back old, s.downlink.held = front ++ ⟨0xFFFFFFFF, .highwayState old⟩ :: back →
      (s.downlink.wordsSent.isSome = true → front ≠ []) →
      (∀ x ∈ front.drop (if s.downlink.wordsSent.isSome then 1 else 0), ∀ old, x.body ≠ .highwayState old) →
      s.broadcast (.highwayState state) = { s with downlink := { s.downlink with held := front ++ m :: back } }) ∧
    ((∀ x ∈ s.downlink.held.drop (if s.downlink.wordsSent.isSome then 1 else 0), ∀ old, x.body ≠ .highwayState old) →
      (s.downlink.held.length ≤ 39 →
        s.broadcast (.highwayState state) = { s with downlink := { s.downlink with held := s.downlink.held ++ [m] } }) ∧
      (39 < s.downlink.held.length → s.broadcast (.highwayState state) = { s with flags := s.flags ||| 0x40 }))

/-- The words a station sends for a message decode to that message, every field at every value, and their check word is right
(R140, R191, R192). -/
def Obligations.UplinkMessagesDecode : Prop :=
  ∀ (i : Instr) (drop : Drop) (words : List Word), i.wellFormed = true → uplinkWords i = some (drop, words) →
    messageOfWords drop words = some i ∧ checkWordRight words = true ∧
      ∃ header rest, words = header :: rest ∧ headerLength header = words.length ∧
        allowedLength (headerKind header) words.length = true

/-- The check word is what R191 computes: a register of FFFFh takes the bits of the words, bit 15 of each first; each bit is
compared with bit 15 of the register, which is shifted left with 0 entering at bit 0 and, where the two differ, combined by
exclusive-or with 1021h. It is right exactly when that register ends at 0000h over the whole message. Every downlink message is
sent as header, DESTINATION, the body of its kind and check word, each field in its bits (R146, R191, R193), each reason by its
code of section 11.4. -/
def Obligations.DownlinkMessagesAreFramed : Prop :=
  (let bits (w : Word) : List Bool := [15, 14, 13, 12, 11, 10, 9, 8, 7, 6, 5, 4, 3, 2, 1, 0].map w.getLsbD
    let register (words : List Word) : BitVec 16 :=
      (words.flatMap bits).foldl
        (fun r bit => if bit = r.getLsbD 15 then r <<< 1 else (r <<< 1) ^^^ 0x1021) 0xFFFF
    ∀ (words : List Word) (word : Word), crc words = register words ∧
      (register (words ++ [word]) = 0 ↔ word = crc words) ∧
      (words ++ [word]).foldl crcWord 0xFFFF = register (words ++ [word]) ∧
      (checkWordRight (words ++ [word]) = true ↔ word = register words)) ∧
  (∀ reason : Reason, (reason, reason.code) ∈ (
     [(.denied, 0x01), (.duplicate, 0x02), (.dropOccupied, 0x03), (.directoryFull, 0x04), (.badNumber, 0x05),
      (.highwayClosed, 0x06), (.highwayDraining, 0x07), (.notAdmitted, 0x08), (.misrouted, 0x09), (.notReady, 0x0A),
      (.alreadyQueued, 0x0B), (.selfPeer, 0x0C), (.peerUnknown, 0x0D), (.peerNotReady, 0x0E), (.badClass, 0x0F),
      (.badWidth, 0x10), (.connectionLimit, 0x11), (.quota, 0x12), (.noSlots, 0x13), (.queueDisplaced, 0x14),
      (.queueTimeout, 0x15), (.cancelled, 0x16), (.notQueued, 0x17), (.peerGone, 0x18), (.unknownConnection, 0x19),
      (.notParty, 0x1A), (.notOriginator, 0x1B), (.notAnswerer, 0x1C), (.wrongState, 0x1D), (.pinned, 0x1E),
      (.declined, 0x1F), (.noAnswer, 0x20), (.byOriginator, 0x21), (.byAnswerer, 0x22), (.expired, 0x23),
      (.preempted, 0x24), (.departed, 0x25), (.evicted, 0x26), (.forced, 0x27), (.drained, 0x28),
      (.rosterFault, 0x29), (.notTopRelay, 0x2A), (.rosterManaged, 0x2B), (.sequence, 0x2C), (.malformed, 0x2D),
      (.depth, 0x2E), (.count, 0x2F), (.deniedEntry, 0x30), (.duplicateEntry, 0x31), (.noRoom, 0x32), (.host, 0x33),
      (.rosterTimeout, 0x34), (.checkWord, 0x35), (.truncated, 0x36)] : List (Reason × BitVec 6))) ∧
  ∀ (n number : StationNumber) (reference : Reference) (reason : Reason) (cls : ClassNo) (tag : Tag) (role : Role)
    (width amount : Nat) (flag pinned : Bool) (slots : List Nat), width ≤ 8 → slots.length ≤ 8 → (∀ a ∈ slots, a ≤ 63) →
    let high := number.toNat / 65536
    let low := number.toNat % 65536
    let named := 32 * reference.serial.toNat + reference.index.val
    let roleBit := match role with
      | .originator => 0
      | .answerer => 1
    let pairs := (List.range ((slots.length + 1) / 2)).map fun k =>
      256 * slots[2 * k]?.getD 0 + slots[2 * k + 1]?.getD 0
    let sent (body : DownBody) (kind aux : Nat) (fields : List Nat) : Prop :=
      let framed : List Word := ([1024 * kind + 64 * (fields.length + 4) + aux, n.toNat / 65536, n.toNat % 65536] ++
        fields).map fun v => BitVec.ofNat 16 v
      (DownMessage.mk n body).words = framed ++ [crc framed]
    (∀ handle : Handle, amount ≤ 16 → sent (.welcome handle amount cls flag) 0x20 0
      [1024 * handle.val + 32 * amount + 8 * cls.val + if flag then 1 else 0]) ∧
    sent (.refuse reason none none) 0x21 reason.code.toNat [0] ∧
    sent (.refuse reason (some tag) none) 0x21 reason.code.toNat [32768 + 256 * tag.val] ∧
    sent (.refuse reason none (some reference)) 0x21 reason.code.toNat [16384 + named] ∧
    sent (.refuseDrop reason none none number) 0x21 reason.code.toNat [0, high, low] ∧
    sent (.refuseDrop reason (some tag) none number) 0x21 reason.code.toNat [32768 + 256 * tag.val, high, low] ∧
    sent (.refuseDrop reason none (some reference) number) 0x21 reason.code.toNat [16384 + named, high, low] ∧
    sent (.queued tag) 0x22 tag.val [] ∧
    (amount ≤ 15 → sent (.offer reference number cls width flag slots amount) 0x23 width
      ([256 * named + 16 * amount + 4 * cls.val + if flag then 1 else 0, high, low] ++ pairs)) ∧
    (amount ≤ 255 →
      sent (.grant reference role number cls tag width slots amount) 0x24 width
        ([256 * named + amount, 32768 * roleBit + 4096 * cls.val + 256 * tag.val, high, low] ++ pairs) ∧
      sent (.renewed reference amount) 0x25 0 [256 * named + amount] ∧
      ∀ state, sent (.status reference state role number cls width flag slots pinned amount tag) 0x27 width
        ([256 * named + amount,
          16384 * (match state with
            | .pending => 0
            | .offered => 1
            | .active => 2) +
            8192 * roleBit + (if pinned then 4096 else 0) + (if flag then 2048 else 0) + 256 * cls.val + tag.val,
          high, low] ++ pairs)) ∧
    sent (.released reference reason) 0x26 reason.code.toNat [named] ∧
    (amount ≤ 8 → sent (.statusEnd amount none) 0x28 0 [4096 * amount] ∧
      sent (.statusEnd amount (some tag)) 0x28 0 [4096 * amount + 256 + tag.val]) ∧
    (∀ generation : Byte,
      (amount ≤ 15 → sent (.rosterOk generation amount) 0x29 0 [256 * generation.toNat + amount]) ∧
      sent (.rosterReject generation reason) 0x2A reason.code.toNat [256 * generation.toNat]) ∧
    sent (.evicted reason) 0x2B reason.code.toNat [] ∧ sent .sync 0x2C 0 [] ∧
    (∀ kind : BitVec 6, sent (.nak reason kind) 0x2D reason.code.toNat [kind.toNat]) ∧
    sent .resetAll 0x2E 0 [] ∧ sent (.highwayState .closed) 0x2F 0 [] ∧ sent (.highwayState .opened) 0x2F 1 [] ∧
    sent (.highwayState .draining) 0x2F 2 []

/-! ### The Station Directory -/

/-- An ATTACH that passes the checks of R76 is admitted at the lowest free handle (R72, R73, R78). -/
def Obligations.AttachAdmits : Prop :=
  ∀ (s : State) (drop : Drop) (n : StationNumber) (kind : StationKind) (cls : ClassNo) (h : Handle), s.Quiet →
    s.highway = .opened → validNumber n = true → s.listed n = false →
    (∀ k r, s.station k = some r → r.number ≠ n) →
    (∀ k r, s.station k = some r → r.drop = drop → r.via ≠ none) →
    s.station h = none → (∀ k, k < h → s.station k ≠ none) →
    let quota := (s.classPolicy cls).defaultQuota
    let record : Station :=
      match kind with
      | .endStation => ⟨n, .endStation, drop, none, 0, cls, .admitted, quota, false, none, none, none⟩
      | .relay =>
        ⟨n, .relay, drop, none, 0, cls, .rosterPending, quota, false, some [], none,
          some ⟨s.rosterPeriod, s.timer.parity⟩⟩
    exec (.attach drop n kind cls) s = .next
      ({ s.taking (.attach drop n kind cls) with
          stations := s.stations.set h (some record)
          directoryChanges := s.directoryChanges + 1
          flags := s.flags ||| 0x1 }.offer
        ⟨n, .welcome h quota cls (decide (kind = StationKind.relay))⟩)

/-- The checks of R76 in order: the first that fails gives the refusal, to the drop address with the number given; a listed
number takes one hit and raises DENY_HIT (R77, R114). -/
def Obligations.AttachIsRefused : Prop :=
  ∀ (s : State) (drop : Drop) (n : StationNumber) (kind : StationKind) (cls : ClassNo), s.Quiet →
    let taken := s.taking (.attach drop n kind cls)
    let refusedFrom (s' : State) (reason : Reason) : Prop :=
      exec (.attach drop n kind cls) s = .next (s'.offer ⟨BitVec.ofNat 32 drop.val, .refuseDrop reason none none n⟩)
    (s.highway = .closed → refusedFrom taken .highwayClosed) ∧
    (s.highway = .draining → refusedFrom taken .highwayDraining) ∧
    (s.highway = .opened →
      (validNumber n = false → refusedFrom taken .badNumber) ∧
      (validNumber n = true →
        (s.listed n = true →
          refusedFrom
            { taken with
              denyList := s.denyList.map fun e => if e.number = n then { e with hits := min 255 (e.hits + 1) } else e
              flags := s.flags ||| 0x20 }
            .denied) ∧
        (s.listed n = false →
          (∀ h r, s.lookup n = some (h, r) → r.drop ≠ drop ∨ r.via ≠ none → refusedFrom taken .duplicate) ∧
          (s.lookup n = none →
            ((∃ h r, s.station h = some r ∧ r.drop = drop ∧ r.via = none) → refusedFrom taken .dropOccupied) ∧
            ((∀ h r, s.station h = some r → r.drop = drop → r.via ≠ none) → (∀ h, s.station h ≠ none) →
              refusedFrom taken .directoryFull)))))

/-- A restart: the old record leaves as by DETACH, and the ATTACH then meets a directory without it, on a drop without a
tier-0 record, with a free handle, and is admitted (R79). The ATTACH may be a message handed on over the uplink or not; no DETACH
of the same station is handed on beside it, which the DETACH of the comparison would take (log entry 27). -/
def Obligations.RestartReplacesTheRecord : Prop :=
  ∀ (s t : State) (drop : Drop) (n : StationNumber) (kind : StationKind) (cls : ClassNo) (h : Handle) (r : Station),
    s.Quiet → s.DirectoryLaw → Instr.detach drop n ∉ s.handedOn → s.highway = .opened → validNumber n = true →
    s.station h = some r → r.number = n → r.drop = drop → r.via = none →
    exec (.detach drop n) s = .next t →
    exec (.attach drop n kind cls) s = exec (.attach drop n kind cls) t ∧
      t.Quiet ∧ t.highway = .opened ∧ t.listed n = false ∧ t.lookup n = none ∧ t.dropHolder drop = none ∧
      t.freeHandle.isSome = true

/-- DETACH of a tier-0 station and presence loss take their removal set, with reason DEPARTED, through the cascade (whose own
statement is `Obligations.RemovalFreesRecordAndSlots`) and so out of the directory, the Connection Table and the Wait Queue (R80
to R83); DETACH of a downstream station is refused ROSTER_MANAGED (R80). -/
def Obligations.DeparturesClearTheirSet : Prop :=
  (∀ (s : State) (drop : Drop) (n : StationNumber) (h : Handle) (r : Station), s.Quiet →
    s.lookup n = some (h, r) → r.drop = drop →
    let under := (List.finRange 48).filter fun k => (s.station k).any fun x => x.via = some h
    let set := if r.kind = StationKind.relay then h :: under else [h]
    let left := (s.taking (.detach drop n)).cascade set set .departed fun t => t
    (r.via = none → exec (.detach drop n) s = .next left ∧ s.Left left set none) ∧
    (r.via ≠ none → exec (.detach drop n) s = .next
      ((s.taking (.detach drop n)).offer ⟨n, .refuse .rosterManaged none none⟩))) ∧
  ∀ (s : State) (drop : Drop), s.Quiet →
    let set := (List.finRange 48).filter fun k => (s.station k).any fun x => x.drop = drop
    let lines : Pins := { s.pins with dpr := s.pins.dpr &&& ~~~BitVec.twoPow 16 drop.val }
    let left := { s with pins := lines }.cascade set set .departed fun t => t
    exec (.presenceLoss drop) s = .next left ∧ s.Left left set none ∧ left.pins = lines

/-- Messages that reach no owner's own rule: a source without a record or on another drop (R74), a roster message from any
source but a top relay (R92), a reference that names no current record, and a source that is no party of it (R24). -/
def Obligations.MessagesAreTurnedAway : Prop :=
  (∀ (s : State) (c : Instr) (drop : Drop) (n : StationNumber) (tag : Option Tag) (reference : Option Reference),
    s.Quiet → sourced c = some (drop, n, tag, reference) →
    let refusedAtDrop (reason : Reason) : Prop :=
      exec c s = .next ((s.taking c).offer ⟨BitVec.ofNat 32 drop.val, .refuseDrop reason tag reference n⟩)
    (s.lookup n = none → refusedAtDrop .notAdmitted) ∧
    ∀ h r, s.lookup n = some (h, r) →
      (r.drop ≠ drop → refusedAtDrop .misrouted) ∧
      (r.drop = drop → isRosterMessage c = true → r.kind ≠ .relay ∨ r.via ≠ none →
        exec c s = .next ((s.taking c).offer ⟨n, .refuse .notTopRelay none none⟩)) ∧
      (r.drop = drop → ∀ named, reference = some named →
        let refused (reason : Reason) : Prop :=
          exec c s = .next ((s.taking c).offer ⟨n, .refuse reason none (some named)⟩)
        (s.connection named.index = none ∨ s.serial named.index ≠ named.serial → refused .unknownConnection) ∧
        ∀ k, s.connection named.index = some k → s.serial named.index = named.serial →
          k.originator ≠ h → k.answerer ≠ h → refused .notParty))

/-! ### Requests -/

/-- The checks of R26 in order: the first that fails gives the refusal, with the request's tag, and changes nothing. -/
def Obligations.RequestsAreChecked : Prop :=
  ∀ (s : State) (drop : Drop) (n peer : StationNumber) (cls : ClassNo) (contiguous : Bool) (width : Fin 16) (tag : Tag)
    (h : Handle) (r : Station), s.Quiet → s.lookup n = some (h, r) → r.drop = drop →
    let c : Instr := .request drop n peer cls contiguous width tag
    let refused (reason : Reason) : Prop :=
      exec c s = .next ((s.taking c).offer ⟨n, .refuse reason (some tag) none⟩)
    (s.highway = .draining → refused .highwayDraining) ∧
    (s.highway = .closed → refused .highwayClosed) ∧
    (s.highway = .opened →
      (r.state ≠ .admitted → refused .notReady) ∧
      (r.state = .admitted →
        ((∃ e ∈ s.waitQueue, e.source = h) → refused .alreadyQueued) ∧
        ((∀ e ∈ s.waitQueue, e.source ≠ h) →
          (peer = n → refused .selfPeer) ∧
          (peer ≠ n →
            (s.lookup peer = none → refused .peerUnknown) ∧
            ∀ p q, s.lookup peer = some (p, q) →
              (q.state ≠ .admitted → refused .peerNotReady) ∧
              (q.state = .admitted →
                (cls < r.cls → refused .badClass) ∧
                (r.cls ≤ cls →
                  (width.val < 1 ∨ (s.classPolicy cls).maxWidth < width.val → refused .badWidth) ∧
                  (1 ≤ width.val → width.val ≤ (s.classPolicy cls).maxWidth →
                    (8 ≤ s.partyCount h ∨ 8 ≤ s.partyCount p → refused .connectionLimit) ∧
                    (s.partyCount h < 8 → s.partyCount p < 8 → r.quota < s.usage h + width.val →
                      refused .quota))))))))

/-- Placement of a REQUEST that passes the checks: the lowest unused index with its serial advanced, the searched slots
RESERVED, the record OFFERED, CONNECTION CHANGES advanced, OFFER to the answerer (R10, R21, R27). -/
def Obligations.RequestsArePlaced : Prop :=
  ∀ (s : State) (drop : Drop) (n peer : StationNumber) (cls : ClassNo) (contiguous : Bool) (width : Fin 16) (tag : Tag)
    (h p : Handle) (r q : Station) (i : Index) (slots : List Nat), s.Quiet → s.lookup n = some (h, r) →
    r.drop = drop → s.Passes h r peer p q cls width.val →
    s.connection i = none → (∀ j, j < i → s.connection j ≠ none) →
    s.searchSlots contiguous width.val = some slots →
    let c : Instr := .request drop n peer cls contiguous width tag
    exec c s = .next
      ({ s.taking c with
          slots := s.slots.mapIdx fun k x => if k + 2 ∈ slots then .reserved i else x
          serials := s.serials.set i (s.serial i + 1)
          connections := s.connections.set i
            (some ⟨.offered, false, h, p, cls, width.val, contiguous, tag, slots,
              some ⟨s.answerPeriod, s.timer.parity⟩⟩)
          connectionChanges := s.connectionChanges + 1 }.offer
        ⟨q.number, .offer ⟨i, s.serial i + 1⟩ n cls width.val contiguous slots s.answerPeriod⟩)

/-- The non-contiguous search returns the lowest-numbered FREE slots (R7), the contiguous one the lowest-numbered run of FREE
slots (R8). -/
def Obligations.SearchesFindTheLowest : Prop :=
  ∀ (s : State) (w : Nat), 1 ≤ w → w ≤ 8 →
    let free (n : Nat) : Prop := s.slot n = some .free
    let run (a : Nat) : Prop := 2 ≤ a ∧ a + w ≤ 64 ∧ ∀ n, a ≤ n → n < a + w → free n
    (∀ list, s.searchSlots false w = some list →
      list.length = w ∧ list.Pairwise (· < ·) ∧ (∀ n ∈ list, free n) ∧
        ∀ n ∈ list, ∀ m, m < n → free m → m ∈ list) ∧
    (s.searchSlots false w = none ↔ ∀ list : List Nat, list.Nodup → (∀ n ∈ list, free n) → list.length < w) ∧
    (∀ list, s.searchSlots true w = some list ↔
      ∃ a, run a ∧ (∀ b, b < a → ¬ run b) ∧ list = List.range' a w) ∧
    (s.searchSlots true w = none ↔ ∀ a, ¬ run a)

/-- A REQUEST that could not be placed and does not pre-empt: refused NO_SLOTS at once where the queue period is 0, inserted
behind the last entry of its class or a smaller one, or displacing the tail of a full queue (R28, R51, R52, R53). -/
def Obligations.RequestsAreQueued : Prop :=
  ∀ (s : State) (drop : Drop) (n peer : StationNumber) (cls : ClassNo) (contiguous : Bool) (width : Fin 16) (tag : Tag)
    (h p : Handle) (r q : Station), s.Quiet → s.lookup n = some (h, r) → r.drop = drop →
    s.Passes h r peer p q cls width.val →
    (∀ i, s.connection i ≠ none) ∨ s.searchSlots contiguous width.val = none →
    (s.classPolicy cls).mayPreempt = false ∨ contiguous = true ∨ s.victimsFor cls width.val = none →
    let c : Instr := .request drop n peer cls contiguous width tag
    let taken := s.taking c
    let period := (s.classPolicy cls).queuePeriod
    let entry : Entry := ⟨h, peer, p, cls, width.val, contiguous, tag, ⟨period, s.timer.parity⟩⟩
    let noSlots : State := (taken.offer ⟨n, .refuse .noSlots (some tag) none⟩).raise .refusal
    (period = 0 → exec c s = .next noSlots) ∧
    (1 ≤ period →
      (∀ front back, s.waitQueue.length < 16 → s.waitQueue = front ++ back → (∀ e ∈ front, e.cls ≤ cls) →
        (∀ e ∈ back, cls < e.cls) →
        exec c s = .next ({ taken with waitQueue := front ++ entry :: back }.offer ⟨n, .queued tag⟩)) ∧
      (∀ front back tail x, 16 ≤ s.waitQueue.length → s.waitQueue = front ++ back ++ [tail] → cls < tail.cls →
        (∀ e ∈ front, e.cls ≤ cls) → (∀ e ∈ back, cls < e.cls) → s.station tail.source = some x →
        exec c s = .next
          ({ ({ taken with waitQueue := front ++ back }.offer
                ⟨x.number, .refuse .queueDisplaced (some tail.tag) none⟩).raise .refusal with
              waitQueue := front ++ entry :: back }.offer ⟨n, .queued tag⟩)) ∧
      (∀ front tail, 16 ≤ s.waitQueue.length → s.waitQueue = front ++ [tail] → tail.cls ≤ cls →
        exec c s = .next noSlots))

/-- The victims are the shortest run from the head of the ranking that covers the width and, where the table is full, holds
one victim at least; none where the ranking runs out (R63, R64, R65). -/
def Obligations.VictimsAreTakenInRankOrder : Prop :=
  ∀ (s : State) (cls : ClassNo) (width : Nat),
    let full : Prop := ∀ i, s.connection i ≠ none
    let covers (list : List (Index × Connection)) : Prop :=
      width ≤ s.freeSlots.length + (list.map fun v => v.2.width).sum ∧ (full → list ≠ [])
    (s.ranking cls).Pairwise (fun a b =>
      b.2.cls < a.2.cls ∨ (b.2.cls = a.2.cls ∧ (a.2.remaining < b.2.remaining ∨
        (a.2.remaining = b.2.remaining ∧ b.1 < a.1)))) ∧
    (∀ v, v ∈ s.ranking cls ↔
      s.connection v.1 = some v.2 ∧ v.2.state = .active ∧ v.2.pinned = false ∧ cls < v.2.cls) ∧
    (∀ victims, s.victimsFor cls width = some victims ↔
      victims <+: s.ranking cls ∧ covers victims ∧
        ∀ shorter, shorter <+: s.ranking cls → shorter.length < victims.length → ¬ covers shorter) ∧
    (s.victimsFor cls width = none ↔ ¬ covers (s.ranking cls))

/-- A pre-emption: the victims' records go with LEASE raised, the new connection takes the lowest index then unused, the slots
take the states of R13, and the record is PENDING where a slot came from a victim and OFFERED otherwise (R13, R65, R66). The
messages go connection by connection in ascending index order, RELEASED(PREEMPTED) under the victim's own reference to its
originator and then its answerer, and OFFER of an OFFERED connection to its answerer (R23, R66); then one service pass for each
victim (R67). Where the new connection takes a victim's index the victim's messages come first: the model's reading (log entry
12). -/
def Obligations.PreemptionMakesRoom : Prop :=
  ∀ (s : State) (drop : Drop) (n peer : StationNumber) (cls : ClassNo) (width : Fin 16) (tag : Tag)
    (h p : Handle) (r q : Station) (victims : List (Index × Connection)), s.Quiet → s.lookup n = some (h, r) →
    r.drop = drop → s.Passes h r peer p q cls width.val →
    (∀ i, s.connection i ≠ none) ∨ s.searchSlots false width.val = none →
    (s.classPolicy cls).mayPreempt = true → s.victimsFor cls width.val = some victims →
    let c : Instr := .request drop n peer cls false width tag
    let indices := victims.map fun v => v.1
    let union := (List.range' 2 62).filter fun a =>
      s.slot a = some .free ∨ ∃ v ∈ indices, s.slot a = some (.held v)
    let chosen := union.take width.val
    let record : Connection :=
      if ∀ a ∈ chosen, s.slot a = some .free then
        ⟨.offered, false, h, p, cls, width.val, false, tag, chosen, some ⟨s.answerPeriod, s.timer.parity⟩⟩
      else ⟨.pending, false, h, p, cls, width.val, false, tag, chosen, none⟩
    ∃ i : Index, (s.connection i = none ∨ i ∈ indices) ∧ (∀ j, j < i → s.connection j ≠ none ∧ j ∉ indices) ∧
      let made : State :=
        { s.taking c with
          slots := s.slots.mapIdx fun k x =>
            if x = SlotRecord.free then if k + 2 ∈ chosen then .reserved i else .free
            else if ∃ v ∈ indices, x = .held v then .guard (if k + 2 ∈ chosen then some i else none) s.timer.parity
            else x
          serials := s.serials.set i (s.serial i + 1)
          connections := s.connections.mapIdx fun j k =>
            if j = i.val then some record else if ∃ v ∈ indices, v.val = j then none else k
          connectionChanges := s.connectionChanges + BitVec.ofNat 16 (victims.length + 1)
          flags := s.flags ||| 0x4 }
      let messages : List DownMessage := (List.finRange 32).flatMap fun j =>
        ((victims.filter fun v => v.1 = j).flatMap fun v =>
          [v.2.originator, v.2.answerer].flatMap fun party =>
            (s.station party).toList.map fun x => ⟨x.number, .released ⟨j, s.serial j⟩ .preempted⟩) ++
        if j = i ∧ record.state = .offered then
          [⟨peer, .offer ⟨i, s.serial i + 1⟩ n cls width.val false chosen s.answerPeriod⟩]
        else []
      exec c s = .next (State.servicePass^[victims.length] (messages.foldl (fun (t : State) m => t.offer m) made))

/-! ### Connections -/

/-- What a withdrawal and an end do to the slots, the record, CONNECTION CHANGES and the flags (R12, R14, R25): LEASE at an
end, and DRAINED where the table has become empty in DRAINING (R161). A removal cascade so removes every connection with a party
in the set, ascending, and tells the parties outside the set alone by the table of R45; then the entries that name the set leave
in queue order, with PEER_GONE to a source outside it (R60); then the records to delete and their assemblies go, with DIRECTORY
CHANGES and LEFT (R83 step 3); then what the cause does, and one service pass for each connection record freed (R45, R83). -/
def Obligations.RemovalFreesRecordAndSlots : Prop :=
  (∀ (s : State) (i : Index) (k : Connection), s.connection i = some k →
    let emptied : Prop := s.highway = .draining ∧ ∀ j, j ≠ i → s.connection j = none
    s.dropConnection i k =
      { s with
        slots := s.slots.map fun x =>
          if k.state = .active then if x = .held i then .guard none s.timer.parity else x
          else
            match x with
            | .reserved j => if j = i then .free else x
            | .guard (some j) p => if j = i then .guard none p else x
            | .guard none _ => x
            | .held _ => x
            | .free => x
        connections := s.connections.set i none
        connectionChanges := s.connectionChanges + 1
        flags := s.flags ||| (if k.state = .active then 0x4 else 0) ||| (if emptied then 0x80 else 0) }) ∧
  (∀ (s : State) (set : List Handle) (reason : Reason) (i : Index) (k : Connection) (x y : Station),
    s.connection i = some k → s.station k.originator = some x → s.station k.answerer = some y →
    let dropped := s.dropConnection i k
    let reference : Reference := ⟨i, s.serial i⟩
    let refused := dropped.offer ⟨x.number, .refuse reason (some k.tag) none⟩
    let toOriginator := dropped.offer ⟨x.number, .released reference reason⟩
    let toAnswerer := dropped.offer ⟨y.number, .released reference reason⟩
    (k.originator ∉ set → k.answerer ∈ set →
      s.cutConnection set reason i = if k.state = .active then toOriginator else refused) ∧
    (k.originator ∈ set → k.answerer ∉ set →
      s.cutConnection set reason i = if k.state = .pending then dropped else toAnswerer) ∧
    (k.originator ∈ set → k.answerer ∈ set → s.cutConnection set reason i = dropped)) ∧
  (∀ (s : State) (set : List Handle) (e : Entry) (x : Station), s.station e.source = some x →
    let left : State := { s with waitQueue := s.waitQueue.erase e }
    (e.source ∈ set → s.cutEntry set e = left) ∧
    (e.source ∉ set → e.peer ∈ set →
      s.cutEntry set e = left.offer ⟨x.number, .refuse .peerGone (some e.tag) none⟩) ∧
    (e.source ∉ set → e.peer ∉ set → s.cutEntry set e = s)) ∧
  ∀ (s : State) (set deleted : List Handle) (reason : Reason) (after : State → State),
    let touched := (List.finRange 32).filter fun i =>
      (s.connection i).any fun k => k.originator ∈ set ∨ k.answerer ∈ set
    let cut := touched.foldl (fun (t : State) i => t.cutConnection set reason i) s
    let cleared := s.waitQueue.foldl (fun (t : State) e => t.cutEntry set e) cut
    let emptied : State :=
      { cleared with
        stations := cleared.stations.mapIdx fun j r => if ∃ h ∈ deleted, h.val = j then none else r
        assemblies := cleared.assemblies.mapIdx fun j a => if ∃ h ∈ deleted, h.val = j then none else a
        directoryChanges := cleared.directoryChanges + BitVec.ofNat 16 deleted.length
        flags := if deleted = [] then cleared.flags else cleared.flags ||| 0x2 }
    s.cascade set deleted reason after = State.servicePass^[touched.length] (after emptied)

/-- ACCEPT: refused NOT_ANSWERER from the originator and WRONG_STATE outside OFFERED; otherwise the slots go HELD, the lease is
set, CONNECTION CHANGES advances, LEASE is raised and both parties get GRANT, the originator first (R11, R23, R30). That the
answerer's copy carries the tag is the model's reading (log entry 11). -/
def Obligations.AcceptActivates : Prop :=
  ∀ (s : State) (drop : Drop) (n : StationNumber) (reference : Reference) (h : Handle) (r : Station) (k : Connection),
    s.Quiet → s.lookup n = some (h, r) → r.drop = drop →
    s.connection reference.index = some k → s.serial reference.index = reference.serial →
    let c : Instr := .accept drop n reference
    let refused (reason : Reason) : Prop :=
      exec c s = .next ((s.taking c).offer ⟨n, .refuse reason none (some reference)⟩)
    let period := (s.classPolicy k.cls).leasePeriod
    (k.originator = h → refused .notAnswerer) ∧
    (k.originator ≠ h → k.answerer = h →
      (k.state ≠ .offered → refused .wrongState) ∧
      ∀ x, k.state = .offered → s.station k.originator = some x →
        exec c s = .next
          (({ s.taking c with
              slots := s.slots.map fun slot : SlotRecord =>
                if slot = SlotRecord.reserved reference.index then .held reference.index else slot
              connections := s.connections.set reference.index
                (some { k with state := .active, countdown := some ⟨period, s.timer.parity⟩ })
              connectionChanges := s.connectionChanges + 1
              flags := s.flags ||| 0x4 }.offer
            ⟨x.number, .grant reference .originator n k.cls k.tag k.width k.slotList period⟩).offer
              ⟨n, .grant reference .answerer x.number k.cls k.tag k.width k.slotList period⟩))

/-- DECLINE and RELEASE: refusals by role, state and pinning; otherwise the connection is withdrawn or ended, the parties are
told and one service pass starts (R25, R31, R32, R33, R34). -/
def Obligations.DeclineAndReleaseRemove : Prop :=
  ∀ (s : State) (drop : Drop) (n : StationNumber) (reference : Reference) (h : Handle) (r x y : Station)
    (k : Connection), s.Quiet → s.lookup n = some (h, r) → r.drop = drop →
    s.connection reference.index = some k → s.serial reference.index = reference.serial →
    s.station k.originator = some x → s.station k.answerer = some y →
    let decline : Instr := .decline drop n reference
    let release : Instr := .release drop n reference
    let refused (c : Instr) (reason : Reason) : Prop :=
      exec c s = .next ((s.taking c).offer ⟨n, .refuse reason none (some reference)⟩)
    let dropped (c : Instr) : State := (s.taking c).dropConnection reference.index k
    let toBoth (reason : Reason) : Prop :=
      exec release s = .next
        (((dropped release).offer ⟨x.number, .released reference reason⟩).offer
          ⟨y.number, .released reference reason⟩).servicePass
    let declined (c : Instr) : Prop :=
      exec c s = .next ((dropped c).offer ⟨x.number, .refuse .declined (some k.tag) none⟩).servicePass
    (k.originator = h →
      refused decline .notAnswerer ∧
      (k.state = .pending →
        exec release s = .next
          ((dropped release).offer ⟨x.number, .released reference .byOriginator⟩).servicePass) ∧
      (k.state = .offered → toBoth .byOriginator) ∧
      (k.state = .active → k.pinned = true → refused release .pinned) ∧
      (k.state = .active → k.pinned = false → toBoth .byOriginator)) ∧
    (k.originator ≠ h → k.answerer = h →
      (k.state ≠ .offered → refused decline .wrongState) ∧
      (k.state = .offered → declined decline ∧ declined release) ∧
      (k.state = .pending → refused release .wrongState) ∧
      (k.state = .active → k.pinned = true → refused release .pinned) ∧
      (k.state = .active → k.pinned = false → toBoth .byAnswerer))

/-- RENEW: its four refusals in order; otherwise the lease is set afresh, CONNECTION CHANGES advances and the originator gets
RENEWED (R35). -/
def Obligations.RenewSetsTheLease : Prop :=
  ∀ (s : State) (drop : Drop) (n : StationNumber) (reference : Reference) (h : Handle) (r : Station) (k : Connection),
    s.Quiet → s.lookup n = some (h, r) → r.drop = drop →
    s.connection reference.index = some k → s.serial reference.index = reference.serial →
    let c : Instr := .renew drop n reference
    let refused (reason : Reason) : Prop :=
      exec c s = .next ((s.taking c).offer ⟨n, .refuse reason none (some reference)⟩)
    let period := (s.classPolicy k.cls).leasePeriod
    (k.originator ≠ h → k.answerer = h → refused .notOriginator) ∧
    (k.originator = h →
      (k.state ≠ .active → refused .wrongState) ∧
      (k.state = .active →
        (k.pinned = true → refused .pinned) ∧
        (k.pinned = false →
          (s.highway = .draining → refused .highwayDraining) ∧
          (s.highway ≠ .draining → exec c s = .next
            ({ s.taking c with
                connections := s.connections.set reference.index
                  (some { k with countdown := some ⟨period, s.timer.parity⟩ })
                connectionChanges := s.connectionChanges + 1 }.offer ⟨n, .renewed reference period⟩)))))

/-- QUERY: one STATUS for each connection listed to the source, in index order, then STATUS_END with their number and the tag
of the source's queue entry (R43, R44). -/
def Obligations.QueryListsConnections : Prop :=
  ∀ (s : State) (drop : Drop) (n : StationNumber) (h : Handle) (r : Station) (statuses : List DownBody), s.Quiet →
    s.lookup n = some (h, r) → r.drop = drop →
    statuses = (List.finRange 32).filterMap (fun i =>
      (s.connection i).bind fun k =>
        let status (role : Role) (other : Handle) (tag : Tag) : DownBody :=
          .status ⟨i, s.serial i⟩ k.state role (s.numberOf other) k.cls k.width k.contiguous k.slotList k.pinned
            ((k.countdown.map fun d => d.remaining).getD 0) tag
        if k.originator = h then some (status .originator k.answerer k.tag)
        else if k.answerer = h ∧ k.state ≠ .pending then some (status .answerer k.originator 0)
        else none) →
    exec (.query drop n) s = .next
      ((statuses.foldl (fun t body => t.offer ⟨n, body⟩) (s.taking (.query drop n))).offer
        ⟨n, .statusEnd statuses.length ((s.waitQueue.find? fun e => e.source = h).map fun e => e.tag)⟩)

/-- CANCEL: NOT_READY from a source not ADMITTED, NOT_QUEUED without an entry of the tag, and otherwise the entry is removed
with CANCELLED (R59). -/
def Obligations.CancelRemovesTheEntry : Prop :=
  ∀ (s : State) (drop : Drop) (n : StationNumber) (tag : Tag) (h : Handle) (r : Station), s.Quiet →
    s.lookup n = some (h, r) → r.drop = drop →
    let c : Instr := .cancel drop n tag
    let refusedFrom (s' : State) (reason : Reason) : Prop :=
      exec c s = .next (s'.offer ⟨n, .refuse reason (some tag) none⟩)
    (r.state ≠ .admitted → refusedFrom (s.taking c) .notReady) ∧
    (r.state = .admitted →
      ((∀ e ∈ s.waitQueue, e.source ≠ h) → refusedFrom (s.taking c) .notQueued) ∧
      ∀ front e back, s.waitQueue = front ++ e :: back → e.source = h → (∀ x ∈ front, x.source ≠ h) →
        (e.tag ≠ tag → refusedFrom (s.taking c) .notQueued) ∧
        (e.tag = tag → refusedFrom { s.taking c with waitQueue := front ++ back } .cancelled))

/-! ### Rosters -/

/-- ROSTER_BEGIN opens an assembly, or is rejected for content with DEPTH before COUNT (R94, R95). -/
def Obligations.RosterBeginOpensTheAssembly : Prop :=
  ∀ (s : State) (drop : Drop) (n : StationNumber) (generation : Byte) (count : Fin 16) (depth : Fin 4)
    (depthExceeded countExceeded : Bool) (h : Handle) (r : Station), s.Quiet → s.lookup n = some (h, r) →
    r.drop = drop → r.kind = .relay → r.via = none →
    let c : Instr := .rosterBegin drop n generation count depth depthExceeded countExceeded
    (depthExceeded = true → exec c s = .next ((s.taking c).rejectContent h r generation .depth)) ∧
    (depthExceeded = false → countExceeded = true →
      exec c s = .next ((s.taking c).rejectContent h r generation .count)) ∧
    (depthExceeded = false → countExceeded = false → exec c s = .next
      { s.taking c with assemblies := s.assemblies.set h (some ⟨generation, count.val, depth.val, 0, []⟩) })

/-- ROSTER_PART: refused SEQUENCE without an assembly, rejected for sequence out of turn, rejected for content beyond the
declared count, and otherwise taken into the assembly (R96, R97). -/
def Obligations.RosterPartsAreGathered : Prop :=
  ∀ (s : State) (drop : Drop) (n : StationNumber) (partIndex : Fin 64) (entries : List RosterEntry) (h : Handle)
    (r : Station), s.Quiet → s.lookup n = some (h, r) → r.drop = drop → r.kind = .relay → r.via = none →
    let c : Instr := .rosterPart drop n partIndex entries
    (s.assembly h = none → exec c s = .next ((s.taking c).offer ⟨n, .refuse .sequence none none⟩)) ∧
    ∀ a, s.assembly h = some a →
      (partIndex.val ≠ a.partsReceived ∨ a.partsReceived = 5 → exec c s = .next
        (({ s.taking c with assemblies := s.assemblies.set h none }.offer
          ⟨n, .rosterReject a.generation .sequence⟩).raise .roster)) ∧
      (partIndex.val = a.partsReceived → a.partsReceived ≠ 5 →
        (a.declaredCount < a.entries.length + entries.length →
          exec c s = .next ((s.taking c).rejectContent h r a.generation .malformed)) ∧
        (a.entries.length + entries.length ≤ a.declaredCount → exec c s = .next
          { s.taking c with
            assemblies := s.assemblies.set h
              (some ⟨a.generation, a.declaredCount, a.declaredDepth, a.partsReceived + 1, a.entries ++ entries⟩) }))

/-- ROSTER_END: rejected for sequence without an assembly or with another generation (R98), and otherwise checked in the order
of R99, with one hit for each listed entry and DENY_HIT at check 4 (R100, R114). -/
def Obligations.RosterEndIsChecked : Prop :=
  ∀ (s : State) (drop : Drop) (n : StationNumber) (generation : Byte) (h : Handle) (r : Station), s.Quiet →
    s.lookup n = some (h, r) → r.drop = drop → r.kind = .relay → r.via = none →
    let c : Instr := .rosterEnd drop n generation
    (s.assembly h = none → exec c s = .next
      (((s.taking c).offer ⟨n, .rosterReject generation .sequence⟩).raise .roster)) ∧
    ∀ a, s.assembly h = some a →
      let numbers := a.entries.map fun e => e.number
      let rejectedFrom (s' : State) (reason : Reason) : Prop :=
        exec c s = .next (s'.rejectContent h r generation reason)
      let fresh := a.entries.filter fun e => (s.lookup e.number).isNone
      let absent := (s.downstream h).filter fun k => s.numberOf k ∉ numbers
      let freeHandles := (List.finRange 48).filter fun k => (s.station k).isNone
      (generation ≠ a.generation → exec c s = .next
        (({ s.taking c with assemblies := s.assemblies.set h none }.offer
          ⟨n, .rosterReject generation .sequence⟩).raise .roster)) ∧
      (generation = a.generation →
        (a.entries.length ≠ a.declaredCount → rejectedFrom (s.taking c) .malformed) ∧
        (a.entries.length = a.declaredCount →
          ((∃ m ∈ numbers, validNumber m = false ∨ m = n) ∨ ¬ numbers.Nodup →
            rejectedFrom (s.taking c) .malformed) ∧
          ((∀ m ∈ numbers, validNumber m = true ∧ m ≠ n) → numbers.Nodup →
            let tierWrong : Prop :=
              ∃ e ∈ a.entries, e.tier.val < 1 ∨ 4 < e.tier.val ∨ (e.kind = .relay ∧ 3 < e.tier.val)
            let deepest : Prop :=
              (∀ e ∈ a.entries, e.kind = .relay → e.tier.val ≤ a.declaredDepth) ∧
                (a.declaredDepth = 0 ∨ ∃ e ∈ a.entries, e.kind = .relay ∧ e.tier.val = a.declaredDepth)
            (tierWrong ∨ ¬ deepest → rejectedFrom (s.taking c) .depth) ∧
            (¬ tierWrong → deepest →
              ((∃ m ∈ numbers, s.listed m = true) → rejectedFrom
                { s.taking c with
                  denyList := s.denyList.map fun e =>
                    if e.number ∈ numbers then { e with hits := min 255 (e.hits + 1) } else e
                  flags := s.flags ||| 0x20 }
                .deniedEntry) ∧
              ((∀ m ∈ numbers, s.listed m = false) →
                ((∃ m ∈ numbers, ∃ k x, s.lookup m = some (k, x) ∧ x.via ≠ some h) →
                  rejectedFrom (s.taking c) .duplicateEntry) ∧
                ((∀ m ∈ numbers, ∀ k x, s.lookup m = some (k, x) → x.via = some h) →
                  (freeHandles.length + absent.length < fresh.length → rejectedFrom (s.taking c) .noRoom) ∧
                  (fresh.length ≤ freeHandles.length + absent.length →
                    exec c s = .next ((s.taking c).acceptRoster h r a))))))))

/-- An acceptance: the stations left out go by the cascade with reason DEPARTED, which before its service passes takes the other
steps of R103; the directory holds exactly the entries under the relay, kept ones at their handles with the KIND and TIER
reported, new ones ADMITTED with the class's quota; the relay is ADMITTED with the new roster; stations left out are gone from
every table; ROSTER_OK carries the number of new ones, and DIRECTORY CHANGES counts each change (R102, R103, R104). -/
def Obligations.AcceptanceReplacesTheRoster : Prop :=
  ∀ (s : State) (h : Handle) (r : Station) (a : Assembly), s.DirectoryLaw → s.station h = some r → r.kind = .relay →
    r.via = none → s.assembly h = some a → s.rosterRefusal h r a = none →
    let t := s.acceptRoster h r a
    let numbers := a.entries.map fun e => e.number
    let gone := (s.downstream h).filter fun k => s.numberOf k ∉ numbers
    let fresh := a.entries.filter fun e => (s.lookup e.number).isNone
    let changed := a.entries.filter fun e =>
      (s.lookup e.number).any fun p => p.2.kind ≠ e.kind || p.2.tier ≠ e.tier.val
    t = s.cascade gone gone .departed (fun u =>
      let entered := a.entries.foldl (State.keepEntry h) u
      let admitted := fresh.foldl (State.admitEntry h r) entered
      ((admitted.acceptRelay h r a).tell h (.rosterOk a.generation fresh.length)).raise .roster) ∧
    t.assembly h = none ∧ (∀ k, k ≠ h → k ∉ gone → t.assembly k = s.assembly k) ∧
    (∃ roster : List Handle,
      (t.station h).map Station.settledFields = some { r.settledFields with
        state := .admitted, roster := some roster, generation := some a.generation, deadline := none } ∧
      roster.map (fun k => (t.station k).map fun x => x.number) = numbers.map some ∧
      t.directoryChanges = s.directoryChanges + BitVec.ofNat 16
        (gone.length + changed.length + fresh.length + (if r.state = .admitted then 0 else 1) +
          if r.roster = some roster ∧ r.generation = some a.generation then 0 else 1)) ∧
    (⟨r.number, .rosterOk a.generation fresh.length⟩ ∈ t.downlink.held ∨ t.pendingFlag .sync = true) ∧
    s.downlink.held <+: t.downlink.held ∧ (fresh ≠ [] → t.pendingFlag .joined = true) ∧
    (∀ k x, t.station k = some x → x.via = some h → x.number ∈ numbers) ∧
    (∀ e ∈ a.entries, ∃ k x, t.station k = some x ∧ x.number = e.number ∧
      (s.lookup e.number = none → x.settledFields =
        ⟨e.number, e.kind, r.drop, some h, e.tier.val, r.cls, .admitted, (s.classPolicy r.cls).defaultQuota, false,
          none, none, none⟩) ∧
      (∀ k' x', s.lookup e.number = some (k', x') →
        k = k' ∧ x.settledFields = { x'.settledFields with kind := e.kind, tier := e.tier.val })) ∧
    (∀ k x, s.station k = some x → k ≠ h → x.via ≠ some h →
      (t.station k).map Station.settledFields = some x.settledFields) ∧
    (∀ i k, t.connection i = some k → k.originator ∉ gone ∧ k.answerer ∉ gone) ∧
    (∀ e ∈ t.waitQueue, e.source ∉ gone ∧ e.peer ∉ gone) ∧
    (∀ i k, s.connection i = some k → k.originator ∉ gone → k.answerer ∉ gone → t.connection i = some k) ∧
    t.pendingFlag .roster = true ∧ (gone ≠ [] → t.pendingFlag .left = true) ∧
    t.denyList = s.denyList ∧ t.policy = s.policy ∧ t.highway = s.highway ∧ t.port = s.port

/-- A rejection for content: the assembly is closed; the relay and its downstream records go through the cascade with reason
ROSTER_FAULT, the relay alone staying; it stands in ROSTER_FAULT with an empty roster, no generation and a fresh deadline, it is
offered ROSTER_REJECT with the generation and the reason, and ROSTER is raised, before the service passes (R46, R105, R106). -/
def Obligations.RejectionFaultsTheRelay : Prop :=
  ∀ (s : State) (h : Handle) (r : Station) (generation : Byte) (reason : Reason), s.station h = some r → r.via = none →
    let t := s.rejectContent h r generation reason
    let under := s.downstream h
    let stateChange := if r.state = .rosterFault then 0 else 1
    let rosterChange := if r.roster.getD [] = [] ∧ r.generation = none then 0 else 1
    t = { s with assemblies := s.assemblies.set h none }.cascade (h :: under) under .rosterFault
      (State.faultRelay h r generation reason) ∧
    (∀ (u : State) (x : Station), u.station h = some x → u.faultRelay h r generation reason =
      ({ u with
          stations := u.stations.set h (some { x with
            state := .rosterFault
            roster := some []
            generation := none
            deadline := some ⟨u.rosterPeriod, u.timer.parity⟩ })
          directoryChanges := u.directoryChanges + BitVec.ofNat 16 (stateChange + rosterChange) }.offer
        ⟨x.number, .rosterReject generation reason⟩).raise .roster) ∧
    (⟨r.number, .rosterReject generation reason⟩ ∈ t.downlink.held ∨ t.pendingFlag .sync = true) ∧
    t.assembly h = none ∧
    (t.station h).map Station.settledFields = some { r.settledFields with
      state := .rosterFault
      roster := some []
      generation := none
      deadline := some ⟨s.rosterPeriod, s.timer.parity⟩ } ∧
    (∀ k ∈ under, t.station k = none ∧ t.assembly k = none) ∧
    (∀ k, k ≠ h → k ∉ under →
      (t.station k).map Station.settledFields = (s.station k).map Station.settledFields ∧
        t.assembly k = s.assembly k) ∧
    (∀ i k, t.connection i = some k → k.originator ∉ h :: under ∧ k.answerer ∉ h :: under) ∧
    (∀ i k, s.connection i = some k → k.originator ∉ h :: under → k.answerer ∉ h :: under →
      t.connection i = some k) ∧
    (∀ e ∈ t.waitQueue, e.source ∉ h :: under ∧ e.peer ∉ h :: under) ∧
    t.directoryChanges =
      s.directoryChanges + BitVec.ofNat 16 (under.length + stateChange + rosterChange) ∧
    t.pendingFlag .roster = true ∧ (under ≠ [] → t.pendingFlag .left = true) ∧
    t.denyList = s.denyList ∧ t.policy = s.policy ∧ t.highway = s.highway ∧ t.port = s.port ∧ t.timer = s.timer

/-! ### Superframe boundaries -/

/-- Guard end: each GUARD slot of the superframe that ends goes FREE, or RESERVED for its owner; each PENDING connection whose
earmarks end becomes OFFERED with the answer period, with OFFER to its answerer, in ascending index order; one service pass
where a slot went FREE (R15, R16, R29). A boundary already taken is not taken again (log entry 2); what a party at a free handle
would make of the messages is log entry 15. -/
def Obligations.GuardEndFreesAndCompletes : Prop :=
  ∀ s : State, s.Quiet →
    let ending : Parity := !s.timer.parity
    let stands (x : SlotRecord) : Prop := ∃ a ∈ List.range' 2 62, s.slot a = some x
    let completed := (List.finRange 32).filter fun i =>
      stands (.guard (some i) ending) ∧ (s.connection i).any fun k => k.state = .pending
    let offers : List DownMessage := completed.flatMap fun i =>
      match s.connection i with
      | none => []
      | some k => (s.station k.answerer).toList.map fun y =>
        ⟨y.number, .offer ⟨i, s.serial i⟩ (s.numberOf k.originator) k.cls k.width k.contiguous k.slotList s.answerPeriod⟩
    let ended : State := offers.foldl (fun (t : State) m => t.offer m)
      { s with
        owed := { s.owed with guardEnd := false }
        slots := s.slots.map fun x =>
          match x with
          | .guard none p => if p = ending then .free else x
          | .guard (some i) p => if p = ending then .reserved i else x
          | .free => x
          | .reserved _ => x
          | .held _ => x
        connections := s.connections.mapIdx fun j k =>
          if ∃ i ∈ completed, i.val = j then
            k.map fun k => { k with state := .offered, countdown := some ⟨s.answerPeriod, s.timer.parity⟩ }
          else k
        connectionChanges := s.connectionChanges + BitVec.ofNat 16 completed.length }
    (s.owed.guardEnd = false → exec .guardEnd s = .next s) ∧
    (s.owed.guardEnd = true →
      (stands (.guard none ending) → exec .guardEnd s = .next ended.servicePass) ∧
      (¬ stands (.guard none ending) → exec .guardEnd s = .next ended))

/-- The Lease Engine's walk lowers the countdowns kept against the superframe that ends, up to the first that reaches 0, where
it stands; the expiry ends a lease with RELEASED(EXPIRED) or an offer with REFUSE(NO_ANSWER) and RELEASED(NO_ANSWER), starts a
service pass, and the walk moves on (R36, R37, R38). The model's choices: an expiry is a command of its own (log entry 4), and a
walk not owed, an expiry not due and the expiry row of another state change nothing (log entry 2). -/
def Obligations.LeaseWalkLowersAndExpires : Prop :=
  (∀ s : State, s.Quiet →
    let lowered (k : Connection) : Connection :=
      match k.countdown with
      | some d => if d.superframe = s.timer.parity then k else { k with countdown := some ⟨d.remaining - 1, s.timer.parity⟩ }
      | none => k
    let runsOut (k : Connection) : Prop :=
      ∃ d, k.countdown = some d ∧ d.superframe ≠ s.timer.parity ∧ d.remaining ≤ 1
    (s.owed.leaseWalk = false → exec .leaseCountdownWalk s = .next s) ∧
    (s.owed.leaseWalk = true →
      ((∀ i k, s.connection i = some k → ¬ runsOut k) → exec .leaseCountdownWalk s = .next
        { s with
          owed := { s.owed with leaseWalk := false }
          connections := s.connections.map fun k => k.map lowered }) ∧
      ∀ i k, s.connection i = some k → runsOut k → (∀ j x, j < i → s.connection j = some x → ¬ runsOut x) →
        exec .leaseCountdownWalk s = .next
          { s with
            owed := { s.owed with leaseWalk := false }
            due := some (.connection i)
            connections := s.connections.mapIdx fun j k => if j ≤ i.val then k.map lowered else k })) ∧
  (∀ s : State, s.due = none → exec .leaseExpiry s = .next s ∧ exec .answerExpiry s = .next s) ∧
  ∀ (s : State) (i : Index) (k : Connection) (x y : Station), s.hold = .running → s.due = some (.connection i) →
    s.connection i = some k → s.station k.originator = some x → s.station k.answerer = some y →
    let reference : Reference := ⟨i, s.serial i⟩
    let onward := (List.finRange 32).filter fun j => i < j
    (k.state = .active →
      exec .answerExpiry s = .next s ∧
      exec .leaseExpiry s = .next
        ((((s.dropConnection i k).offer ⟨x.number, .released reference .expired⟩).offer
          ⟨y.number, .released reference .expired⟩).servicePass.walkConnections onward)) ∧
    (k.state = .offered →
      exec .leaseExpiry s = .next s ∧
      exec .answerExpiry s = .next
        ((((s.dropConnection i k).offer ⟨x.number, .refuse .noAnswer (some k.tag) none⟩).offer
          ⟨y.number, .released reference .noAnswer⟩).servicePass.walkConnections onward))

/-- The Wait Queue's walk lowers the countdowns kept against the superframe that ends, up to the first that reaches 0; that
entry leaves with REFUSE(QUEUE_TIMEOUT), REFUSAL is raised, and the walk moves on (R57). The model's choices: an expiry is a
command of its own (log entry 4), and a walk not owed and an expiry not due change nothing (log entry 2). -/
def Obligations.QueueWalkLowersAndTimesOut : Prop :=
  (∀ s : State, s.Quiet →
    let lowered (e : Entry) : Entry :=
      if e.countdown.superframe = s.timer.parity then e
      else { e with countdown := ⟨e.countdown.remaining - 1, s.timer.parity⟩ }
    let runsOut (e : Entry) : Prop := e.countdown.superframe ≠ s.timer.parity ∧ e.countdown.remaining ≤ 1
    (s.owed.queueWalk = false → exec .queueDeadlineWalk s = .next s) ∧
    (s.owed.queueWalk = true →
      ((∀ e ∈ s.waitQueue, ¬ runsOut e) → exec .queueDeadlineWalk s = .next
        { s with owed := { s.owed with queueWalk := false }, waitQueue := s.waitQueue.map lowered }) ∧
      ∀ front e back, s.waitQueue = front ++ e :: back → (∀ x ∈ front, ¬ runsOut x) → runsOut e →
        exec .queueDeadlineWalk s = .next
          { s with
            owed := { s.owed with queueWalk := false }
            due := some (.entry front.length)
            waitQueue := front.map lowered ++ lowered e :: back })) ∧
  (∀ s : State, s.due = none → exec .queueTimeout s = .next s) ∧
  ∀ (s : State) (front back : List Entry) (e : Entry) (x : Station), s.hold = .running →
    s.due = some (.entry front.length) → s.waitQueue = front ++ e :: back → s.station e.source = some x →
    exec .queueTimeout s = .next
      ((({ s with waitQueue := front ++ back }.offer ⟨x.number, .refuse .queueTimeout (some e.tag) none⟩).raise
        .refusal).walkEntries back front.length)

/-- The Roster Checker's walk lowers the deadlines kept against the superframe that ends, up to the first that reaches 0; that
relay, alone in its removal set, is evicted with ROSTER_TIMEOUT, and the walk moves on (R85, R107, R108). The model's choices: an
expiry is a command of its own (log entry 4), and a walk not owed and an expiry not due change nothing (log entry 2). -/
def Obligations.RosterWalkLowersAndEvicts : Prop :=
  (∀ s : State, s.Quiet →
    let lowered (r : Station) : Station :=
      match r.deadline with
      | some d =>
        if r.topRelay = true ∧ d.superframe ≠ s.timer.parity then
          { r with deadline := some ⟨d.remaining - 1, s.timer.parity⟩ }
        else r
      | none => r
    let runsOut (r : Station) : Prop :=
      r.topRelay = true ∧ ∃ d, r.deadline = some d ∧ d.superframe ≠ s.timer.parity ∧ d.remaining ≤ 1
    (s.owed.rosterWalk = false → exec .rosterDeadlineWalk s = .next s) ∧
    (s.owed.rosterWalk = true →
      ((∀ h r, s.station h = some r → ¬ runsOut r) → exec .rosterDeadlineWalk s = .next
        { s with
          owed := { s.owed with rosterWalk := false }
          stations := s.stations.map fun r => r.map lowered }) ∧
      ∀ h r, s.station h = some r → runsOut r → (∀ k x, k < h → s.station k = some x → ¬ runsOut x) →
        exec .rosterDeadlineWalk s = .next
          { s with
            owed := { s.owed with rosterWalk := false }
            due := some (.relay h)
            stations := s.stations.mapIdx fun k r => if k ≤ h.val then r.map lowered else r })) ∧
  (∀ s : State, s.due = none → exec .rosterDeadlineExpiry s = .next s) ∧
  ∀ (s : State) (h : Handle) (r : Station), s.hold = .running → s.due = some (.relay h) → s.station h = some r →
    r.kind = .relay → r.via = none → (∀ k x, s.station k = some x → x.via ≠ some h) →
    (∀ i k, s.connection i = some k → k.originator ≠ h ∧ k.answerer ≠ h) →
    (∀ e ∈ s.waitQueue, e.source ≠ h ∧ e.peer ≠ h) →
    exec .rosterDeadlineExpiry s = .next
      (({ s with
          stations := s.stations.set h none
          assemblies := s.assemblies.set h none
          directoryChanges := s.directoryChanges + 1
          flags := s.flags ||| 0x2 }.offer ⟨r.number, .evicted .rosterTimeout⟩).walkRelays
        ((List.finRange 48).filter fun k => h < k))

/-! ### The Host Port -/

/-- A transaction whose address byte has bit 7 set is a read: it captures the window and drives its data bytes from the capture,
the address advancing and wrapping past 3Fh (R167, R168, R169, R170, R171, R194), the result code by R195; with bit 7 clear it is
the start of a write transaction (R194). While full reset is held a read gives the reset values with BUSY set (R189); that
DOWNLINK FREE then reads 27h and DROP PRESENT the lines is the model's reading (log entry 19). That the row stands for a
transaction from its start is the model's choice (log entry 21). -/
def Obligations.ReadsCaptureTheWindow : Prop :=
  ∀ (s : State) (address : Byte) (length : Nat), s.Quiet ∨ s.hold ≠ .running →
    (address.getLsbD 7 = false → exec (.spiReadCapture address length) s = .next
      { s with
        spi := { s.spi with
          transaction := some (.writing (address.setWidth 6) (decide (s.hold ≠ Hold.running))) } }) ∧
    (address.getLsbD 7 = true → ∃ w : Vector Byte 64,
      exec (.spiReadCapture address length) s = .next
        { s with
          spi :=
            ⟨some (.reading (address.setWidth 6 + BitVec.ofNat 6 length)), w,
              (List.range length).map fun k => w[(address.toNat + k) % 64]'(Nat.mod_lt _ (by decide))⟩ } ∧
      w[0x00] = 0x62 ∧ w[0x01] = 0x01 ∧ w[0x0F] ++ w[0x10] = s.pins.dpr ∧
      (∀ k, (low : 0x15 ≤ k) → (high : k < 0x20) → w[k] = 0) ∧
      (s.hold = .running →
        w[0x02] = BitVec.ofNat 8
          ((if s.port.mailbox = .idle then 0 else 0x80) + (if s.port.collided then 0x40 else 0) +
            match s.highway with
            | .closed => 0
            | .opened => 1
            | .draining => 2) ∧
        w[0x03] = s.port.command ∧
        (s.port.result, w[0x04]) ∈ (
          [(.ok, 0x00), (.unknownCommand, 0x01), (.badArgument, 0x02), (.notFound, 0x03), (.listFull, 0x04),
            (.alreadyListed, 0x05), (.slotBusy, 0x06), (.tableFull, 0x07), (.wrongState, 0x08), (.partyLimit, 0x09),
            (.notAdmitted, 0x0A)] : List (Machine.Result × Byte)) ∧
        w[0x05] ++ w[0x06] = s.flags.setWidth 16 ∧ w[0x07] ++ w[0x08] = s.port.enables.setWidth 16 ∧
        w[0x09] = BitVec.ofNat 8 ((List.finRange 48).filter fun h => (s.station h).isSome).length ∧
        w[0x0A] = BitVec.ofNat 8 ((List.finRange 32).filter fun i => (s.connection i).isSome).length ∧
        w[0x0B] = BitVec.ofNat 8 s.waitQueue.length ∧ w[0x0C] = BitVec.ofNat 8 s.denyList.length ∧
        w[0x0D] = BitVec.ofNat 8 ((List.range' 2 62).filter fun a => s.slot a = some .free).length ∧
        w[0x0E] = BitVec.ofNat 8 (40 - s.downlink.held.length) ∧
        w[0x11] ++ w[0x12] = s.directoryChanges ∧ w[0x13] ++ w[0x14] = s.connectionChanges ∧
        ∀ k : Fin 32, w[0x20 + k.val]'(by omega) = s.port.readout[k]) ∧
      (s.hold ≠ .running →
        w[0x02] = 0x80 ∧ w[0x0D] = 0x3E ∧ w[0x0E] = 0x27 ∧
        (∀ k, (low : 0x03 ≤ k) → (high : k < 0x0D) → w[k] = 0) ∧
        (∀ k, (low : 0x11 ≤ k) → (high : k < 0x40) → w[k] = 0)))

/-- An SPI transaction begins at the fall of SCS, its address byte makes it a read or a write by bit 7, its data bytes follow, and
the rise of SCS ends it (R167, R194). A data byte written reaches its location: the command byte, the two flag registers and the
argument area are written and every other location discards it; the address advances and wraps (R168, R172, R173, R175, R187,
R188). A write transaction of which any part falls under a held full reset has every further byte discarded to its end (R189). A
data byte of a read transaction drives the captured byte at its address (R167, R169). NOTIFY is high while some flag is both
pending and enabled (R188). The model's choices: the rows and events a transaction is made of, and a byte that no transaction
awaits changing nothing (log entry 21); COMMAND_COLLISION and UNKNOWN_COMMAND judged by BUSY and the code alone (log entry 25). -/
def Obligations.WritesReachTheirLocation : Prop :=
  let begins (c : Instr) (a : BitVec 6) (value : Byte) : Prop :=
    (∃ address : Byte, c = .registerWrite (.first address) value ∧ address.getLsbD 7 = false ∧ a = address.setWidth 6) ∨
      (∃ high, c = .notifyPendingWrite high value ∧ a = if high then 0x05 else 0x06) ∨
      (∃ high, c = .notifyEnableWrite high value ∧ a = if high then 0x07 else 0x08) ∨
      ((c = .commandCollision value ∨ c = .unknownCommand value) ∧ a = 0x03)
  (∀ (s : State) (c : Instr) (a : BitVec 6) (value : Byte), s.Quiet →
    begins c a value ∨ (c = .registerWrite .data value ∧ s.spi.transaction = some (.writing a false)) →
    let moved : State := { s with spi := { s.spi with transaction := some (.writing (a + 1) false) } }
    let enabling (enables : BitVec 10) : State := { moved with port := { s.port with enables := enables } }
    (a = 0x05 → exec c s = .next { moved with flags := s.flags &&& ~~~(value.setWidth 10 <<< 8) }) ∧
    (a = 0x06 → exec c s = .next { moved with flags := s.flags &&& ~~~(value.setWidth 10) }) ∧
    (a = 0x07 → exec c s = .next (enabling ((s.port.enables &&& 0x0FF) ||| (value.setWidth 10 <<< 8)))) ∧
    (a = 0x08 → exec c s = .next (enabling ((s.port.enables &&& 0x300) ||| value.setWidth 10))) ∧
    (∀ k : Fin 20, a.toNat = 0x20 + k.val →
      exec c s = .next { moved with port := { s.port with arguments := s.port.arguments.set k value } }) ∧
    (a < 0x03 ∨ a = 0x04 ∨ (0x08 < a ∧ a < 0x20) ∨ 0x33 < a → exec c s = .next moved) ∧
    (a = 0x03 →
      (s.port.mailbox ≠ .idle → exec c s = .next { moved with port := { s.port with collided := true } }) ∧
      (s.port.mailbox = .idle →
        let latched : Port :=
          { s.port with
            latched := s.port.arguments
            command := value
            mailbox := .latched
            collided := false }
        (value ∈ commandCodes → exec c s = .next { moved with port := latched }) ∧
        (value ∉ commandCodes → exec c s = .next
          { moved with
            port :=
              { latched with
                mailbox := .idle
                result := .unknownCommand
                readout := Vector.replicate 32 0 }
            flags := s.flags ||| 0x200 })))) ∧
  (∀ (s : State) (c : Instr) (a : BitVec 6) (value : Byte), s.hold ≠ .running →
    begins c a value → exec c s = .next
      { s with spi := { s.spi with transaction := some (.writing (a + 1) true) } }) ∧
  (∀ (s : State) (byte value : Byte), s.Quiet ∨ s.hold ≠ .running →
    let standing (x : Option SpiTransaction) : State := { s with spi := { s.spi with transaction := x } }
    exec (.registerWrite .select value) s = .next (standing (some (.addressing (decide (s.hold ≠ Hold.running))))) ∧
    exec (.registerWrite .deselect value) s = .next (standing none) ∧
    (byte.getLsbD 7 = true → exec (.registerWrite (.first byte) value) s = exec (.spiReadCapture byte 1) s) ∧
    (∀ discarded, s.spi.transaction = some (.addressing discarded) →
      (byte.getLsbD 7 = false →
        exec (.registerWrite .address byte) s = .next (standing (some (.writing (byte.setWidth 6) discarded)))) ∧
      (byte.getLsbD 7 = true → exec (.registerWrite .address byte) s = exec (.spiReadCapture byte 0) s) ∧
      exec (.registerWrite .data value) s = .next s) ∧
    (∀ a, s.spi.transaction = some (.writing a true) →
      exec (.registerWrite .data value) s = .next (standing (some (.writing (a + 1) true)))) ∧
    (∀ a, s.spi.transaction = some (.reading a) → exec (.registerWrite .data value) s = .next
      { s with spi := ⟨some (.reading (a + 1)), s.spi.capture, s.spi.sdo ++ [s.spi.capture[a.toNat]]⟩ }) ∧
    ((∀ discarded, s.spi.transaction ≠ some (.addressing discarded)) →
      exec (.registerWrite .address byte) s = .next s) ∧
    (s.spi.transaction = none → exec (.registerWrite .data value) s = .next s)) ∧
  ∀ s : State, s.notify = true ↔ ∃ k, s.flags.getLsbD k = true ∧ s.port.enables.getLsbD k = true

/-- A host command: with BUSY clear its write latches it and its owner takes it as if it had been latched before; while another
command is in progress the write is ignored with COLLIDED set; under full reset it is discarded (R172, R173, R189). The
completion writes the result and the readout, clears BUSY and raises COMMAND (R174, R184). The model's choices: one row stands
for the write and the owner's taking (log entry 6), and COMMAND_COMPLETION with no work done changes nothing (log entry 2). -/
def Obligations.CommandsAreLatchedTakenAndCompleted : Prop :=
  (∀ (s : State) (c : Instr) (code : Byte), hostCode c = some code →
    (s.Quiet → s.port.mailbox = .idle →
      exec c s = exec c
        { s with
          port :=
            { s.port with
              latched := s.port.arguments
              command := code
              mailbox := .latched
              collided := false }
          spi := { s.spi with transaction := some (.writing 0x04 false) } }) ∧
    (s.Quiet → s.port.mailbox ≠ .idle → ¬(s.port.mailbox = .latched ∧ s.port.command = code) →
      exec c s = .next
        { s with
          port := { s.port with collided := true }
          spi := { s.spi with transaction := some (.writing 0x04 false) } }) ∧
    (s.hold ≠ .running → exec c s = .next
      { s with spi := { s.spi with transaction := some (.writing 0x04 true) } })) ∧
  ∀ s : State, s.Quiet →
    (∀ result readout, s.port.mailbox = .done result readout → exec .commandCompletion s = .next
      { s with
        port :=
          { s.port with
            mailbox := .idle
            result := result
            readout := if result = .ok then readout else Vector.replicate 32 0 }
        flags := s.flags ||| 0x200 }) ∧
    (s.port.mailbox = .idle ∨ s.port.mailbox = .latched → exec .commandCompletion s = .next s)

/-! ### Service passes -/

/-- A service pass examines the entries as they stand at its start, head to tail, and none outside OPEN (R54); each is removed
with BAD_WIDTH, stays, or is served as a placement (R55). -/
def Obligations.ServicePassExaminesInQueueOrder : Prop :=
  (∀ s : State, s.highway ≠ .opened → s.servicePass = s) ∧
  (∀ s : State, s.highway = .opened → s.servicePass = s.waitQueue.foldl (fun t e => t.examine e) s) ∧
  ∀ (s : State) (e : Entry) (x y : Station), s.station e.source = some x → s.station e.peer = some y →
    ((s.classPolicy e.cls).maxWidth < e.width → s.examine e =
      { s with waitQueue := s.waitQueue.erase e }.offer ⟨x.number, .refuse .badWidth (some e.tag) none⟩) ∧
    (e.width ≤ (s.classPolicy e.cls).maxWidth →
      (8 ≤ s.partyCount e.source ∨ 8 ≤ s.partyCount e.peer ∨ x.quota < s.usage e.source + e.width ∨
          (∀ i, s.connection i ≠ none) ∨ s.searchSlots e.contiguous e.width = none →
        s.examine e = s) ∧
      ∀ i slots, s.partyCount e.source < 8 → s.partyCount e.peer < 8 → s.usage e.source + e.width ≤ x.quota →
        s.connection i = none → (∀ j, j < i → s.connection j ≠ none) →
        s.searchSlots e.contiguous e.width = some slots →
        s.examine e =
          { s with
            waitQueue := s.waitQueue.erase e
            slots := s.slots.mapIdx fun k r => if k + 2 ∈ slots then .reserved i else r
            serials := s.serials.set i (s.serial i + 1)
            connections := s.connections.set i
              (some ⟨.offered, false, e.source, e.peer, e.cls, e.width, e.contiguous, e.tag, slots,
                some ⟨s.answerPeriod, s.timer.parity⟩⟩)
            connectionChanges := s.connectionChanges + 1 }.offer
          ⟨y.number, .offer ⟨i, s.serial i + 1⟩ x.number e.cls e.width e.contiguous slots s.answerPeriod⟩)

/-! ### Highway Control -/

/-- OPEN from CLOSED or DRAINING changes the state and broadcasts it (R157); CLOSE empties the tables and the Downlink Queue,
leaves RESET_ALL and HIGHWAY_STATE(CLOSED) held, and keeps everything else but the counters and flags (R163, R164). -/
def Obligations.OpenAndCloseSetTheHighway : Prop :=
  (∀ s : State, s.Latched 0x01 →
    (s.highway = .opened → exec .openHighway s = .next (s.finished .ok [])) ∧
    (s.highway ≠ .opened → exec .openHighway s = .next
      (({ s with highway := .opened }.broadcast (.highwayState .opened)).finished .ok []))) ∧
  ∀ s : State, s.Latched 0x03 →
    let stations := ((List.finRange 48).filter fun h => (s.station h).isSome).length
    let connections := ((List.finRange 32).filter fun i => (s.connection i).isSome).length
    exec .close s = .next
      { s with
        highway := .closed
        stations := Vector.replicate 48 none
        assemblies := Vector.replicate 48 none
        connections := Vector.replicate 32 none
        slots := Vector.replicate 62 .free
        waitQueue := []
        downlink := ⟨[⟨0xFFFFFFFF, .resetAll⟩, ⟨0xFFFFFFFF, .highwayState .closed⟩], none, s.downlink.hdo⟩
        directoryChanges := s.directoryChanges + BitVec.ofNat 16 stations
        connectionChanges := s.connectionChanges + BitVec.ofNat 16 connections
        flags := s.flags ||| (if stations = 0 then 0 else 0x2) ||| (if connections = 0 then 0 else 0x4)
        port := { s.port with mailbox := .done .ok (Vector.replicate 32 0) } }

/-- DRAIN: WRONG_STATE in CLOSED, nothing in DRAINING; in OPEN the state is broadcast, every connection that is not ACTIVE is
withdrawn and every queue entry refused, each block's messages in its own order (R47, R61, R158, R159); DRAINED is raised where
no connection remains (R161). The model's choices: an operand of the row says which of the two blocks comes first (log entry
13), and a party at a free handle is told nothing (log entry 15). -/
def Obligations.DrainTurnsAwayWhatWaits : Prop :=
  ∀ (s : State) (waitQueueFirst : Bool), s.Latched 0x02 →
    let c : Instr := .drain waitQueueFirst
    let leaves (i : Index) : Bool := (s.connection i).any fun k => k.state ≠ .active
    let notices : List DownMessage := ((List.finRange 32).filter leaves).flatMap fun i =>
      match s.connection i with
      | none => []
      | some k =>
        (s.station k.originator).toList.map (fun x => ⟨x.number, .refuse .drained (some k.tag) none⟩) ++
          if k.state = .offered then
            (s.station k.answerer).toList.map fun y => ⟨y.number, .released ⟨i, s.serial i⟩ .drained⟩
          else []
    let refusals : List DownMessage := s.waitQueue.flatMap fun e =>
      (s.station e.source).toList.map fun x => ⟨x.number, .refuse .highwayDraining (some e.tag) none⟩
    let told := { s with highway := .draining }.broadcast (.highwayState .draining)
    (s.highway = .closed → exec c s = .next (s.finished .wrongState [])) ∧
    (s.highway = .draining → exec c s = .next (s.finished .ok [])) ∧
    (s.highway = .opened → exec c s = .next
      (((if waitQueueFirst then refusals ++ notices else notices ++ refusals).foldl (fun (t : State) m => t.offer m)
        { told with
          slots := s.slots.map fun x : SlotRecord =>
            match x with
            | .reserved i => if leaves i then .free else x
            | .guard (some i) p => if leaves i then .guard none p else x
            | .guard none _ => x
            | .held _ => x
            | .free => x
          connections := s.connections.map fun k : Option Connection => k.filter fun k => k.state = .active
          waitQueue := []
          connectionChanges := s.connectionChanges + BitVec.ofNat 16 ((List.finRange 32).filter leaves).length
          flags := told.flags |||
            (if ∀ i, ∀ k ∈ s.connection i, k.state ≠ .active then 0x80 else 0) }).finished .ok []))

/-! ### Commands that read -/

/-- The six commands that read: their arguments are checked, the readout is the form of the record named, and no record
changes (R118, R130, R178, R179, R180, R181). -/
def Obligations.ReadsAnswerWithTheirForms : Prop :=
  ∀ s : State,
    let a (k : Fin 20) : Nat := (s.port.latched[k]).toNat
    let n : StationNumber := s.port.latched[1] ++ s.port.latched[2] ++ s.port.latched[3] ++ s.port.latched[4]
    let answers (c : Instr) (result : Result) (readout : List Byte) : Prop :=
      exec c s = .next (s.finished result readout)
    (s.Latched 0x10 →
      (a 0 = 0 →
        (∀ h r, h.val = a 1 → s.station h = some r → answers .readStation .ok (s.stationForm h r)) ∧
        (∀ h, h.val = a 1 → s.station h = none → answers .readStation .notFound []) ∧
        (47 < a 1 → answers .readStation .notFound [])) ∧
      (a 0 = 1 →
        (∀ h r, s.lookup n = some (h, r) → answers .readStation .ok (s.stationForm h r)) ∧
        (s.lookup n = none → answers .readStation .notFound [])) ∧
      (1 < a 0 → answers .readStation .badArgument [])) ∧
    (s.Latched 0x11 →
      (31 < a 0 → answers .readConnection .badArgument []) ∧
      ∀ i, i.val = a 0 →
        (s.connection i = none → answers .readConnection .notFound []) ∧
        ∀ k, s.connection i = some k → answers .readConnection .ok (s.connectionForm i k)) ∧
    (s.Latched 0x12 →
      (3 < a 0 → answers .readSlots .badArgument []) ∧ (a 0 ≤ 3 → answers .readSlots .ok (s.slotForm (a 0)))) ∧
    (s.Latched 0x13 →
      (a 0 < 1 ∨ 16 < a 0 → answers .readQueue .badArgument []) ∧
      (1 ≤ a 0 → a 0 ≤ 16 →
        (s.waitQueue.length < a 0 → answers .readQueue .notFound []) ∧
        ∀ e, s.waitQueue[a 0 - 1]? = some e → answers .readQueue .ok (s.queueForm (a 0) e))) ∧
    (s.Latched 0x14 →
      (a 0 < 1 ∨ 24 < a 0 → answers .readDeny .badArgument []) ∧
      (1 ≤ a 0 → a 0 ≤ 24 →
        (s.denyList.length < a 0 → answers .readDeny .notFound []) ∧
        ∀ e, s.denyList[a 0 - 1]? = some e → answers .readDeny .ok (denyForm (a 0) s.denyList.length e))) ∧
    (s.Latched 0x15 →
      (3 < a 0 → answers .readPolicy .badArgument []) ∧
      ∀ k : ClassNo, k.val = a 0 → answers .readPolicy .ok (s.policyForm k))

/-- The bytes of the readout forms (R195). -/
def Obligations.FormsHoldTheirFields : Prop :=
  (∀ (s : State) (h : Handle) (r : Station),
    let w := readoutOf (s.stationForm h r)
    let top : Prop := r.kind = .relay ∧ r.via = none
    let roster := if top then r.roster.getD [] else []
    let originated := ((List.finRange 32).filterMap s.connection).filter fun k => k.originator = h
    let parties := ((List.finRange 32).filterMap s.connection).filter fun k => k.originator = h ∨ k.answerer = h
    w[0] = BitVec.ofNat 8 h.val ∧ w[1] ++ w[2] ++ w[3] ++ w[4] = r.number ∧
    w[5] = BitVec.ofNat 8
      ((if r.kind = .relay then 1 else 0) + (if r.syncOwed then 2 else 0) +
        if top ∧ r.generation.isSome = true then 4 else 0) ∧
    w[6] = BitVec.ofNat 8 r.drop.val ∧ w[7] = BitVec.ofNat 8 r.tier ∧
    w[8] = (match r.via with
      | none => 0xFF
      | some v => BitVec.ofNat 8 v.val) ∧
    w[9] = BitVec.ofNat 8 r.cls.val ∧
    w[10] = (match r.state with
      | .admitted => 0
      | .rosterPending => 1
      | .rosterFault => 2) ∧
    w[11] = BitVec.ofNat 8 r.quota ∧ w[12] = BitVec.ofNat 8 (originated.map fun k => k.width).sum ∧
    w[13] = BitVec.ofNat 8 parties.length ∧ w[14] = (if top then r.generation.getD 0 else 0) ∧
    w[15] = (if top then BitVec.ofNat 8 ((r.deadline.map fun d => d.remaining).getD 0) else 0) ∧
    w[16] = BitVec.ofNat 8 roster.length ∧
    ∀ k : Fin 15, w[17 + k.val]'(by omega) =
      match roster[k.val]? with
      | some v => BitVec.ofNat 8 v.val
      | none => 0xFF) ∧
  (∀ (s : State) (i : Index) (k : Connection),
    let w := readoutOf (s.connectionForm i k)
    w[0] = BitVec.ofNat 8 (32 * (s.serial i).toNat + i.val) ∧
    w[1] = (match k.state with
      | .pending => 0
      | .offered => 1
      | .active => 2) ∧
    w[2] = BitVec.ofNat 8 ((if k.pinned then 1 else 0) + if k.contiguous then 2 else 0) ∧
    w[3] = BitVec.ofNat 8 k.originator.val ∧ w[8] = BitVec.ofNat 8 k.answerer.val ∧
    (∀ x, s.station k.originator = some x → w[4] ++ w[5] ++ w[6] ++ w[7] = x.number) ∧
    (∀ x, s.station k.answerer = some x → w[9] ++ w[10] ++ w[11] ++ w[12] = x.number) ∧
    w[13] = BitVec.ofNat 8 k.cls.val ∧ w[14] = BitVec.ofNat 8 k.width ∧ w[15] = BitVec.ofNat 8 k.tag.val ∧
    w[16] = BitVec.ofNat 8 ((k.countdown.map fun d => d.remaining).getD 0) ∧
    ∀ j : Fin 15, w[17 + j.val]'(by omega) = BitVec.ofNat 8 (k.slotList[j.val]?.getD 0)) ∧
  (∀ (s : State) (group : Nat) (k : Fin 16), group ≤ 3 →
    let w := readoutOf (s.slotForm group)
    let reference (i : Index) : Byte := BitVec.ofNat 8 (32 * (s.serial i).toNat + i.val)
    (w[2 * k.val]'(by omega), w[2 * k.val + 1]'(by omega)) =
      match s.slot (2 + 16 * group + k.val) with
      | none => (0x00, 0x00)
      | some .free => (0x00, 0x00)
      | some (.guard none _) => (0x01, 0x00)
      | some (.guard (some i) _) => (0x81, reference i)
      | some (.reserved i) => (0x82, reference i)
      | some (.held i) => (0x83, reference i)) ∧
  (∀ (s : State) (position : Nat) (e : Entry) (x : Station), s.station e.source = some x →
    let w := readoutOf (s.queueForm position e)
    w[0] = BitVec.ofNat 8 position ∧ w[1] = BitVec.ofNat 8 s.waitQueue.length ∧
    w[2] = BitVec.ofNat 8 e.source.val ∧ w[3] ++ w[4] ++ w[5] ++ w[6] = x.number ∧
    w[7] = BitVec.ofNat 8 e.peer.val ∧ w[8] ++ w[9] ++ w[10] ++ w[11] = e.peerNumber ∧
    w[12] = BitVec.ofNat 8 e.cls.val ∧ w[13] = BitVec.ofNat 8 e.width ∧
    w[14] = (if e.contiguous then 1 else 0) ∧ w[15] = BitVec.ofNat 8 e.tag.val ∧
    w[16] = BitVec.ofNat 8 e.countdown.remaining ∧ ∀ j, (low : 17 ≤ j) → (high : j < 32) → w[j] = 0) ∧
  (∀ (position entries : Nat) (e : DenyEntry),
    let w := readoutOf (denyForm position entries e)
    w[0] = BitVec.ofNat 8 position ∧ w[1] = BitVec.ofNat 8 entries ∧ w[2] ++ w[3] ++ w[4] ++ w[5] = e.number ∧
    w[6] = e.code ∧ w[7] = BitVec.ofNat 8 e.hits ∧ ∀ j, (low : 8 ≤ j) → (high : j < 32) → w[j] = 0) ∧
  ∀ (s : State) (k : ClassNo),
    let w := readoutOf (s.policyForm k)
    let v := readoutOf s.timingForm
    let p := s.classPolicy k
    w[0] = BitVec.ofNat 8 k.val ∧ w[1] = BitVec.ofNat 8 p.leasePeriod ∧ w[2] = BitVec.ofNat 8 p.maxWidth ∧
    w[3] = BitVec.ofNat 8 p.defaultQuota ∧ w[4] = BitVec.ofNat 8 p.queuePeriod ∧
    w[5] = (if p.mayPreempt then 1 else 0) ∧ w[6] = BitVec.ofNat 8 s.answerPeriod ∧
    w[7] = BitVec.ofNat 8 s.rosterPeriod ∧ (∀ j, (low : 8 ≤ j) → (high : j < 32) → w[j] = 0) ∧
    v[0] = BitVec.ofNat 8 s.answerPeriod ∧ v[1] = BitVec.ofNat 8 s.rosterPeriod ∧
    ∀ j, (low : 2 ≤ j) → (high : j < 32) → v[j] = 0

/-! ### Commands that administer -/

/-- DENY_ADD: its three checks in order; the entry stands at its place in ascending order with no hits, and a station that
holds the number is evicted (R115, R116). DENY_REMOVE: the entry is removed and no station is touched (R117). -/
def Obligations.DenyCommandsKeepTheList : Prop :=
  ∀ s : State,
    let n : StationNumber := s.port.latched[0] ++ s.port.latched[1] ++ s.port.latched[2] ++ s.port.latched[3]
    let answers (c : Instr) (t : State) (result : Result) (readout : List Byte) : Prop :=
      exec c s = .next (t.finished result readout)
    (s.Latched 0x20 →
      (validNumber n = false → answers .denyAdd s .badArgument []) ∧
      (validNumber n = true →
        ((∃ e ∈ s.denyList, e.number = n) → answers .denyAdd s .alreadyListed []) ∧
        ((∀ e ∈ s.denyList, e.number ≠ n) →
          (24 ≤ s.denyList.length → answers .denyAdd s .listFull []) ∧
          ∀ front back, s.denyList.length < 24 → s.denyList = front ++ back → (∀ e ∈ front, e.number < n) →
            (∀ e ∈ back, n < e.number) →
            let entry : DenyEntry := ⟨n, s.port.latched[4], 0⟩
            let barred : State := { s with denyList := front ++ entry :: back }
            let readout := denyForm (front.length + 1) (s.denyList.length + 1) entry
            (s.lookup n = none → answers .denyAdd barred .ok readout) ∧
            ∀ h r, s.lookup n = some (h, r) → answers .denyAdd (barred.evictStation h r .denied) .ok readout))) ∧
    (s.Latched 0x21 →
      ((∀ e ∈ s.denyList, e.number ≠ n) → answers .denyRemove s .notFound []) ∧
      ∀ front e back, s.denyList = front ++ e :: back → e.number = n → (∀ x ∈ front, x.number ≠ n) →
        answers .denyRemove { s with denyList := front ++ back } .ok
          (denyForm (front.length + 1) s.denyList.length e))

/-- An eviction takes the named station, with the records whose VIA names it if it is a top relay, through the cascade with
reason EVICTED, shortens the roster of a relay that stays, and offers EVICTED before the service passes, which may be dropped
(R82, R83, R84, R85). EVICT and SET_QUOTA (R86, R88). -/
def Obligations.EvictionsAndQuotas : Prop :=
  (∀ (s : State) (h : Handle) (r : Station) (reason : Reason), s.station h = some r →
    let t := s.evictStation h r reason
    let set := if r.kind = StationKind.relay ∧ r.via = none then h :: s.downstream h else [h]
    let shortened (u : State) : State :=
      match r.via with
      | none => u
      | some v =>
        { u with
          stations := u.stations.set v ((u.station v).map fun x =>
            { x with roster := x.roster.map fun l => l.filter fun k => k ≠ h })
          directoryChanges := u.directoryChanges + 1 }
    t = s.cascade set set .evicted (fun u => (shortened u).offer ⟨r.number, .evicted reason⟩) ∧
      s.Left t set r.via ∧
      (⟨r.number, .evicted reason⟩ ∈ t.downlink.held ∨ t.pendingFlag .sync = true)) ∧
  ∀ s : State,
    let n : StationNumber := s.port.latched[0] ++ s.port.latched[1] ++ s.port.latched[2] ++ s.port.latched[3]
    let quota := (s.port.latched[4]).toNat
    let answers (c : Instr) (t : State) (result : Result) : Prop := exec c s = .next (t.finished result [])
    (s.Latched 0x22 →
      (s.lookup n = none → answers .evict s .notFound) ∧
      ∀ h r, s.lookup n = some (h, r) → answers .evict (s.evictStation h r .host) .ok) ∧
    (s.Latched 0x23 →
      (quota < 1 ∨ 16 < quota → answers .setQuota s .badArgument) ∧
      (1 ≤ quota → quota ≤ 16 →
        (s.lookup n = none → answers .setQuota s .notFound) ∧
        ∀ h r, s.lookup n = some (h, r) → answers .setQuota
          { s with
            stations := s.stations.set h (some { r with quota := quota })
            directoryChanges := s.directoryChanges + if r.quota = quota then 0 else 1 }.servicePass .ok))

/-- PIN: its seven checks in order, then an ACTIVE pinned connection without a countdown on the slots named, ascending, with
LEASE raised and GRANT to both parties (R9, R39, R183). -/
def Obligations.PinMakesAPinnedConnection : Prop :=
  ∀ s : State, s.Latched 0x24 →
    let a (k : Fin 20) : Byte := s.port.latched[k]
    let count := (a 9).toNat
    let slots := ((s.port.latched.toList.drop 10).take count).map fun b => b.toNat
    let list := (List.range' 2 62).filter fun n => n ∈ slots
    let originator : StationNumber := a 0 ++ a 1 ++ a 2 ++ a 3
    let answerer : StationNumber := a 4 ++ a 5 ++ a 6 ++ a 7
    let bad : Prop := 3 < (a 8).toNat ∨ count < 1 ∨ 8 < count ∨ (∃ n ∈ slots, n < 2 ∨ 63 < n) ∨ ¬ slots.Nodup ∨
      originator = answerer
    let answers (result : Result) : Prop := exec .pin s = .next (s.finished result [])
    (bad → answers .badArgument) ∧
    (¬ bad →
      (s.highway ≠ .opened → answers .wrongState) ∧
      (s.highway = .opened →
        (s.lookup originator = none ∨ s.lookup answerer = none → answers .notFound) ∧
        ∀ h x k y, s.lookup originator = some (h, x) → s.lookup answerer = some (k, y) →
          (x.state ≠ .admitted ∨ y.state ≠ .admitted → answers .notAdmitted) ∧
          (x.state = .admitted → y.state = .admitted →
            (8 ≤ s.partyCount h ∨ 8 ≤ s.partyCount k → answers .partyLimit) ∧
            (s.partyCount h < 8 → s.partyCount k < 8 →
              ((∀ i, s.connection i ≠ none) → answers .tableFull) ∧
              ∀ i, s.connection i = none → (∀ j, j < i → s.connection j ≠ none) →
                ((∃ n ∈ slots, s.slot n ≠ some .free) → answers .slotBusy) ∧
                ∀ cls : ClassNo, cls.val = (a 8).toNat → (∀ n ∈ slots, s.slot n = some .free) →
                  let reference : Reference := ⟨i, s.serial i + 1⟩
                  let record : Connection :=
                    ⟨.active, true, h, k, cls, count, decide (list = List.range' (list.headD 0) count), 0, list, none⟩
                  let made : State :=
                    ({ s with
                        slots := s.slots.mapIdx fun j r => if j + 2 ∈ slots ∨ r = SlotRecord.reserved i then .held i else r
                        serials := s.serials.set i (s.serial i + 1)
                        connections := s.connections.set i (some record)
                        connectionChanges := s.connectionChanges + 1
                        flags := s.flags ||| 0x4 }.offer
                      ⟨x.number, .grant reference .originator y.number cls 0 count list 0⟩).offer
                        ⟨y.number, .grant reference .answerer x.number cls 0 count list 0⟩
                  exec .pin s = .next (made.finished .ok (made.connectionForm i record))))))

/-- UNPIN turns a pinned connection into an ordinary lease and offers RENEWED (R40); FORCE_RELEASE removes a connection in any
state with its notices and one service pass, and reads it out as it stood (R25, R41, R183). -/
def Obligations.UnpinAndForceRelease : Prop :=
  ∀ (s : State) (i : Index),
    let named := (s.port.latched[0]).toNat
    let reference : Reference := ⟨i, s.serial i⟩
    let answers (c : Instr) (t : State) (result : Result) (readout : List Byte) : Prop :=
      exec c s = .next (t.finished result readout)
    i.val = named % 32 →
    (s.connection i = none ∨ (s.serial i).toNat ≠ named / 32 →
      (s.Latched 0x25 → answers .unpin s .notFound []) ∧
      (s.Latched 0x26 → answers .forceRelease s .notFound [])) ∧
    ∀ k x y, s.connection i = some k → (s.serial i).toNat = named / 32 → s.station k.originator = some x →
      s.station k.answerer = some y →
      (s.Latched 0x25 →
        (k.pinned = false → answers .unpin s .wrongState []) ∧
        (k.pinned = true →
          let period := (s.classPolicy k.cls).leasePeriod
          let record := { k with pinned := false, countdown := some ⟨period, s.timer.parity⟩ }
          let loosened := { s with
            connections := s.connections.set i (some record)
            connectionChanges := s.connectionChanges + 1 }.offer ⟨x.number, .renewed reference period⟩
          answers .unpin loosened .ok (loosened.connectionForm i record))) ∧
      (s.Latched 0x26 →
        let dropped := s.dropConnection i k
        let forced (t : State) : Prop := answers .forceRelease t.servicePass .ok (s.connectionForm i k)
        let refused := dropped.offer ⟨x.number, .refuse .forced (some k.tag) none⟩
        (k.state = .pending → forced refused) ∧
        (k.state = .offered → forced (refused.offer ⟨y.number, .released reference .forced⟩)) ∧
        (k.state = .active →
          forced ((dropped.offer ⟨x.number, .released reference .forced⟩).offer
            ⟨y.number, .released reference .forced⟩)))

/-- SET_POLICY replaces the whole record of a class and starts one service pass; SET_TIMING replaces both settings; a value
out of range changes nothing (R128, R129). -/
def Obligations.PolicyAndTimingAreReplaced : Prop :=
  ∀ s : State,
    let a (k : Fin 20) : Nat := (s.port.latched[k]).toNat
    let answers (c : Instr) (t : State) (result : Result) (readout : List Byte) : Prop :=
      exec c s = .next (t.finished result readout)
    (s.Latched 0x27 →
      let bad : Prop := 3 < a 0 ∨ a 1 < 1 ∨ a 2 < 1 ∨ 8 < a 2 ∨ a 3 < 1 ∨ 16 < a 3 ∨ 1 < a 5
      (bad → answers .setPolicy s .badArgument []) ∧
      ∀ k : ClassNo, ¬ bad → k.val = a 0 →
        let changed : State := { s with policy := s.policy.set k ⟨a 1, a 2, a 3, a 4, decide (a 5 = 1)⟩ }
        answers .setPolicy changed.servicePass .ok (changed.policyForm k)) ∧
    (s.Latched 0x28 →
      let bad : Prop := a 0 < 1 ∨ 15 < a 0 ∨ a 1 < 1
      (bad → answers .setTiming s .badArgument []) ∧
      (¬ bad →
        let changed : State := { s with answerPeriod := a 0, rosterPeriod := a 1 }
        answers .setTiming changed .ok changed.timingForm))

/-! ### Laws that every step keeps -/

/-- The tables stay within their bounds and orders (R50, R51, R113, R121, R122, R145), and so do widths, quotas and tiers. -/
def Obligations.TablesStayInBounds : Prop :=
  KeptByStep State.DenyLaw ∧ KeptByStep State.QueueLaw ∧ KeptByStep State.DownlinkLaw ∧ KeptByStep State.RangeLaw

/-- What stands empty in CLOSED, what stands in DRAINING (R160, R163), and what full reset holds (R166, R189) stays so. -/
def Obligations.HighwayStatesHold : Prop :=
  KeptByStep State.ClosedLaw ∧ KeptByStep State.DrainingLaw ∧ KeptByStep State.HeldLaw

/-- The two laws of the directory (R70) hold after every step. -/
def Obligations.DirectoryLawsHold : Prop := KeptByStep State.DirectoryLaw

/-- Slot records and connection records agree after every step (R5, R20). -/
def Obligations.SlotsAgreeWithConnections : Prop := KeptByStep State.SlotLaw

/-- The parties of connections and queue entries are ADMITTED records after every step, and none is party to more than 8
connections (R20, R50). -/
def Obligations.PartiesAreAdmitted : Prop := KeptByStep State.PartyLaw

/-- The part at the release of full reset meets every law. -/
def Obligations.ResetMeetsTheLaws : Prop :=
  State.reset.DenyLaw ∧ State.reset.QueueLaw ∧ State.reset.DownlinkLaw ∧ State.reset.RangeLaw ∧
    State.reset.ClosedLaw ∧ State.reset.DrainingLaw ∧ State.reset.HeldLaw ∧ State.reset.DirectoryLaw ∧
    State.reset.SlotLaw ∧ State.reset.PartyLaw
end

