-- ==== Sys2Proof/Laws/State.lean ====
section
/-! SUPPORT. One lemma for each field after each plain update of State, so that no later proof unfolds a record update. -/

namespace Sys2Proof.Machine

variable (s : State)

/-! ### raise -/

@[simp] theorem State.raise_pending (f : Flag) : (s.raise f).pending = s.pending := rfl
@[simp] theorem State.raise_hold (f : Flag) : (s.raise f).hold = s.hold := rfl
@[simp] theorem State.raise_timer (f : Flag) : (s.raise f).timer = s.timer := rfl
@[simp] theorem State.raise_owed (f : Flag) : (s.raise f).owed = s.owed := rfl
@[simp] theorem State.raise_due (f : Flag) : (s.raise f).due = s.due := rfl
@[simp] theorem State.raise_slots (f : Flag) : (s.raise f).slots = s.slots := rfl
@[simp] theorem State.raise_connections (f : Flag) : (s.raise f).connections = s.connections := rfl
@[simp] theorem State.raise_serials (f : Flag) : (s.raise f).serials = s.serials := rfl
@[simp] theorem State.raise_waitQueue (f : Flag) : (s.raise f).waitQueue = s.waitQueue := rfl
@[simp] theorem State.raise_stations (f : Flag) : (s.raise f).stations = s.stations := rfl
@[simp] theorem State.raise_assemblies (f : Flag) : (s.raise f).assemblies = s.assemblies := rfl
@[simp] theorem State.raise_denyList (f : Flag) : (s.raise f).denyList = s.denyList := rfl
@[simp] theorem State.raise_policy (f : Flag) : (s.raise f).policy = s.policy := rfl
@[simp] theorem State.raise_answerPeriod (f : Flag) : (s.raise f).answerPeriod = s.answerPeriod := rfl
@[simp] theorem State.raise_rosterPeriod (f : Flag) : (s.raise f).rosterPeriod = s.rosterPeriod := rfl
@[simp] theorem State.raise_arbiter (f : Flag) : (s.raise f).arbiter = s.arbiter := rfl
@[simp] theorem State.raise_handedOn (f : Flag) : (s.raise f).handedOn = s.handedOn := rfl
@[simp] theorem State.raise_downlink (f : Flag) : (s.raise f).downlink = s.downlink := rfl
@[simp] theorem State.raise_highway (f : Flag) : (s.raise f).highway = s.highway := rfl
@[simp] theorem State.raise_port (f : Flag) : (s.raise f).port = s.port := rfl
@[simp] theorem State.raise_flags (f : Flag) : (s.raise f).flags = s.flags ||| f.mask := rfl
@[simp] theorem State.raise_directoryChanges (f : Flag) : (s.raise f).directoryChanges = s.directoryChanges := rfl
@[simp] theorem State.raise_connectionChanges (f : Flag) : (s.raise f).connectionChanges = s.connectionChanges := rfl
@[simp] theorem State.raise_spi (f : Flag) : (s.raise f).spi = s.spi := rfl
@[simp] theorem State.raise_pins (f : Flag) : (s.raise f).pins = s.pins := rfl

/-! ### clearFlags -/

@[simp] theorem State.clearFlags_pending (high : Bool) (value : Byte) :
    (s.clearFlags high value).pending = s.pending := rfl
@[simp] theorem State.clearFlags_hold (high : Bool) (value : Byte) : (s.clearFlags high value).hold = s.hold := rfl
@[simp] theorem State.clearFlags_timer (high : Bool) (value : Byte) : (s.clearFlags high value).timer = s.timer := rfl
@[simp] theorem State.clearFlags_owed (high : Bool) (value : Byte) : (s.clearFlags high value).owed = s.owed := rfl
@[simp] theorem State.clearFlags_due (high : Bool) (value : Byte) : (s.clearFlags high value).due = s.due := rfl
@[simp] theorem State.clearFlags_slots (high : Bool) (value : Byte) : (s.clearFlags high value).slots = s.slots := rfl
@[simp] theorem State.clearFlags_connections (high : Bool) (value : Byte) :
    (s.clearFlags high value).connections = s.connections := rfl
@[simp] theorem State.clearFlags_serials (high : Bool) (value : Byte) :
    (s.clearFlags high value).serials = s.serials := rfl
@[simp] theorem State.clearFlags_waitQueue (high : Bool) (value : Byte) :
    (s.clearFlags high value).waitQueue = s.waitQueue := rfl
@[simp] theorem State.clearFlags_stations (high : Bool) (value : Byte) :
    (s.clearFlags high value).stations = s.stations := rfl
@[simp] theorem State.clearFlags_assemblies (high : Bool) (value : Byte) :
    (s.clearFlags high value).assemblies = s.assemblies := rfl
@[simp] theorem State.clearFlags_denyList (high : Bool) (value : Byte) :
    (s.clearFlags high value).denyList = s.denyList := rfl
@[simp] theorem State.clearFlags_policy (high : Bool) (value : Byte) :
    (s.clearFlags high value).policy = s.policy := rfl
@[simp] theorem State.clearFlags_answerPeriod (high : Bool) (value : Byte) :
    (s.clearFlags high value).answerPeriod = s.answerPeriod := rfl
@[simp] theorem State.clearFlags_rosterPeriod (high : Bool) (value : Byte) :
    (s.clearFlags high value).rosterPeriod = s.rosterPeriod := rfl
@[simp] theorem State.clearFlags_arbiter (high : Bool) (value : Byte) :
    (s.clearFlags high value).arbiter = s.arbiter := rfl
@[simp] theorem State.clearFlags_handedOn (high : Bool) (value : Byte) :
    (s.clearFlags high value).handedOn = s.handedOn := rfl
@[simp] theorem State.clearFlags_downlink (high : Bool) (value : Byte) :
    (s.clearFlags high value).downlink = s.downlink := rfl
@[simp] theorem State.clearFlags_highway (high : Bool) (value : Byte) :
    (s.clearFlags high value).highway = s.highway := rfl
@[simp] theorem State.clearFlags_port (high : Bool) (value : Byte) : (s.clearFlags high value).port = s.port := rfl
@[simp] theorem State.clearFlags_flags (high : Bool) (value : Byte) :
    (s.clearFlags high value).flags = s.flags &&& ~~~flagByte high value := rfl
@[simp] theorem State.clearFlags_directoryChanges (high : Bool) (value : Byte) :
    (s.clearFlags high value).directoryChanges = s.directoryChanges := rfl
@[simp] theorem State.clearFlags_connectionChanges (high : Bool) (value : Byte) :
    (s.clearFlags high value).connectionChanges = s.connectionChanges := rfl
@[simp] theorem State.clearFlags_spi (high : Bool) (value : Byte) : (s.clearFlags high value).spi = s.spi := rfl
@[simp] theorem State.clearFlags_pins (high : Bool) (value : Byte) : (s.clearFlags high value).pins = s.pins := rfl

/-! ### setStation -/

@[simp] theorem State.setStation_pending (h : Handle) (r : Option Station) :
    (s.setStation h r).pending = s.pending := rfl
@[simp] theorem State.setStation_hold (h : Handle) (r : Option Station) : (s.setStation h r).hold = s.hold := rfl
@[simp] theorem State.setStation_timer (h : Handle) (r : Option Station) : (s.setStation h r).timer = s.timer := rfl
@[simp] theorem State.setStation_owed (h : Handle) (r : Option Station) : (s.setStation h r).owed = s.owed := rfl
@[simp] theorem State.setStation_due (h : Handle) (r : Option Station) : (s.setStation h r).due = s.due := rfl
@[simp] theorem State.setStation_slots (h : Handle) (r : Option Station) : (s.setStation h r).slots = s.slots := rfl
@[simp] theorem State.setStation_connections (h : Handle) (r : Option Station) :
    (s.setStation h r).connections = s.connections := rfl
@[simp] theorem State.setStation_serials (h : Handle) (r : Option Station) :
    (s.setStation h r).serials = s.serials := rfl
@[simp] theorem State.setStation_waitQueue (h : Handle) (r : Option Station) :
    (s.setStation h r).waitQueue = s.waitQueue := rfl
@[simp] theorem State.setStation_stations (h : Handle) (r : Option Station) :
    (s.setStation h r).stations = s.stations.set h r := rfl
@[simp] theorem State.setStation_assemblies (h : Handle) (r : Option Station) :
    (s.setStation h r).assemblies = s.assemblies := rfl
@[simp] theorem State.setStation_denyList (h : Handle) (r : Option Station) :
    (s.setStation h r).denyList = s.denyList := rfl
@[simp] theorem State.setStation_policy (h : Handle) (r : Option Station) :
    (s.setStation h r).policy = s.policy := rfl
@[simp] theorem State.setStation_answerPeriod (h : Handle) (r : Option Station) :
    (s.setStation h r).answerPeriod = s.answerPeriod := rfl
@[simp] theorem State.setStation_rosterPeriod (h : Handle) (r : Option Station) :
    (s.setStation h r).rosterPeriod = s.rosterPeriod := rfl
@[simp] theorem State.setStation_arbiter (h : Handle) (r : Option Station) :
    (s.setStation h r).arbiter = s.arbiter := rfl
@[simp] theorem State.setStation_handedOn (h : Handle) (r : Option Station) :
    (s.setStation h r).handedOn = s.handedOn := rfl
@[simp] theorem State.setStation_downlink (h : Handle) (r : Option Station) :
    (s.setStation h r).downlink = s.downlink := rfl
@[simp] theorem State.setStation_highway (h : Handle) (r : Option Station) :
    (s.setStation h r).highway = s.highway := rfl
@[simp] theorem State.setStation_port (h : Handle) (r : Option Station) : (s.setStation h r).port = s.port := rfl
@[simp] theorem State.setStation_flags (h : Handle) (r : Option Station) : (s.setStation h r).flags = s.flags := rfl
@[simp] theorem State.setStation_directoryChanges (h : Handle) (r : Option Station) :
    (s.setStation h r).directoryChanges = s.directoryChanges := rfl
@[simp] theorem State.setStation_connectionChanges (h : Handle) (r : Option Station) :
    (s.setStation h r).connectionChanges = s.connectionChanges := rfl
@[simp] theorem State.setStation_spi (h : Handle) (r : Option Station) : (s.setStation h r).spi = s.spi := rfl
@[simp] theorem State.setStation_pins (h : Handle) (r : Option Station) : (s.setStation h r).pins = s.pins := rfl

/-! ### modifyStation -/

@[simp] theorem State.modifyStation_pending (h : Handle) (f : Station → Station) :
    (s.modifyStation h f).pending = s.pending := rfl
@[simp] theorem State.modifyStation_hold (h : Handle) (f : Station → Station) :
    (s.modifyStation h f).hold = s.hold := rfl
@[simp] theorem State.modifyStation_timer (h : Handle) (f : Station → Station) :
    (s.modifyStation h f).timer = s.timer := rfl
@[simp] theorem State.modifyStation_owed (h : Handle) (f : Station → Station) :
    (s.modifyStation h f).owed = s.owed := rfl
@[simp] theorem State.modifyStation_due (h : Handle) (f : Station → Station) :
    (s.modifyStation h f).due = s.due := rfl
@[simp] theorem State.modifyStation_slots (h : Handle) (f : Station → Station) :
    (s.modifyStation h f).slots = s.slots := rfl
@[simp] theorem State.modifyStation_connections (h : Handle) (f : Station → Station) :
    (s.modifyStation h f).connections = s.connections := rfl
@[simp] theorem State.modifyStation_serials (h : Handle) (f : Station → Station) :
    (s.modifyStation h f).serials = s.serials := rfl
@[simp] theorem State.modifyStation_waitQueue (h : Handle) (f : Station → Station) :
    (s.modifyStation h f).waitQueue = s.waitQueue := rfl
@[simp] theorem State.modifyStation_stations (h : Handle) (f : Station → Station) :
    (s.modifyStation h f).stations = s.stations.set h ((s.station h).map f) := rfl
@[simp] theorem State.modifyStation_assemblies (h : Handle) (f : Station → Station) :
    (s.modifyStation h f).assemblies = s.assemblies := rfl
@[simp] theorem State.modifyStation_denyList (h : Handle) (f : Station → Station) :
    (s.modifyStation h f).denyList = s.denyList := rfl
@[simp] theorem State.modifyStation_policy (h : Handle) (f : Station → Station) :
    (s.modifyStation h f).policy = s.policy := rfl
@[simp] theorem State.modifyStation_answerPeriod (h : Handle) (f : Station → Station) :
    (s.modifyStation h f).answerPeriod = s.answerPeriod := rfl
@[simp] theorem State.modifyStation_rosterPeriod (h : Handle) (f : Station → Station) :
    (s.modifyStation h f).rosterPeriod = s.rosterPeriod := rfl
@[simp] theorem State.modifyStation_arbiter (h : Handle) (f : Station → Station) :
    (s.modifyStation h f).arbiter = s.arbiter := rfl
@[simp] theorem State.modifyStation_handedOn (h : Handle) (f : Station → Station) :
    (s.modifyStation h f).handedOn = s.handedOn := rfl
@[simp] theorem State.modifyStation_downlink (h : Handle) (f : Station → Station) :
    (s.modifyStation h f).downlink = s.downlink := rfl
@[simp] theorem State.modifyStation_highway (h : Handle) (f : Station → Station) :
    (s.modifyStation h f).highway = s.highway := rfl
@[simp] theorem State.modifyStation_port (h : Handle) (f : Station → Station) :
    (s.modifyStation h f).port = s.port := rfl
@[simp] theorem State.modifyStation_flags (h : Handle) (f : Station → Station) :
    (s.modifyStation h f).flags = s.flags := rfl
@[simp] theorem State.modifyStation_directoryChanges (h : Handle) (f : Station → Station) :
    (s.modifyStation h f).directoryChanges = s.directoryChanges := rfl
@[simp] theorem State.modifyStation_connectionChanges (h : Handle) (f : Station → Station) :
    (s.modifyStation h f).connectionChanges = s.connectionChanges := rfl
@[simp] theorem State.modifyStation_spi (h : Handle) (f : Station → Station) :
    (s.modifyStation h f).spi = s.spi := rfl
@[simp] theorem State.modifyStation_pins (h : Handle) (f : Station → Station) :
    (s.modifyStation h f).pins = s.pins := rfl

/-! ### setConnection -/

@[simp] theorem State.setConnection_pending (i : Index) (c : Option Connection) :
    (s.setConnection i c).pending = s.pending := rfl
@[simp] theorem State.setConnection_hold (i : Index) (c : Option Connection) :
    (s.setConnection i c).hold = s.hold := rfl
@[simp] theorem State.setConnection_timer (i : Index) (c : Option Connection) :
    (s.setConnection i c).timer = s.timer := rfl
@[simp] theorem State.setConnection_owed (i : Index) (c : Option Connection) :
    (s.setConnection i c).owed = s.owed := rfl
@[simp] theorem State.setConnection_due (i : Index) (c : Option Connection) : (s.setConnection i c).due = s.due := rfl
@[simp] theorem State.setConnection_slots (i : Index) (c : Option Connection) :
    (s.setConnection i c).slots = s.slots := rfl
@[simp] theorem State.setConnection_connections (i : Index) (c : Option Connection) :
    (s.setConnection i c).connections = s.connections.set i c := rfl
@[simp] theorem State.setConnection_serials (i : Index) (c : Option Connection) :
    (s.setConnection i c).serials = s.serials := rfl
@[simp] theorem State.setConnection_waitQueue (i : Index) (c : Option Connection) :
    (s.setConnection i c).waitQueue = s.waitQueue := rfl
@[simp] theorem State.setConnection_stations (i : Index) (c : Option Connection) :
    (s.setConnection i c).stations = s.stations := rfl
@[simp] theorem State.setConnection_assemblies (i : Index) (c : Option Connection) :
    (s.setConnection i c).assemblies = s.assemblies := rfl
@[simp] theorem State.setConnection_denyList (i : Index) (c : Option Connection) :
    (s.setConnection i c).denyList = s.denyList := rfl
@[simp] theorem State.setConnection_policy (i : Index) (c : Option Connection) :
    (s.setConnection i c).policy = s.policy := rfl
@[simp] theorem State.setConnection_answerPeriod (i : Index) (c : Option Connection) :
    (s.setConnection i c).answerPeriod = s.answerPeriod := rfl
@[simp] theorem State.setConnection_rosterPeriod (i : Index) (c : Option Connection) :
    (s.setConnection i c).rosterPeriod = s.rosterPeriod := rfl
@[simp] theorem State.setConnection_arbiter (i : Index) (c : Option Connection) :
    (s.setConnection i c).arbiter = s.arbiter := rfl
@[simp] theorem State.setConnection_handedOn (i : Index) (c : Option Connection) :
    (s.setConnection i c).handedOn = s.handedOn := rfl
@[simp] theorem State.setConnection_downlink (i : Index) (c : Option Connection) :
    (s.setConnection i c).downlink = s.downlink := rfl
@[simp] theorem State.setConnection_highway (i : Index) (c : Option Connection) :
    (s.setConnection i c).highway = s.highway := rfl
@[simp] theorem State.setConnection_port (i : Index) (c : Option Connection) :
    (s.setConnection i c).port = s.port := rfl
@[simp] theorem State.setConnection_flags (i : Index) (c : Option Connection) :
    (s.setConnection i c).flags = s.flags := rfl
@[simp] theorem State.setConnection_directoryChanges (i : Index) (c : Option Connection) :
    (s.setConnection i c).directoryChanges = s.directoryChanges := rfl
@[simp] theorem State.setConnection_connectionChanges (i : Index) (c : Option Connection) :
    (s.setConnection i c).connectionChanges = s.connectionChanges := rfl
@[simp] theorem State.setConnection_spi (i : Index) (c : Option Connection) : (s.setConnection i c).spi = s.spi := rfl
@[simp] theorem State.setConnection_pins (i : Index) (c : Option Connection) :
    (s.setConnection i c).pins = s.pins := rfl

/-! ### mapSlots -/

@[simp] theorem State.mapSlots_pending (f : Nat → SlotRecord → SlotRecord) : (s.mapSlots f).pending = s.pending := rfl
@[simp] theorem State.mapSlots_hold (f : Nat → SlotRecord → SlotRecord) : (s.mapSlots f).hold = s.hold := rfl
@[simp] theorem State.mapSlots_timer (f : Nat → SlotRecord → SlotRecord) : (s.mapSlots f).timer = s.timer := rfl
@[simp] theorem State.mapSlots_owed (f : Nat → SlotRecord → SlotRecord) : (s.mapSlots f).owed = s.owed := rfl
@[simp] theorem State.mapSlots_due (f : Nat → SlotRecord → SlotRecord) : (s.mapSlots f).due = s.due := rfl
@[simp] theorem State.mapSlots_slots (f : Nat → SlotRecord → SlotRecord) :
    (s.mapSlots f).slots = s.slots.mapIdx fun k r => f (k + 2) r := rfl
@[simp] theorem State.mapSlots_connections (f : Nat → SlotRecord → SlotRecord) :
    (s.mapSlots f).connections = s.connections := rfl
@[simp] theorem State.mapSlots_serials (f : Nat → SlotRecord → SlotRecord) : (s.mapSlots f).serials = s.serials := rfl
@[simp] theorem State.mapSlots_waitQueue (f : Nat → SlotRecord → SlotRecord) :
    (s.mapSlots f).waitQueue = s.waitQueue := rfl
@[simp] theorem State.mapSlots_stations (f : Nat → SlotRecord → SlotRecord) :
    (s.mapSlots f).stations = s.stations := rfl
@[simp] theorem State.mapSlots_assemblies (f : Nat → SlotRecord → SlotRecord) :
    (s.mapSlots f).assemblies = s.assemblies := rfl
@[simp] theorem State.mapSlots_denyList (f : Nat → SlotRecord → SlotRecord) :
    (s.mapSlots f).denyList = s.denyList := rfl
@[simp] theorem State.mapSlots_policy (f : Nat → SlotRecord → SlotRecord) : (s.mapSlots f).policy = s.policy := rfl
@[simp] theorem State.mapSlots_answerPeriod (f : Nat → SlotRecord → SlotRecord) :
    (s.mapSlots f).answerPeriod = s.answerPeriod := rfl
@[simp] theorem State.mapSlots_rosterPeriod (f : Nat → SlotRecord → SlotRecord) :
    (s.mapSlots f).rosterPeriod = s.rosterPeriod := rfl
@[simp] theorem State.mapSlots_arbiter (f : Nat → SlotRecord → SlotRecord) : (s.mapSlots f).arbiter = s.arbiter := rfl
@[simp] theorem State.mapSlots_handedOn (f : Nat → SlotRecord → SlotRecord) :
    (s.mapSlots f).handedOn = s.handedOn := rfl
@[simp] theorem State.mapSlots_downlink (f : Nat → SlotRecord → SlotRecord) :
    (s.mapSlots f).downlink = s.downlink := rfl
@[simp] theorem State.mapSlots_highway (f : Nat → SlotRecord → SlotRecord) : (s.mapSlots f).highway = s.highway := rfl
@[simp] theorem State.mapSlots_port (f : Nat → SlotRecord → SlotRecord) : (s.mapSlots f).port = s.port := rfl
@[simp] theorem State.mapSlots_flags (f : Nat → SlotRecord → SlotRecord) : (s.mapSlots f).flags = s.flags := rfl
@[simp] theorem State.mapSlots_directoryChanges (f : Nat → SlotRecord → SlotRecord) :
    (s.mapSlots f).directoryChanges = s.directoryChanges := rfl
@[simp] theorem State.mapSlots_connectionChanges (f : Nat → SlotRecord → SlotRecord) :
    (s.mapSlots f).connectionChanges = s.connectionChanges := rfl
@[simp] theorem State.mapSlots_spi (f : Nat → SlotRecord → SlotRecord) : (s.mapSlots f).spi = s.spi := rfl
@[simp] theorem State.mapSlots_pins (f : Nat → SlotRecord → SlotRecord) : (s.mapSlots f).pins = s.pins := rfl

/-! ### setAssembly -/

@[simp] theorem State.setAssembly_pending (h : Handle) (a : Option Assembly) :
    (s.setAssembly h a).pending = s.pending := rfl
@[simp] theorem State.setAssembly_hold (h : Handle) (a : Option Assembly) : (s.setAssembly h a).hold = s.hold := rfl
@[simp] theorem State.setAssembly_timer (h : Handle) (a : Option Assembly) :
    (s.setAssembly h a).timer = s.timer := rfl
@[simp] theorem State.setAssembly_owed (h : Handle) (a : Option Assembly) : (s.setAssembly h a).owed = s.owed := rfl
@[simp] theorem State.setAssembly_due (h : Handle) (a : Option Assembly) : (s.setAssembly h a).due = s.due := rfl
@[simp] theorem State.setAssembly_slots (h : Handle) (a : Option Assembly) :
    (s.setAssembly h a).slots = s.slots := rfl
@[simp] theorem State.setAssembly_connections (h : Handle) (a : Option Assembly) :
    (s.setAssembly h a).connections = s.connections := rfl
@[simp] theorem State.setAssembly_serials (h : Handle) (a : Option Assembly) :
    (s.setAssembly h a).serials = s.serials := rfl
@[simp] theorem State.setAssembly_waitQueue (h : Handle) (a : Option Assembly) :
    (s.setAssembly h a).waitQueue = s.waitQueue := rfl
@[simp] theorem State.setAssembly_stations (h : Handle) (a : Option Assembly) :
    (s.setAssembly h a).stations = s.stations := rfl
@[simp] theorem State.setAssembly_assemblies (h : Handle) (a : Option Assembly) :
    (s.setAssembly h a).assemblies = s.assemblies.set h a := rfl
@[simp] theorem State.setAssembly_denyList (h : Handle) (a : Option Assembly) :
    (s.setAssembly h a).denyList = s.denyList := rfl
@[simp] theorem State.setAssembly_policy (h : Handle) (a : Option Assembly) :
    (s.setAssembly h a).policy = s.policy := rfl
@[simp] theorem State.setAssembly_answerPeriod (h : Handle) (a : Option Assembly) :
    (s.setAssembly h a).answerPeriod = s.answerPeriod := rfl
@[simp] theorem State.setAssembly_rosterPeriod (h : Handle) (a : Option Assembly) :
    (s.setAssembly h a).rosterPeriod = s.rosterPeriod := rfl
@[simp] theorem State.setAssembly_arbiter (h : Handle) (a : Option Assembly) :
    (s.setAssembly h a).arbiter = s.arbiter := rfl
@[simp] theorem State.setAssembly_handedOn (h : Handle) (a : Option Assembly) :
    (s.setAssembly h a).handedOn = s.handedOn := rfl
@[simp] theorem State.setAssembly_downlink (h : Handle) (a : Option Assembly) :
    (s.setAssembly h a).downlink = s.downlink := rfl
@[simp] theorem State.setAssembly_highway (h : Handle) (a : Option Assembly) :
    (s.setAssembly h a).highway = s.highway := rfl
@[simp] theorem State.setAssembly_port (h : Handle) (a : Option Assembly) : (s.setAssembly h a).port = s.port := rfl
@[simp] theorem State.setAssembly_flags (h : Handle) (a : Option Assembly) :
    (s.setAssembly h a).flags = s.flags := rfl
@[simp] theorem State.setAssembly_directoryChanges (h : Handle) (a : Option Assembly) :
    (s.setAssembly h a).directoryChanges = s.directoryChanges := rfl
@[simp] theorem State.setAssembly_connectionChanges (h : Handle) (a : Option Assembly) :
    (s.setAssembly h a).connectionChanges = s.connectionChanges := rfl
@[simp] theorem State.setAssembly_spi (h : Handle) (a : Option Assembly) : (s.setAssembly h a).spi = s.spi := rfl
@[simp] theorem State.setAssembly_pins (h : Handle) (a : Option Assembly) : (s.setAssembly h a).pins = s.pins := rfl

/-! ### bumpDirectory -/

@[simp] theorem State.bumpDirectory_pending (n : Nat) : (s.bumpDirectory n).pending = s.pending := rfl
@[simp] theorem State.bumpDirectory_hold (n : Nat) : (s.bumpDirectory n).hold = s.hold := rfl
@[simp] theorem State.bumpDirectory_timer (n : Nat) : (s.bumpDirectory n).timer = s.timer := rfl
@[simp] theorem State.bumpDirectory_owed (n : Nat) : (s.bumpDirectory n).owed = s.owed := rfl
@[simp] theorem State.bumpDirectory_due (n : Nat) : (s.bumpDirectory n).due = s.due := rfl
@[simp] theorem State.bumpDirectory_slots (n : Nat) : (s.bumpDirectory n).slots = s.slots := rfl
@[simp] theorem State.bumpDirectory_connections (n : Nat) : (s.bumpDirectory n).connections = s.connections := rfl
@[simp] theorem State.bumpDirectory_serials (n : Nat) : (s.bumpDirectory n).serials = s.serials := rfl
@[simp] theorem State.bumpDirectory_waitQueue (n : Nat) : (s.bumpDirectory n).waitQueue = s.waitQueue := rfl
@[simp] theorem State.bumpDirectory_stations (n : Nat) : (s.bumpDirectory n).stations = s.stations := rfl
@[simp] theorem State.bumpDirectory_assemblies (n : Nat) : (s.bumpDirectory n).assemblies = s.assemblies := rfl
@[simp] theorem State.bumpDirectory_denyList (n : Nat) : (s.bumpDirectory n).denyList = s.denyList := rfl
@[simp] theorem State.bumpDirectory_policy (n : Nat) : (s.bumpDirectory n).policy = s.policy := rfl
@[simp] theorem State.bumpDirectory_answerPeriod (n : Nat) : (s.bumpDirectory n).answerPeriod = s.answerPeriod := rfl
@[simp] theorem State.bumpDirectory_rosterPeriod (n : Nat) : (s.bumpDirectory n).rosterPeriod = s.rosterPeriod := rfl
@[simp] theorem State.bumpDirectory_arbiter (n : Nat) : (s.bumpDirectory n).arbiter = s.arbiter := rfl
@[simp] theorem State.bumpDirectory_handedOn (n : Nat) : (s.bumpDirectory n).handedOn = s.handedOn := rfl
@[simp] theorem State.bumpDirectory_downlink (n : Nat) : (s.bumpDirectory n).downlink = s.downlink := rfl
@[simp] theorem State.bumpDirectory_highway (n : Nat) : (s.bumpDirectory n).highway = s.highway := rfl
@[simp] theorem State.bumpDirectory_port (n : Nat) : (s.bumpDirectory n).port = s.port := rfl
@[simp] theorem State.bumpDirectory_flags (n : Nat) : (s.bumpDirectory n).flags = s.flags := rfl
@[simp] theorem State.bumpDirectory_directoryChanges (n : Nat) :
    (s.bumpDirectory n).directoryChanges = s.directoryChanges + BitVec.ofNat 16 n := rfl
@[simp] theorem State.bumpDirectory_connectionChanges (n : Nat) :
    (s.bumpDirectory n).connectionChanges = s.connectionChanges := rfl
@[simp] theorem State.bumpDirectory_spi (n : Nat) : (s.bumpDirectory n).spi = s.spi := rfl
@[simp] theorem State.bumpDirectory_pins (n : Nat) : (s.bumpDirectory n).pins = s.pins := rfl

/-! ### bumpConnections -/

@[simp] theorem State.bumpConnections_pending (n : Nat) : (s.bumpConnections n).pending = s.pending := rfl
@[simp] theorem State.bumpConnections_hold (n : Nat) : (s.bumpConnections n).hold = s.hold := rfl
@[simp] theorem State.bumpConnections_timer (n : Nat) : (s.bumpConnections n).timer = s.timer := rfl
@[simp] theorem State.bumpConnections_owed (n : Nat) : (s.bumpConnections n).owed = s.owed := rfl
@[simp] theorem State.bumpConnections_due (n : Nat) : (s.bumpConnections n).due = s.due := rfl
@[simp] theorem State.bumpConnections_slots (n : Nat) : (s.bumpConnections n).slots = s.slots := rfl
@[simp] theorem State.bumpConnections_connections (n : Nat) : (s.bumpConnections n).connections = s.connections := rfl
@[simp] theorem State.bumpConnections_serials (n : Nat) : (s.bumpConnections n).serials = s.serials := rfl
@[simp] theorem State.bumpConnections_waitQueue (n : Nat) : (s.bumpConnections n).waitQueue = s.waitQueue := rfl
@[simp] theorem State.bumpConnections_stations (n : Nat) : (s.bumpConnections n).stations = s.stations := rfl
@[simp] theorem State.bumpConnections_assemblies (n : Nat) : (s.bumpConnections n).assemblies = s.assemblies := rfl
@[simp] theorem State.bumpConnections_denyList (n : Nat) : (s.bumpConnections n).denyList = s.denyList := rfl
@[simp] theorem State.bumpConnections_policy (n : Nat) : (s.bumpConnections n).policy = s.policy := rfl
@[simp] theorem State.bumpConnections_answerPeriod (n : Nat) :
    (s.bumpConnections n).answerPeriod = s.answerPeriod := rfl
@[simp] theorem State.bumpConnections_rosterPeriod (n : Nat) :
    (s.bumpConnections n).rosterPeriod = s.rosterPeriod := rfl
@[simp] theorem State.bumpConnections_arbiter (n : Nat) : (s.bumpConnections n).arbiter = s.arbiter := rfl
@[simp] theorem State.bumpConnections_handedOn (n : Nat) : (s.bumpConnections n).handedOn = s.handedOn := rfl
@[simp] theorem State.bumpConnections_downlink (n : Nat) : (s.bumpConnections n).downlink = s.downlink := rfl
@[simp] theorem State.bumpConnections_highway (n : Nat) : (s.bumpConnections n).highway = s.highway := rfl
@[simp] theorem State.bumpConnections_port (n : Nat) : (s.bumpConnections n).port = s.port := rfl
@[simp] theorem State.bumpConnections_flags (n : Nat) : (s.bumpConnections n).flags = s.flags := rfl
@[simp] theorem State.bumpConnections_directoryChanges (n : Nat) :
    (s.bumpConnections n).directoryChanges = s.directoryChanges := rfl
@[simp] theorem State.bumpConnections_connectionChanges (n : Nat) :
    (s.bumpConnections n).connectionChanges = s.connectionChanges + BitVec.ofNat 16 n := rfl
@[simp] theorem State.bumpConnections_spi (n : Nat) : (s.bumpConnections n).spi = s.spi := rfl
@[simp] theorem State.bumpConnections_pins (n : Nat) : (s.bumpConnections n).pins = s.pins := rfl

/-! ### createConnection -/

@[simp] theorem State.createConnection_pending (i : Index) (c : Connection) :
    (s.createConnection i c).pending = s.pending := rfl
@[simp] theorem State.createConnection_hold (i : Index) (c : Connection) :
    (s.createConnection i c).hold = s.hold := rfl
@[simp] theorem State.createConnection_timer (i : Index) (c : Connection) :
    (s.createConnection i c).timer = s.timer := rfl
@[simp] theorem State.createConnection_owed (i : Index) (c : Connection) :
    (s.createConnection i c).owed = s.owed := rfl
@[simp] theorem State.createConnection_due (i : Index) (c : Connection) : (s.createConnection i c).due = s.due := rfl
@[simp] theorem State.createConnection_slots (i : Index) (c : Connection) :
    (s.createConnection i c).slots = s.slots := rfl
@[simp] theorem State.createConnection_connections (i : Index) (c : Connection) :
    (s.createConnection i c).connections = s.connections.set i (some c) := rfl
@[simp] theorem State.createConnection_serials (i : Index) (c : Connection) :
    (s.createConnection i c).serials = s.serials.set i (s.serial i + 1) := rfl
@[simp] theorem State.createConnection_waitQueue (i : Index) (c : Connection) :
    (s.createConnection i c).waitQueue = s.waitQueue := rfl
@[simp] theorem State.createConnection_stations (i : Index) (c : Connection) :
    (s.createConnection i c).stations = s.stations := rfl
@[simp] theorem State.createConnection_assemblies (i : Index) (c : Connection) :
    (s.createConnection i c).assemblies = s.assemblies := rfl
@[simp] theorem State.createConnection_denyList (i : Index) (c : Connection) :
    (s.createConnection i c).denyList = s.denyList := rfl
@[simp] theorem State.createConnection_policy (i : Index) (c : Connection) :
    (s.createConnection i c).policy = s.policy := rfl
@[simp] theorem State.createConnection_answerPeriod (i : Index) (c : Connection) :
    (s.createConnection i c).answerPeriod = s.answerPeriod := rfl
@[simp] theorem State.createConnection_rosterPeriod (i : Index) (c : Connection) :
    (s.createConnection i c).rosterPeriod = s.rosterPeriod := rfl
@[simp] theorem State.createConnection_arbiter (i : Index) (c : Connection) :
    (s.createConnection i c).arbiter = s.arbiter := rfl
@[simp] theorem State.createConnection_handedOn (i : Index) (c : Connection) :
    (s.createConnection i c).handedOn = s.handedOn := rfl
@[simp] theorem State.createConnection_downlink (i : Index) (c : Connection) :
    (s.createConnection i c).downlink = s.downlink := rfl
@[simp] theorem State.createConnection_highway (i : Index) (c : Connection) :
    (s.createConnection i c).highway = s.highway := rfl
@[simp] theorem State.createConnection_port (i : Index) (c : Connection) :
    (s.createConnection i c).port = s.port := rfl
@[simp] theorem State.createConnection_flags (i : Index) (c : Connection) :
    (s.createConnection i c).flags = s.flags := rfl
@[simp] theorem State.createConnection_directoryChanges (i : Index) (c : Connection) :
    (s.createConnection i c).directoryChanges = s.directoryChanges := rfl
@[simp] theorem State.createConnection_connectionChanges (i : Index) (c : Connection) :
    (s.createConnection i c).connectionChanges = s.connectionChanges + 1 := rfl
@[simp] theorem State.createConnection_spi (i : Index) (c : Connection) : (s.createConnection i c).spi = s.spi := rfl
@[simp] theorem State.createConnection_pins (i : Index) (c : Connection) :
    (s.createConnection i c).pins = s.pins := rfl

/-! ### forgetConnection -/

@[simp] theorem State.forgetConnection_pending (i : Index) : (s.forgetConnection i).pending = s.pending := rfl
@[simp] theorem State.forgetConnection_hold (i : Index) : (s.forgetConnection i).hold = s.hold := rfl
@[simp] theorem State.forgetConnection_timer (i : Index) : (s.forgetConnection i).timer = s.timer := rfl
@[simp] theorem State.forgetConnection_owed (i : Index) : (s.forgetConnection i).owed = s.owed := rfl
@[simp] theorem State.forgetConnection_due (i : Index) : (s.forgetConnection i).due = s.due := rfl
@[simp] theorem State.forgetConnection_slots (i : Index) : (s.forgetConnection i).slots = s.slots := rfl
@[simp] theorem State.forgetConnection_connections (i : Index) :
    (s.forgetConnection i).connections = s.connections.set i none := rfl
@[simp] theorem State.forgetConnection_serials (i : Index) : (s.forgetConnection i).serials = s.serials := rfl
@[simp] theorem State.forgetConnection_waitQueue (i : Index) : (s.forgetConnection i).waitQueue = s.waitQueue := rfl
@[simp] theorem State.forgetConnection_stations (i : Index) : (s.forgetConnection i).stations = s.stations := rfl
@[simp] theorem State.forgetConnection_assemblies (i : Index) :
    (s.forgetConnection i).assemblies = s.assemblies := rfl
@[simp] theorem State.forgetConnection_denyList (i : Index) : (s.forgetConnection i).denyList = s.denyList := rfl
@[simp] theorem State.forgetConnection_policy (i : Index) : (s.forgetConnection i).policy = s.policy := rfl
@[simp] theorem State.forgetConnection_answerPeriod (i : Index) :
    (s.forgetConnection i).answerPeriod = s.answerPeriod := rfl
@[simp] theorem State.forgetConnection_rosterPeriod (i : Index) :
    (s.forgetConnection i).rosterPeriod = s.rosterPeriod := rfl
@[simp] theorem State.forgetConnection_arbiter (i : Index) : (s.forgetConnection i).arbiter = s.arbiter := rfl
@[simp] theorem State.forgetConnection_handedOn (i : Index) : (s.forgetConnection i).handedOn = s.handedOn := rfl
@[simp] theorem State.forgetConnection_downlink (i : Index) : (s.forgetConnection i).downlink = s.downlink := rfl
@[simp] theorem State.forgetConnection_highway (i : Index) : (s.forgetConnection i).highway = s.highway := rfl
@[simp] theorem State.forgetConnection_port (i : Index) : (s.forgetConnection i).port = s.port := rfl
@[simp] theorem State.forgetConnection_flags (i : Index) : (s.forgetConnection i).flags = s.flags := rfl
@[simp] theorem State.forgetConnection_directoryChanges (i : Index) :
    (s.forgetConnection i).directoryChanges = s.directoryChanges := rfl
@[simp] theorem State.forgetConnection_connectionChanges (i : Index) :
    (s.forgetConnection i).connectionChanges = s.connectionChanges + 1 := rfl
@[simp] theorem State.forgetConnection_spi (i : Index) : (s.forgetConnection i).spi = s.spi := rfl
@[simp] theorem State.forgetConnection_pins (i : Index) : (s.forgetConnection i).pins = s.pins := rfl

/-! ### deleteStation -/

@[simp] theorem State.deleteStation_pending (h : Handle) : (s.deleteStation h).pending = s.pending := rfl
@[simp] theorem State.deleteStation_hold (h : Handle) : (s.deleteStation h).hold = s.hold := rfl
@[simp] theorem State.deleteStation_timer (h : Handle) : (s.deleteStation h).timer = s.timer := rfl
@[simp] theorem State.deleteStation_owed (h : Handle) : (s.deleteStation h).owed = s.owed := rfl
@[simp] theorem State.deleteStation_due (h : Handle) : (s.deleteStation h).due = s.due := rfl
@[simp] theorem State.deleteStation_slots (h : Handle) : (s.deleteStation h).slots = s.slots := rfl
@[simp] theorem State.deleteStation_connections (h : Handle) : (s.deleteStation h).connections = s.connections := rfl
@[simp] theorem State.deleteStation_serials (h : Handle) : (s.deleteStation h).serials = s.serials := rfl
@[simp] theorem State.deleteStation_waitQueue (h : Handle) : (s.deleteStation h).waitQueue = s.waitQueue := rfl
@[simp] theorem State.deleteStation_stations (h : Handle) :
    (s.deleteStation h).stations = s.stations.set h none := rfl
@[simp] theorem State.deleteStation_assemblies (h : Handle) :
    (s.deleteStation h).assemblies = s.assemblies.set h none := rfl
@[simp] theorem State.deleteStation_denyList (h : Handle) : (s.deleteStation h).denyList = s.denyList := rfl
@[simp] theorem State.deleteStation_policy (h : Handle) : (s.deleteStation h).policy = s.policy := rfl
@[simp] theorem State.deleteStation_answerPeriod (h : Handle) :
    (s.deleteStation h).answerPeriod = s.answerPeriod := rfl
@[simp] theorem State.deleteStation_rosterPeriod (h : Handle) :
    (s.deleteStation h).rosterPeriod = s.rosterPeriod := rfl
@[simp] theorem State.deleteStation_arbiter (h : Handle) : (s.deleteStation h).arbiter = s.arbiter := rfl
@[simp] theorem State.deleteStation_handedOn (h : Handle) : (s.deleteStation h).handedOn = s.handedOn := rfl
@[simp] theorem State.deleteStation_downlink (h : Handle) : (s.deleteStation h).downlink = s.downlink := rfl
@[simp] theorem State.deleteStation_highway (h : Handle) : (s.deleteStation h).highway = s.highway := rfl
@[simp] theorem State.deleteStation_port (h : Handle) : (s.deleteStation h).port = s.port := rfl
@[simp] theorem State.deleteStation_flags (h : Handle) : (s.deleteStation h).flags = s.flags ||| Flag.left.mask := rfl
@[simp] theorem State.deleteStation_directoryChanges (h : Handle) :
    (s.deleteStation h).directoryChanges = s.directoryChanges + 1 := rfl
@[simp] theorem State.deleteStation_connectionChanges (h : Handle) :
    (s.deleteStation h).connectionChanges = s.connectionChanges := rfl
@[simp] theorem State.deleteStation_spi (h : Handle) : (s.deleteStation h).spi = s.spi := rfl
@[simp] theorem State.deleteStation_pins (h : Handle) : (s.deleteStation h).pins = s.pins := rfl

/-! ### hit -/

@[simp] theorem State.hit_pending (n : StationNumber) : (s.hit n).pending = s.pending := rfl
@[simp] theorem State.hit_hold (n : StationNumber) : (s.hit n).hold = s.hold := rfl
@[simp] theorem State.hit_timer (n : StationNumber) : (s.hit n).timer = s.timer := rfl
@[simp] theorem State.hit_owed (n : StationNumber) : (s.hit n).owed = s.owed := rfl
@[simp] theorem State.hit_due (n : StationNumber) : (s.hit n).due = s.due := rfl
@[simp] theorem State.hit_slots (n : StationNumber) : (s.hit n).slots = s.slots := rfl
@[simp] theorem State.hit_connections (n : StationNumber) : (s.hit n).connections = s.connections := rfl
@[simp] theorem State.hit_serials (n : StationNumber) : (s.hit n).serials = s.serials := rfl
@[simp] theorem State.hit_waitQueue (n : StationNumber) : (s.hit n).waitQueue = s.waitQueue := rfl
@[simp] theorem State.hit_stations (n : StationNumber) : (s.hit n).stations = s.stations := rfl
@[simp] theorem State.hit_assemblies (n : StationNumber) : (s.hit n).assemblies = s.assemblies := rfl
@[simp] theorem State.hit_denyList (n : StationNumber) : (s.hit n).denyList =
    s.denyList.map fun e => if e.number = n then { e with hits := min 255 (e.hits + 1) } else e := rfl
@[simp] theorem State.hit_policy (n : StationNumber) : (s.hit n).policy = s.policy := rfl
@[simp] theorem State.hit_answerPeriod (n : StationNumber) : (s.hit n).answerPeriod = s.answerPeriod := rfl
@[simp] theorem State.hit_rosterPeriod (n : StationNumber) : (s.hit n).rosterPeriod = s.rosterPeriod := rfl
@[simp] theorem State.hit_arbiter (n : StationNumber) : (s.hit n).arbiter = s.arbiter := rfl
@[simp] theorem State.hit_handedOn (n : StationNumber) : (s.hit n).handedOn = s.handedOn := rfl
@[simp] theorem State.hit_downlink (n : StationNumber) : (s.hit n).downlink = s.downlink := rfl
@[simp] theorem State.hit_highway (n : StationNumber) : (s.hit n).highway = s.highway := rfl
@[simp] theorem State.hit_port (n : StationNumber) : (s.hit n).port = s.port := rfl
@[simp] theorem State.hit_flags (n : StationNumber) : (s.hit n).flags = s.flags := rfl
@[simp] theorem State.hit_directoryChanges (n : StationNumber) :
    (s.hit n).directoryChanges = s.directoryChanges := rfl
@[simp] theorem State.hit_connectionChanges (n : StationNumber) :
    (s.hit n).connectionChanges = s.connectionChanges := rfl
@[simp] theorem State.hit_spi (n : StationNumber) : (s.hit n).spi = s.spi := rfl
@[simp] theorem State.hit_pins (n : StationNumber) : (s.hit n).pins = s.pins := rfl

/-! ### enqueue -/

@[simp] theorem State.enqueue_pending (m : DownMessage) : (s.enqueue m).pending = s.pending := rfl
@[simp] theorem State.enqueue_hold (m : DownMessage) : (s.enqueue m).hold = s.hold := rfl
@[simp] theorem State.enqueue_timer (m : DownMessage) : (s.enqueue m).timer = s.timer := rfl
@[simp] theorem State.enqueue_owed (m : DownMessage) : (s.enqueue m).owed = s.owed := rfl
@[simp] theorem State.enqueue_due (m : DownMessage) : (s.enqueue m).due = s.due := rfl
@[simp] theorem State.enqueue_slots (m : DownMessage) : (s.enqueue m).slots = s.slots := rfl
@[simp] theorem State.enqueue_connections (m : DownMessage) : (s.enqueue m).connections = s.connections := rfl
@[simp] theorem State.enqueue_serials (m : DownMessage) : (s.enqueue m).serials = s.serials := rfl
@[simp] theorem State.enqueue_waitQueue (m : DownMessage) : (s.enqueue m).waitQueue = s.waitQueue := rfl
@[simp] theorem State.enqueue_stations (m : DownMessage) : (s.enqueue m).stations = s.stations := rfl
@[simp] theorem State.enqueue_assemblies (m : DownMessage) : (s.enqueue m).assemblies = s.assemblies := rfl
@[simp] theorem State.enqueue_denyList (m : DownMessage) : (s.enqueue m).denyList = s.denyList := rfl
@[simp] theorem State.enqueue_policy (m : DownMessage) : (s.enqueue m).policy = s.policy := rfl
@[simp] theorem State.enqueue_answerPeriod (m : DownMessage) : (s.enqueue m).answerPeriod = s.answerPeriod := rfl
@[simp] theorem State.enqueue_rosterPeriod (m : DownMessage) : (s.enqueue m).rosterPeriod = s.rosterPeriod := rfl
@[simp] theorem State.enqueue_arbiter (m : DownMessage) : (s.enqueue m).arbiter = s.arbiter := rfl
@[simp] theorem State.enqueue_handedOn (m : DownMessage) : (s.enqueue m).handedOn = s.handedOn := rfl
@[simp] theorem State.enqueue_downlink (m : DownMessage) :
    (s.enqueue m).downlink = { s.downlink with held := s.downlink.held ++ [m] } := rfl
@[simp] theorem State.enqueue_highway (m : DownMessage) : (s.enqueue m).highway = s.highway := rfl
@[simp] theorem State.enqueue_port (m : DownMessage) : (s.enqueue m).port = s.port := rfl
@[simp] theorem State.enqueue_flags (m : DownMessage) : (s.enqueue m).flags = s.flags := rfl
@[simp] theorem State.enqueue_directoryChanges (m : DownMessage) :
    (s.enqueue m).directoryChanges = s.directoryChanges := rfl
@[simp] theorem State.enqueue_connectionChanges (m : DownMessage) :
    (s.enqueue m).connectionChanges = s.connectionChanges := rfl
@[simp] theorem State.enqueue_spi (m : DownMessage) : (s.enqueue m).spi = s.spi := rfl
@[simp] theorem State.enqueue_pins (m : DownMessage) : (s.enqueue m).pins = s.pins := rfl

/-! ### removeEntry -/

@[simp] theorem State.removeEntry_pending (e : Entry) : (s.removeEntry e).pending = s.pending := rfl
@[simp] theorem State.removeEntry_hold (e : Entry) : (s.removeEntry e).hold = s.hold := rfl
@[simp] theorem State.removeEntry_timer (e : Entry) : (s.removeEntry e).timer = s.timer := rfl
@[simp] theorem State.removeEntry_owed (e : Entry) : (s.removeEntry e).owed = s.owed := rfl
@[simp] theorem State.removeEntry_due (e : Entry) : (s.removeEntry e).due = s.due := rfl
@[simp] theorem State.removeEntry_slots (e : Entry) : (s.removeEntry e).slots = s.slots := rfl
@[simp] theorem State.removeEntry_connections (e : Entry) : (s.removeEntry e).connections = s.connections := rfl
@[simp] theorem State.removeEntry_serials (e : Entry) : (s.removeEntry e).serials = s.serials := rfl
@[simp] theorem State.removeEntry_waitQueue (e : Entry) : (s.removeEntry e).waitQueue = s.waitQueue.erase e := rfl
@[simp] theorem State.removeEntry_stations (e : Entry) : (s.removeEntry e).stations = s.stations := rfl
@[simp] theorem State.removeEntry_assemblies (e : Entry) : (s.removeEntry e).assemblies = s.assemblies := rfl
@[simp] theorem State.removeEntry_denyList (e : Entry) : (s.removeEntry e).denyList = s.denyList := rfl
@[simp] theorem State.removeEntry_policy (e : Entry) : (s.removeEntry e).policy = s.policy := rfl
@[simp] theorem State.removeEntry_answerPeriod (e : Entry) : (s.removeEntry e).answerPeriod = s.answerPeriod := rfl
@[simp] theorem State.removeEntry_rosterPeriod (e : Entry) : (s.removeEntry e).rosterPeriod = s.rosterPeriod := rfl
@[simp] theorem State.removeEntry_arbiter (e : Entry) : (s.removeEntry e).arbiter = s.arbiter := rfl
@[simp] theorem State.removeEntry_handedOn (e : Entry) : (s.removeEntry e).handedOn = s.handedOn := rfl
@[simp] theorem State.removeEntry_downlink (e : Entry) : (s.removeEntry e).downlink = s.downlink := rfl
@[simp] theorem State.removeEntry_highway (e : Entry) : (s.removeEntry e).highway = s.highway := rfl
@[simp] theorem State.removeEntry_port (e : Entry) : (s.removeEntry e).port = s.port := rfl
@[simp] theorem State.removeEntry_flags (e : Entry) : (s.removeEntry e).flags = s.flags := rfl
@[simp] theorem State.removeEntry_directoryChanges (e : Entry) :
    (s.removeEntry e).directoryChanges = s.directoryChanges := rfl
@[simp] theorem State.removeEntry_connectionChanges (e : Entry) :
    (s.removeEntry e).connectionChanges = s.connectionChanges := rfl
@[simp] theorem State.removeEntry_spi (e : Entry) : (s.removeEntry e).spi = s.spi := rfl
@[simp] theorem State.removeEntry_pins (e : Entry) : (s.removeEntry e).pins = s.pins := rfl

/-! ### writeEnables -/

@[simp] theorem State.writeEnables_pending (high : Bool) (value : Byte) :
    (s.writeEnables high value).pending = s.pending := rfl
@[simp] theorem State.writeEnables_hold (high : Bool) (value : Byte) :
    (s.writeEnables high value).hold = s.hold := rfl
@[simp] theorem State.writeEnables_timer (high : Bool) (value : Byte) :
    (s.writeEnables high value).timer = s.timer := rfl
@[simp] theorem State.writeEnables_owed (high : Bool) (value : Byte) :
    (s.writeEnables high value).owed = s.owed := rfl
@[simp] theorem State.writeEnables_due (high : Bool) (value : Byte) : (s.writeEnables high value).due = s.due := rfl
@[simp] theorem State.writeEnables_slots (high : Bool) (value : Byte) :
    (s.writeEnables high value).slots = s.slots := rfl
@[simp] theorem State.writeEnables_connections (high : Bool) (value : Byte) :
    (s.writeEnables high value).connections = s.connections := rfl
@[simp] theorem State.writeEnables_serials (high : Bool) (value : Byte) :
    (s.writeEnables high value).serials = s.serials := rfl
@[simp] theorem State.writeEnables_waitQueue (high : Bool) (value : Byte) :
    (s.writeEnables high value).waitQueue = s.waitQueue := rfl
@[simp] theorem State.writeEnables_stations (high : Bool) (value : Byte) :
    (s.writeEnables high value).stations = s.stations := rfl
@[simp] theorem State.writeEnables_assemblies (high : Bool) (value : Byte) :
    (s.writeEnables high value).assemblies = s.assemblies := rfl
@[simp] theorem State.writeEnables_denyList (high : Bool) (value : Byte) :
    (s.writeEnables high value).denyList = s.denyList := rfl
@[simp] theorem State.writeEnables_policy (high : Bool) (value : Byte) :
    (s.writeEnables high value).policy = s.policy := rfl
@[simp] theorem State.writeEnables_answerPeriod (high : Bool) (value : Byte) :
    (s.writeEnables high value).answerPeriod = s.answerPeriod := rfl
@[simp] theorem State.writeEnables_rosterPeriod (high : Bool) (value : Byte) :
    (s.writeEnables high value).rosterPeriod = s.rosterPeriod := rfl
@[simp] theorem State.writeEnables_arbiter (high : Bool) (value : Byte) :
    (s.writeEnables high value).arbiter = s.arbiter := rfl
@[simp] theorem State.writeEnables_handedOn (high : Bool) (value : Byte) :
    (s.writeEnables high value).handedOn = s.handedOn := rfl
@[simp] theorem State.writeEnables_downlink (high : Bool) (value : Byte) :
    (s.writeEnables high value).downlink = s.downlink := rfl
@[simp] theorem State.writeEnables_highway (high : Bool) (value : Byte) :
    (s.writeEnables high value).highway = s.highway := rfl
@[simp] theorem State.writeEnables_port (high : Bool) (value : Byte) : (s.writeEnables high value).port =
    { s.port with enables := (s.port.enables &&& ~~~flagByteMask high) ||| flagByte high value } := rfl
@[simp] theorem State.writeEnables_flags (high : Bool) (value : Byte) :
    (s.writeEnables high value).flags = s.flags := rfl
@[simp] theorem State.writeEnables_directoryChanges (high : Bool) (value : Byte) :
    (s.writeEnables high value).directoryChanges = s.directoryChanges := rfl
@[simp] theorem State.writeEnables_connectionChanges (high : Bool) (value : Byte) :
    (s.writeEnables high value).connectionChanges = s.connectionChanges := rfl
@[simp] theorem State.writeEnables_spi (high : Bool) (value : Byte) : (s.writeEnables high value).spi = s.spi := rfl
@[simp] theorem State.writeEnables_pins (high : Bool) (value : Byte) :
    (s.writeEnables high value).pins = s.pins := rfl

/-! ### latch -/

@[simp] theorem State.latch_pending (code : Byte) : (s.latch code).pending = s.pending := rfl
@[simp] theorem State.latch_hold (code : Byte) : (s.latch code).hold = s.hold := rfl
@[simp] theorem State.latch_timer (code : Byte) : (s.latch code).timer = s.timer := rfl
@[simp] theorem State.latch_owed (code : Byte) : (s.latch code).owed = s.owed := rfl
@[simp] theorem State.latch_due (code : Byte) : (s.latch code).due = s.due := rfl
@[simp] theorem State.latch_slots (code : Byte) : (s.latch code).slots = s.slots := rfl
@[simp] theorem State.latch_connections (code : Byte) : (s.latch code).connections = s.connections := rfl
@[simp] theorem State.latch_serials (code : Byte) : (s.latch code).serials = s.serials := rfl
@[simp] theorem State.latch_waitQueue (code : Byte) : (s.latch code).waitQueue = s.waitQueue := rfl
@[simp] theorem State.latch_stations (code : Byte) : (s.latch code).stations = s.stations := rfl
@[simp] theorem State.latch_assemblies (code : Byte) : (s.latch code).assemblies = s.assemblies := rfl
@[simp] theorem State.latch_denyList (code : Byte) : (s.latch code).denyList = s.denyList := rfl
@[simp] theorem State.latch_policy (code : Byte) : (s.latch code).policy = s.policy := rfl
@[simp] theorem State.latch_answerPeriod (code : Byte) : (s.latch code).answerPeriod = s.answerPeriod := rfl
@[simp] theorem State.latch_rosterPeriod (code : Byte) : (s.latch code).rosterPeriod = s.rosterPeriod := rfl
@[simp] theorem State.latch_arbiter (code : Byte) : (s.latch code).arbiter = s.arbiter := rfl
@[simp] theorem State.latch_handedOn (code : Byte) : (s.latch code).handedOn = s.handedOn := rfl
@[simp] theorem State.latch_downlink (code : Byte) : (s.latch code).downlink = s.downlink := rfl
@[simp] theorem State.latch_highway (code : Byte) : (s.latch code).highway = s.highway := rfl
@[simp] theorem State.latch_port (code : Byte) : (s.latch code).port =
    { s.port with latched := s.port.arguments, command := code, mailbox := .latched, collided := false } := rfl
@[simp] theorem State.latch_flags (code : Byte) : (s.latch code).flags = s.flags := rfl
@[simp] theorem State.latch_directoryChanges (code : Byte) :
    (s.latch code).directoryChanges = s.directoryChanges := rfl
@[simp] theorem State.latch_connectionChanges (code : Byte) :
    (s.latch code).connectionChanges = s.connectionChanges := rfl
@[simp] theorem State.latch_spi (code : Byte) : (s.latch code).spi = s.spi := rfl
@[simp] theorem State.latch_pins (code : Byte) : (s.latch code).pins = s.pins := rfl

/-! ### finished -/

@[simp] theorem State.finished_pending (result : Result) (readout : List Byte) :
    (s.finished result readout).pending = s.pending := rfl
@[simp] theorem State.finished_hold (result : Result) (readout : List Byte) :
    (s.finished result readout).hold = s.hold := rfl
@[simp] theorem State.finished_timer (result : Result) (readout : List Byte) :
    (s.finished result readout).timer = s.timer := rfl
@[simp] theorem State.finished_owed (result : Result) (readout : List Byte) :
    (s.finished result readout).owed = s.owed := rfl
@[simp] theorem State.finished_due (result : Result) (readout : List Byte) :
    (s.finished result readout).due = s.due := rfl
@[simp] theorem State.finished_slots (result : Result) (readout : List Byte) :
    (s.finished result readout).slots = s.slots := rfl
@[simp] theorem State.finished_connections (result : Result) (readout : List Byte) :
    (s.finished result readout).connections = s.connections := rfl
@[simp] theorem State.finished_serials (result : Result) (readout : List Byte) :
    (s.finished result readout).serials = s.serials := rfl
@[simp] theorem State.finished_waitQueue (result : Result) (readout : List Byte) :
    (s.finished result readout).waitQueue = s.waitQueue := rfl
@[simp] theorem State.finished_stations (result : Result) (readout : List Byte) :
    (s.finished result readout).stations = s.stations := rfl
@[simp] theorem State.finished_assemblies (result : Result) (readout : List Byte) :
    (s.finished result readout).assemblies = s.assemblies := rfl
@[simp] theorem State.finished_denyList (result : Result) (readout : List Byte) :
    (s.finished result readout).denyList = s.denyList := rfl
@[simp] theorem State.finished_policy (result : Result) (readout : List Byte) :
    (s.finished result readout).policy = s.policy := rfl
@[simp] theorem State.finished_answerPeriod (result : Result) (readout : List Byte) :
    (s.finished result readout).answerPeriod = s.answerPeriod := rfl
@[simp] theorem State.finished_rosterPeriod (result : Result) (readout : List Byte) :
    (s.finished result readout).rosterPeriod = s.rosterPeriod := rfl
@[simp] theorem State.finished_arbiter (result : Result) (readout : List Byte) :
    (s.finished result readout).arbiter = s.arbiter := rfl
@[simp] theorem State.finished_handedOn (result : Result) (readout : List Byte) :
    (s.finished result readout).handedOn = s.handedOn := rfl
@[simp] theorem State.finished_downlink (result : Result) (readout : List Byte) :
    (s.finished result readout).downlink = s.downlink := rfl
@[simp] theorem State.finished_highway (result : Result) (readout : List Byte) :
    (s.finished result readout).highway = s.highway := rfl
@[simp] theorem State.finished_port (result : Result) (readout : List Byte) :
    (s.finished result readout).port = { s.port with mailbox := .done result (readoutOf readout) } := rfl
@[simp] theorem State.finished_flags (result : Result) (readout : List Byte) :
    (s.finished result readout).flags = s.flags := rfl
@[simp] theorem State.finished_directoryChanges (result : Result) (readout : List Byte) :
    (s.finished result readout).directoryChanges = s.directoryChanges := rfl
@[simp] theorem State.finished_connectionChanges (result : Result) (readout : List Byte) :
    (s.finished result readout).connectionChanges = s.connectionChanges := rfl
@[simp] theorem State.finished_spi (result : Result) (readout : List Byte) :
    (s.finished result readout).spi = s.spi := rfl
@[simp] theorem State.finished_pins (result : Result) (readout : List Byte) :
    (s.finished result readout).pins = s.pins := rfl

/-! ### taking -/

@[simp] theorem State.taking_pending (message : Instr) : (s.taking message).pending = s.pending := rfl
@[simp] theorem State.taking_hold (message : Instr) : (s.taking message).hold = s.hold := rfl
@[simp] theorem State.taking_timer (message : Instr) : (s.taking message).timer = s.timer := rfl
@[simp] theorem State.taking_owed (message : Instr) : (s.taking message).owed = s.owed := rfl
@[simp] theorem State.taking_due (message : Instr) : (s.taking message).due = s.due := rfl
@[simp] theorem State.taking_slots (message : Instr) : (s.taking message).slots = s.slots := rfl
@[simp] theorem State.taking_connections (message : Instr) : (s.taking message).connections = s.connections := rfl
@[simp] theorem State.taking_serials (message : Instr) : (s.taking message).serials = s.serials := rfl
@[simp] theorem State.taking_waitQueue (message : Instr) : (s.taking message).waitQueue = s.waitQueue := rfl
@[simp] theorem State.taking_stations (message : Instr) : (s.taking message).stations = s.stations := rfl
@[simp] theorem State.taking_assemblies (message : Instr) : (s.taking message).assemblies = s.assemblies := rfl
@[simp] theorem State.taking_denyList (message : Instr) : (s.taking message).denyList = s.denyList := rfl
@[simp] theorem State.taking_policy (message : Instr) : (s.taking message).policy = s.policy := rfl
@[simp] theorem State.taking_answerPeriod (message : Instr) : (s.taking message).answerPeriod = s.answerPeriod := rfl
@[simp] theorem State.taking_rosterPeriod (message : Instr) : (s.taking message).rosterPeriod = s.rosterPeriod := rfl
@[simp] theorem State.taking_arbiter (message : Instr) : (s.taking message).arbiter = s.arbiter := rfl
@[simp] theorem State.taking_handedOn (message : Instr) :
    (s.taking message).handedOn = s.handedOn.erase message := rfl
@[simp] theorem State.taking_downlink (message : Instr) : (s.taking message).downlink = s.downlink := rfl
@[simp] theorem State.taking_highway (message : Instr) : (s.taking message).highway = s.highway := rfl
@[simp] theorem State.taking_port (message : Instr) : (s.taking message).port = s.port := rfl
@[simp] theorem State.taking_flags (message : Instr) : (s.taking message).flags = s.flags := rfl
@[simp] theorem State.taking_directoryChanges (message : Instr) :
    (s.taking message).directoryChanges = s.directoryChanges := rfl
@[simp] theorem State.taking_connectionChanges (message : Instr) :
    (s.taking message).connectionChanges = s.connectionChanges := rfl
@[simp] theorem State.taking_spi (message : Instr) : (s.taking message).spi = s.spi := rfl
@[simp] theorem State.taking_pins (message : Instr) : (s.taking message).pins = s.pins := rfl

/-! ### reserveClaim -/

@[simp] theorem State.reserveClaim_pending (i : Index) (list : List Nat) :
    (s.reserveClaim i list).pending = s.pending := rfl
@[simp] theorem State.reserveClaim_hold (i : Index) (list : List Nat) : (s.reserveClaim i list).hold = s.hold := rfl
@[simp] theorem State.reserveClaim_timer (i : Index) (list : List Nat) :
    (s.reserveClaim i list).timer = s.timer := rfl
@[simp] theorem State.reserveClaim_owed (i : Index) (list : List Nat) : (s.reserveClaim i list).owed = s.owed := rfl
@[simp] theorem State.reserveClaim_due (i : Index) (list : List Nat) : (s.reserveClaim i list).due = s.due := rfl
@[simp] theorem State.reserveClaim_slots (i : Index) (list : List Nat) :
    (s.reserveClaim i list).slots = s.slots.mapIdx fun k r => if k + 2 ∈ list then .reserved i else r := rfl
@[simp] theorem State.reserveClaim_connections (i : Index) (list : List Nat) :
    (s.reserveClaim i list).connections = s.connections := rfl
@[simp] theorem State.reserveClaim_serials (i : Index) (list : List Nat) :
    (s.reserveClaim i list).serials = s.serials := rfl
@[simp] theorem State.reserveClaim_waitQueue (i : Index) (list : List Nat) :
    (s.reserveClaim i list).waitQueue = s.waitQueue := rfl
@[simp] theorem State.reserveClaim_stations (i : Index) (list : List Nat) :
    (s.reserveClaim i list).stations = s.stations := rfl
@[simp] theorem State.reserveClaim_assemblies (i : Index) (list : List Nat) :
    (s.reserveClaim i list).assemblies = s.assemblies := rfl
@[simp] theorem State.reserveClaim_denyList (i : Index) (list : List Nat) :
    (s.reserveClaim i list).denyList = s.denyList := rfl
@[simp] theorem State.reserveClaim_policy (i : Index) (list : List Nat) :
    (s.reserveClaim i list).policy = s.policy := rfl
@[simp] theorem State.reserveClaim_answerPeriod (i : Index) (list : List Nat) :
    (s.reserveClaim i list).answerPeriod = s.answerPeriod := rfl
@[simp] theorem State.reserveClaim_rosterPeriod (i : Index) (list : List Nat) :
    (s.reserveClaim i list).rosterPeriod = s.rosterPeriod := rfl
@[simp] theorem State.reserveClaim_arbiter (i : Index) (list : List Nat) :
    (s.reserveClaim i list).arbiter = s.arbiter := rfl
@[simp] theorem State.reserveClaim_handedOn (i : Index) (list : List Nat) :
    (s.reserveClaim i list).handedOn = s.handedOn := rfl
@[simp] theorem State.reserveClaim_downlink (i : Index) (list : List Nat) :
    (s.reserveClaim i list).downlink = s.downlink := rfl
@[simp] theorem State.reserveClaim_highway (i : Index) (list : List Nat) :
    (s.reserveClaim i list).highway = s.highway := rfl
@[simp] theorem State.reserveClaim_port (i : Index) (list : List Nat) : (s.reserveClaim i list).port = s.port := rfl
@[simp] theorem State.reserveClaim_flags (i : Index) (list : List Nat) :
    (s.reserveClaim i list).flags = s.flags := rfl
@[simp] theorem State.reserveClaim_directoryChanges (i : Index) (list : List Nat) :
    (s.reserveClaim i list).directoryChanges = s.directoryChanges := rfl
@[simp] theorem State.reserveClaim_connectionChanges (i : Index) (list : List Nat) :
    (s.reserveClaim i list).connectionChanges = s.connectionChanges := rfl
@[simp] theorem State.reserveClaim_spi (i : Index) (list : List Nat) : (s.reserveClaim i list).spi = s.spi := rfl
@[simp] theorem State.reserveClaim_pins (i : Index) (list : List Nat) : (s.reserveClaim i list).pins = s.pins := rfl

/-! ### holdClaim -/

@[simp] theorem State.holdClaim_pending (i : Index) : (s.holdClaim i).pending = s.pending := rfl
@[simp] theorem State.holdClaim_hold (i : Index) : (s.holdClaim i).hold = s.hold := rfl
@[simp] theorem State.holdClaim_timer (i : Index) : (s.holdClaim i).timer = s.timer := rfl
@[simp] theorem State.holdClaim_owed (i : Index) : (s.holdClaim i).owed = s.owed := rfl
@[simp] theorem State.holdClaim_due (i : Index) : (s.holdClaim i).due = s.due := rfl
@[simp] theorem State.holdClaim_slots (i : Index) :
    (s.holdClaim i).slots = s.slots.mapIdx fun _ r => if r = .reserved i then .held i else r := rfl
@[simp] theorem State.holdClaim_connections (i : Index) : (s.holdClaim i).connections = s.connections := rfl
@[simp] theorem State.holdClaim_serials (i : Index) : (s.holdClaim i).serials = s.serials := rfl
@[simp] theorem State.holdClaim_waitQueue (i : Index) : (s.holdClaim i).waitQueue = s.waitQueue := rfl
@[simp] theorem State.holdClaim_stations (i : Index) : (s.holdClaim i).stations = s.stations := rfl
@[simp] theorem State.holdClaim_assemblies (i : Index) : (s.holdClaim i).assemblies = s.assemblies := rfl
@[simp] theorem State.holdClaim_denyList (i : Index) : (s.holdClaim i).denyList = s.denyList := rfl
@[simp] theorem State.holdClaim_policy (i : Index) : (s.holdClaim i).policy = s.policy := rfl
@[simp] theorem State.holdClaim_answerPeriod (i : Index) : (s.holdClaim i).answerPeriod = s.answerPeriod := rfl
@[simp] theorem State.holdClaim_rosterPeriod (i : Index) : (s.holdClaim i).rosterPeriod = s.rosterPeriod := rfl
@[simp] theorem State.holdClaim_arbiter (i : Index) : (s.holdClaim i).arbiter = s.arbiter := rfl
@[simp] theorem State.holdClaim_handedOn (i : Index) : (s.holdClaim i).handedOn = s.handedOn := rfl
@[simp] theorem State.holdClaim_downlink (i : Index) : (s.holdClaim i).downlink = s.downlink := rfl
@[simp] theorem State.holdClaim_highway (i : Index) : (s.holdClaim i).highway = s.highway := rfl
@[simp] theorem State.holdClaim_port (i : Index) : (s.holdClaim i).port = s.port := rfl
@[simp] theorem State.holdClaim_flags (i : Index) : (s.holdClaim i).flags = s.flags := rfl
@[simp] theorem State.holdClaim_directoryChanges (i : Index) :
    (s.holdClaim i).directoryChanges = s.directoryChanges := rfl
@[simp] theorem State.holdClaim_connectionChanges (i : Index) :
    (s.holdClaim i).connectionChanges = s.connectionChanges := rfl
@[simp] theorem State.holdClaim_spi (i : Index) : (s.holdClaim i).spi = s.spi := rfl
@[simp] theorem State.holdClaim_pins (i : Index) : (s.holdClaim i).pins = s.pins := rfl

/-! ### endClaim -/

@[simp] theorem State.endClaim_pending (i : Index) : (s.endClaim i).pending = s.pending := rfl
@[simp] theorem State.endClaim_hold (i : Index) : (s.endClaim i).hold = s.hold := rfl
@[simp] theorem State.endClaim_timer (i : Index) : (s.endClaim i).timer = s.timer := rfl
@[simp] theorem State.endClaim_owed (i : Index) : (s.endClaim i).owed = s.owed := rfl
@[simp] theorem State.endClaim_due (i : Index) : (s.endClaim i).due = s.due := rfl
@[simp] theorem State.endClaim_slots (i : Index) :
    (s.endClaim i).slots = s.slots.mapIdx fun _ r => if r = .held i then .guard none s.timer.parity else r := rfl
@[simp] theorem State.endClaim_connections (i : Index) : (s.endClaim i).connections = s.connections := rfl
@[simp] theorem State.endClaim_serials (i : Index) : (s.endClaim i).serials = s.serials := rfl
@[simp] theorem State.endClaim_waitQueue (i : Index) : (s.endClaim i).waitQueue = s.waitQueue := rfl
@[simp] theorem State.endClaim_stations (i : Index) : (s.endClaim i).stations = s.stations := rfl
@[simp] theorem State.endClaim_assemblies (i : Index) : (s.endClaim i).assemblies = s.assemblies := rfl
@[simp] theorem State.endClaim_denyList (i : Index) : (s.endClaim i).denyList = s.denyList := rfl
@[simp] theorem State.endClaim_policy (i : Index) : (s.endClaim i).policy = s.policy := rfl
@[simp] theorem State.endClaim_answerPeriod (i : Index) : (s.endClaim i).answerPeriod = s.answerPeriod := rfl
@[simp] theorem State.endClaim_rosterPeriod (i : Index) : (s.endClaim i).rosterPeriod = s.rosterPeriod := rfl
@[simp] theorem State.endClaim_arbiter (i : Index) : (s.endClaim i).arbiter = s.arbiter := rfl
@[simp] theorem State.endClaim_handedOn (i : Index) : (s.endClaim i).handedOn = s.handedOn := rfl
@[simp] theorem State.endClaim_downlink (i : Index) : (s.endClaim i).downlink = s.downlink := rfl
@[simp] theorem State.endClaim_highway (i : Index) : (s.endClaim i).highway = s.highway := rfl
@[simp] theorem State.endClaim_port (i : Index) : (s.endClaim i).port = s.port := rfl
@[simp] theorem State.endClaim_flags (i : Index) : (s.endClaim i).flags = s.flags := rfl
@[simp] theorem State.endClaim_directoryChanges (i : Index) :
    (s.endClaim i).directoryChanges = s.directoryChanges := rfl
@[simp] theorem State.endClaim_connectionChanges (i : Index) :
    (s.endClaim i).connectionChanges = s.connectionChanges := rfl
@[simp] theorem State.endClaim_spi (i : Index) : (s.endClaim i).spi = s.spi := rfl
@[simp] theorem State.endClaim_pins (i : Index) : (s.endClaim i).pins = s.pins := rfl

/-! ### withdrawClaim -/

@[simp] theorem State.withdrawClaim_pending (i : Index) : (s.withdrawClaim i).pending = s.pending := rfl
@[simp] theorem State.withdrawClaim_hold (i : Index) : (s.withdrawClaim i).hold = s.hold := rfl
@[simp] theorem State.withdrawClaim_timer (i : Index) : (s.withdrawClaim i).timer = s.timer := rfl
@[simp] theorem State.withdrawClaim_owed (i : Index) : (s.withdrawClaim i).owed = s.owed := rfl
@[simp] theorem State.withdrawClaim_due (i : Index) : (s.withdrawClaim i).due = s.due := rfl
@[simp] theorem State.withdrawClaim_slots (i : Index) :
    (s.withdrawClaim i).slots = s.slots.mapIdx fun _ r => r.withdrawn i := rfl
@[simp] theorem State.withdrawClaim_connections (i : Index) : (s.withdrawClaim i).connections = s.connections := rfl
@[simp] theorem State.withdrawClaim_serials (i : Index) : (s.withdrawClaim i).serials = s.serials := rfl
@[simp] theorem State.withdrawClaim_waitQueue (i : Index) : (s.withdrawClaim i).waitQueue = s.waitQueue := rfl
@[simp] theorem State.withdrawClaim_stations (i : Index) : (s.withdrawClaim i).stations = s.stations := rfl
@[simp] theorem State.withdrawClaim_assemblies (i : Index) : (s.withdrawClaim i).assemblies = s.assemblies := rfl
@[simp] theorem State.withdrawClaim_denyList (i : Index) : (s.withdrawClaim i).denyList = s.denyList := rfl
@[simp] theorem State.withdrawClaim_policy (i : Index) : (s.withdrawClaim i).policy = s.policy := rfl
@[simp] theorem State.withdrawClaim_answerPeriod (i : Index) :
    (s.withdrawClaim i).answerPeriod = s.answerPeriod := rfl
@[simp] theorem State.withdrawClaim_rosterPeriod (i : Index) :
    (s.withdrawClaim i).rosterPeriod = s.rosterPeriod := rfl
@[simp] theorem State.withdrawClaim_arbiter (i : Index) : (s.withdrawClaim i).arbiter = s.arbiter := rfl
@[simp] theorem State.withdrawClaim_handedOn (i : Index) : (s.withdrawClaim i).handedOn = s.handedOn := rfl
@[simp] theorem State.withdrawClaim_downlink (i : Index) : (s.withdrawClaim i).downlink = s.downlink := rfl
@[simp] theorem State.withdrawClaim_highway (i : Index) : (s.withdrawClaim i).highway = s.highway := rfl
@[simp] theorem State.withdrawClaim_port (i : Index) : (s.withdrawClaim i).port = s.port := rfl
@[simp] theorem State.withdrawClaim_flags (i : Index) : (s.withdrawClaim i).flags = s.flags := rfl
@[simp] theorem State.withdrawClaim_directoryChanges (i : Index) :
    (s.withdrawClaim i).directoryChanges = s.directoryChanges := rfl
@[simp] theorem State.withdrawClaim_connectionChanges (i : Index) :
    (s.withdrawClaim i).connectionChanges = s.connectionChanges := rfl
@[simp] theorem State.withdrawClaim_spi (i : Index) : (s.withdrawClaim i).spi = s.spi := rfl
@[simp] theorem State.withdrawClaim_pins (i : Index) : (s.withdrawClaim i).pins = s.pins := rfl

/-! ### preemptClaim -/

@[simp] theorem State.preemptClaim_pending (victims : List Index) (i : Index) (list : List Nat) :
    (s.preemptClaim victims i list).pending = s.pending := rfl
@[simp] theorem State.preemptClaim_hold (victims : List Index) (i : Index) (list : List Nat) :
    (s.preemptClaim victims i list).hold = s.hold := rfl
@[simp] theorem State.preemptClaim_timer (victims : List Index) (i : Index) (list : List Nat) :
    (s.preemptClaim victims i list).timer = s.timer := rfl
@[simp] theorem State.preemptClaim_owed (victims : List Index) (i : Index) (list : List Nat) :
    (s.preemptClaim victims i list).owed = s.owed := rfl
@[simp] theorem State.preemptClaim_due (victims : List Index) (i : Index) (list : List Nat) :
    (s.preemptClaim victims i list).due = s.due := rfl
@[simp] theorem State.preemptClaim_slots (victims : List Index) (i : Index) (list : List Nat) : (s.preemptClaim victims i list).slots =
    s.slots.mapIdx fun k r => r.preempted victims i (k + 2 ∈ list) s.timer.parity := rfl
@[simp] theorem State.preemptClaim_connections (victims : List Index) (i : Index) (list : List Nat) :
    (s.preemptClaim victims i list).connections = s.connections := rfl
@[simp] theorem State.preemptClaim_serials (victims : List Index) (i : Index) (list : List Nat) :
    (s.preemptClaim victims i list).serials = s.serials := rfl
@[simp] theorem State.preemptClaim_waitQueue (victims : List Index) (i : Index) (list : List Nat) :
    (s.preemptClaim victims i list).waitQueue = s.waitQueue := rfl
@[simp] theorem State.preemptClaim_stations (victims : List Index) (i : Index) (list : List Nat) :
    (s.preemptClaim victims i list).stations = s.stations := rfl
@[simp] theorem State.preemptClaim_assemblies (victims : List Index) (i : Index) (list : List Nat) :
    (s.preemptClaim victims i list).assemblies = s.assemblies := rfl
@[simp] theorem State.preemptClaim_denyList (victims : List Index) (i : Index) (list : List Nat) :
    (s.preemptClaim victims i list).denyList = s.denyList := rfl
@[simp] theorem State.preemptClaim_policy (victims : List Index) (i : Index) (list : List Nat) :
    (s.preemptClaim victims i list).policy = s.policy := rfl
@[simp] theorem State.preemptClaim_answerPeriod (victims : List Index) (i : Index) (list : List Nat) :
    (s.preemptClaim victims i list).answerPeriod = s.answerPeriod := rfl
@[simp] theorem State.preemptClaim_rosterPeriod (victims : List Index) (i : Index) (list : List Nat) :
    (s.preemptClaim victims i list).rosterPeriod = s.rosterPeriod := rfl
@[simp] theorem State.preemptClaim_arbiter (victims : List Index) (i : Index) (list : List Nat) :
    (s.preemptClaim victims i list).arbiter = s.arbiter := rfl
@[simp] theorem State.preemptClaim_handedOn (victims : List Index) (i : Index) (list : List Nat) :
    (s.preemptClaim victims i list).handedOn = s.handedOn := rfl
@[simp] theorem State.preemptClaim_downlink (victims : List Index) (i : Index) (list : List Nat) :
    (s.preemptClaim victims i list).downlink = s.downlink := rfl
@[simp] theorem State.preemptClaim_highway (victims : List Index) (i : Index) (list : List Nat) :
    (s.preemptClaim victims i list).highway = s.highway := rfl
@[simp] theorem State.preemptClaim_port (victims : List Index) (i : Index) (list : List Nat) :
    (s.preemptClaim victims i list).port = s.port := rfl
@[simp] theorem State.preemptClaim_flags (victims : List Index) (i : Index) (list : List Nat) :
    (s.preemptClaim victims i list).flags = s.flags := rfl
@[simp] theorem State.preemptClaim_directoryChanges (victims : List Index) (i : Index) (list : List Nat) :
    (s.preemptClaim victims i list).directoryChanges = s.directoryChanges := rfl
@[simp] theorem State.preemptClaim_connectionChanges (victims : List Index) (i : Index) (list : List Nat) :
    (s.preemptClaim victims i list).connectionChanges = s.connectionChanges := rfl
@[simp] theorem State.preemptClaim_spi (victims : List Index) (i : Index) (list : List Nat) :
    (s.preemptClaim victims i list).spi = s.spi := rfl
@[simp] theorem State.preemptClaim_pins (victims : List Index) (i : Index) (list : List Nat) :
    (s.preemptClaim victims i list).pins = s.pins := rfl

/-! ### select -/

@[simp] theorem State.select_pending : (s.select).pending = s.pending := rfl
@[simp] theorem State.select_hold : (s.select).hold = s.hold := rfl
@[simp] theorem State.select_timer : (s.select).timer = s.timer := rfl
@[simp] theorem State.select_owed : (s.select).owed = s.owed := rfl
@[simp] theorem State.select_due : (s.select).due = s.due := rfl
@[simp] theorem State.select_slots : (s.select).slots = s.slots := rfl
@[simp] theorem State.select_connections : (s.select).connections = s.connections := rfl
@[simp] theorem State.select_serials : (s.select).serials = s.serials := rfl
@[simp] theorem State.select_waitQueue : (s.select).waitQueue = s.waitQueue := rfl
@[simp] theorem State.select_stations : (s.select).stations = s.stations := rfl
@[simp] theorem State.select_assemblies : (s.select).assemblies = s.assemblies := rfl
@[simp] theorem State.select_denyList : (s.select).denyList = s.denyList := rfl
@[simp] theorem State.select_policy : (s.select).policy = s.policy := rfl
@[simp] theorem State.select_answerPeriod : (s.select).answerPeriod = s.answerPeriod := rfl
@[simp] theorem State.select_rosterPeriod : (s.select).rosterPeriod = s.rosterPeriod := rfl
@[simp] theorem State.select_arbiter : (s.select).arbiter = s.arbiter := rfl
@[simp] theorem State.select_handedOn : (s.select).handedOn = s.handedOn := rfl
@[simp] theorem State.select_downlink : (s.select).downlink = s.downlink := rfl
@[simp] theorem State.select_highway : (s.select).highway = s.highway := rfl
@[simp] theorem State.select_port : (s.select).port = s.port := rfl
@[simp] theorem State.select_flags : (s.select).flags = s.flags := rfl
@[simp] theorem State.select_directoryChanges : (s.select).directoryChanges = s.directoryChanges := rfl
@[simp] theorem State.select_connectionChanges : (s.select).connectionChanges = s.connectionChanges := rfl
@[simp] theorem State.select_spi :
    (s.select).spi = { s.spi with transaction := some (.addressing (s.hold != .running)) } := rfl
@[simp] theorem State.select_pins : (s.select).pins = s.pins := rfl

/-! ### deselect -/

@[simp] theorem State.deselect_pending : (s.deselect).pending = s.pending := rfl
@[simp] theorem State.deselect_hold : (s.deselect).hold = s.hold := rfl
@[simp] theorem State.deselect_timer : (s.deselect).timer = s.timer := rfl
@[simp] theorem State.deselect_owed : (s.deselect).owed = s.owed := rfl
@[simp] theorem State.deselect_due : (s.deselect).due = s.due := rfl
@[simp] theorem State.deselect_slots : (s.deselect).slots = s.slots := rfl
@[simp] theorem State.deselect_connections : (s.deselect).connections = s.connections := rfl
@[simp] theorem State.deselect_serials : (s.deselect).serials = s.serials := rfl
@[simp] theorem State.deselect_waitQueue : (s.deselect).waitQueue = s.waitQueue := rfl
@[simp] theorem State.deselect_stations : (s.deselect).stations = s.stations := rfl
@[simp] theorem State.deselect_assemblies : (s.deselect).assemblies = s.assemblies := rfl
@[simp] theorem State.deselect_denyList : (s.deselect).denyList = s.denyList := rfl
@[simp] theorem State.deselect_policy : (s.deselect).policy = s.policy := rfl
@[simp] theorem State.deselect_answerPeriod : (s.deselect).answerPeriod = s.answerPeriod := rfl
@[simp] theorem State.deselect_rosterPeriod : (s.deselect).rosterPeriod = s.rosterPeriod := rfl
@[simp] theorem State.deselect_arbiter : (s.deselect).arbiter = s.arbiter := rfl
@[simp] theorem State.deselect_handedOn : (s.deselect).handedOn = s.handedOn := rfl
@[simp] theorem State.deselect_downlink : (s.deselect).downlink = s.downlink := rfl
@[simp] theorem State.deselect_highway : (s.deselect).highway = s.highway := rfl
@[simp] theorem State.deselect_port : (s.deselect).port = s.port := rfl
@[simp] theorem State.deselect_flags : (s.deselect).flags = s.flags := rfl
@[simp] theorem State.deselect_directoryChanges : (s.deselect).directoryChanges = s.directoryChanges := rfl
@[simp] theorem State.deselect_connectionChanges : (s.deselect).connectionChanges = s.connectionChanges := rfl
@[simp] theorem State.deselect_spi : (s.deselect).spi = { s.spi with transaction := none } := rfl
@[simp] theorem State.deselect_pins : (s.deselect).pins = s.pins := rfl

/-! ### driveBytes -/

@[simp] theorem State.driveBytes_pending (a : BitVec 6) (count : Nat) :
    (s.driveBytes a count).pending = s.pending := rfl
@[simp] theorem State.driveBytes_hold (a : BitVec 6) (count : Nat) : (s.driveBytes a count).hold = s.hold := rfl
@[simp] theorem State.driveBytes_timer (a : BitVec 6) (count : Nat) : (s.driveBytes a count).timer = s.timer := rfl
@[simp] theorem State.driveBytes_owed (a : BitVec 6) (count : Nat) : (s.driveBytes a count).owed = s.owed := rfl
@[simp] theorem State.driveBytes_due (a : BitVec 6) (count : Nat) : (s.driveBytes a count).due = s.due := rfl
@[simp] theorem State.driveBytes_slots (a : BitVec 6) (count : Nat) : (s.driveBytes a count).slots = s.slots := rfl
@[simp] theorem State.driveBytes_connections (a : BitVec 6) (count : Nat) :
    (s.driveBytes a count).connections = s.connections := rfl
@[simp] theorem State.driveBytes_serials (a : BitVec 6) (count : Nat) :
    (s.driveBytes a count).serials = s.serials := rfl
@[simp] theorem State.driveBytes_waitQueue (a : BitVec 6) (count : Nat) :
    (s.driveBytes a count).waitQueue = s.waitQueue := rfl
@[simp] theorem State.driveBytes_stations (a : BitVec 6) (count : Nat) :
    (s.driveBytes a count).stations = s.stations := rfl
@[simp] theorem State.driveBytes_assemblies (a : BitVec 6) (count : Nat) :
    (s.driveBytes a count).assemblies = s.assemblies := rfl
@[simp] theorem State.driveBytes_denyList (a : BitVec 6) (count : Nat) :
    (s.driveBytes a count).denyList = s.denyList := rfl
@[simp] theorem State.driveBytes_policy (a : BitVec 6) (count : Nat) : (s.driveBytes a count).policy = s.policy := rfl
@[simp] theorem State.driveBytes_answerPeriod (a : BitVec 6) (count : Nat) :
    (s.driveBytes a count).answerPeriod = s.answerPeriod := rfl
@[simp] theorem State.driveBytes_rosterPeriod (a : BitVec 6) (count : Nat) :
    (s.driveBytes a count).rosterPeriod = s.rosterPeriod := rfl
@[simp] theorem State.driveBytes_arbiter (a : BitVec 6) (count : Nat) :
    (s.driveBytes a count).arbiter = s.arbiter := rfl
@[simp] theorem State.driveBytes_handedOn (a : BitVec 6) (count : Nat) :
    (s.driveBytes a count).handedOn = s.handedOn := rfl
@[simp] theorem State.driveBytes_downlink (a : BitVec 6) (count : Nat) :
    (s.driveBytes a count).downlink = s.downlink := rfl
@[simp] theorem State.driveBytes_highway (a : BitVec 6) (count : Nat) :
    (s.driveBytes a count).highway = s.highway := rfl
@[simp] theorem State.driveBytes_port (a : BitVec 6) (count : Nat) : (s.driveBytes a count).port = s.port := rfl
@[simp] theorem State.driveBytes_flags (a : BitVec 6) (count : Nat) : (s.driveBytes a count).flags = s.flags := rfl
@[simp] theorem State.driveBytes_directoryChanges (a : BitVec 6) (count : Nat) :
    (s.driveBytes a count).directoryChanges = s.directoryChanges := rfl
@[simp] theorem State.driveBytes_connectionChanges (a : BitVec 6) (count : Nat) :
    (s.driveBytes a count).connectionChanges = s.connectionChanges := rfl
@[simp] theorem State.driveBytes_spi (a : BitVec 6) (count : Nat) :
    (s.driveBytes a count).spi =
      { s.spi with
        transaction := some (.reading (a + BitVec.ofNat 6 count))
        sdo := s.spi.sdo ++ (List.range count).map fun k => captured s.spi.capture (a + BitVec.ofNat 6 k) } := rfl
@[simp] theorem State.driveBytes_pins (a : BitVec 6) (count : Nat) : (s.driveBytes a count).pins = s.pins := rfl

end Sys2Proof.Machine
end

