-- ==== Sys2Proof/Laws/Tables.lean ====
section
/-! SUPPORT. What each read of the tables gives after each plain update of State: the updates that leave it alone (by rfl),
and the updates that reach it. -/

namespace Sys2Proof.Machine

variable (s : State)

/-! ### raise -/

@[simp] theorem State.raise_station (f : Flag) (k : Handle) :
    (s.raise f).station k = s.station k := rfl
@[simp] theorem State.raise_connection (f : Flag) (j : Index) :
    (s.raise f).connection j = s.connection j := rfl
@[simp] theorem State.raise_serial (f : Flag) (j : Index) :
    (s.raise f).serial j = s.serial j := rfl
@[simp] theorem State.raise_referenceOf (f : Flag) (j : Index) :
    (s.raise f).referenceOf j = s.referenceOf j := rfl
@[simp] theorem State.raise_slot (f : Flag) (k : Nat) :
    (s.raise f).slot k = s.slot k := rfl
@[simp] theorem State.raise_slotFree (f : Flag) (k : Nat) :
    (s.raise f).slotFree k = s.slotFree k := rfl
@[simp] theorem State.raise_freeSlots (f : Flag) :
    (s.raise f).freeSlots = s.freeSlots := rfl
@[simp] theorem State.raise_searchSlots (f : Flag) (b : Bool) (w : Nat) :
    (s.raise f).searchSlots b w = s.searchSlots b w := rfl
@[simp] theorem State.raise_assembly (f : Flag) (k : Handle) :
    (s.raise f).assembly k = s.assembly k := rfl
@[simp] theorem State.raise_classPolicy (f : Flag) (k : ClassNo) :
    (s.raise f).classPolicy k = s.classPolicy k := rfl
@[simp] theorem State.raise_lookup (f : Flag) (a : StationNumber) :
    (s.raise f).lookup a = s.lookup a := rfl
@[simp] theorem State.raise_numberOf (f : Flag) (k : Handle) :
    (s.raise f).numberOf k = s.numberOf k := rfl
@[simp] theorem State.raise_freeHandle (f : Flag) :
    (s.raise f).freeHandle = s.freeHandle := rfl
@[simp] theorem State.raise_dropHolder (f : Flag) (d : Drop) :
    (s.raise f).dropHolder d = s.dropHolder d := rfl
@[simp] theorem State.raise_downstream (f : Flag) (k : Handle) :
    (s.raise f).downstream k = s.downstream k := rfl
@[simp] theorem State.raise_onDrop (f : Flag) (d : Drop) :
    (s.raise f).onDrop d = s.onDrop d := rfl
@[simp] theorem State.raise_inUse (f : Flag) :
    (s.raise f).inUse = s.inUse := rfl
@[simp] theorem State.raise_usage (f : Flag) (k : Handle) :
    (s.raise f).usage k = s.usage k := rfl
@[simp] theorem State.raise_partyCount (f : Flag) (k : Handle) :
    (s.raise f).partyCount k = s.partyCount k := rfl
@[simp] theorem State.raise_unusedIndex (f : Flag) :
    (s.raise f).unusedIndex = s.unusedIndex := rfl
@[simp] theorem State.raise_tableEmpty (f : Flag) :
    (s.raise f).tableEmpty = s.tableEmpty := rfl
@[simp] theorem State.raise_room (f : Flag) (b : Bool) (w : Nat) :
    (s.raise f).room b w = s.room b w := rfl
@[simp] theorem State.raise_entryOf (f : Flag) (k : Handle) :
    (s.raise f).entryOf k = s.entryOf k := rfl
@[simp] theorem State.raise_listed (f : Flag) (a : StationNumber) :
    (s.raise f).listed a = s.listed a := rfl
@[simp] theorem State.raise_countdownOf (f : Flag) (n : Nat) :
    (s.raise f).countdownOf n = s.countdownOf n := rfl
@[simp] theorem State.raise_downlinkFree (f : Flag) :
    (s.raise f).downlinkFree = s.downlinkFree := rfl
@[simp] theorem State.raise_touching (f : Flag) (set : List Handle) :
    (s.raise f).touching set = s.touching set := rfl

/-! ### clearFlags -/

@[simp] theorem State.clearFlags_station (high : Bool) (value : Byte) (k : Handle) :
    (s.clearFlags high value).station k = s.station k := rfl
@[simp] theorem State.clearFlags_connection (high : Bool) (value : Byte) (j : Index) :
    (s.clearFlags high value).connection j = s.connection j := rfl
@[simp] theorem State.clearFlags_serial (high : Bool) (value : Byte) (j : Index) :
    (s.clearFlags high value).serial j = s.serial j := rfl
@[simp] theorem State.clearFlags_referenceOf (high : Bool) (value : Byte) (j : Index) :
    (s.clearFlags high value).referenceOf j = s.referenceOf j := rfl
@[simp] theorem State.clearFlags_slot (high : Bool) (value : Byte) (k : Nat) :
    (s.clearFlags high value).slot k = s.slot k := rfl
@[simp] theorem State.clearFlags_slotFree (high : Bool) (value : Byte) (k : Nat) :
    (s.clearFlags high value).slotFree k = s.slotFree k := rfl
@[simp] theorem State.clearFlags_freeSlots (high : Bool) (value : Byte) :
    (s.clearFlags high value).freeSlots = s.freeSlots := rfl
@[simp] theorem State.clearFlags_searchSlots (high : Bool) (value : Byte) (b : Bool) (w : Nat) :
    (s.clearFlags high value).searchSlots b w = s.searchSlots b w := rfl
@[simp] theorem State.clearFlags_assembly (high : Bool) (value : Byte) (k : Handle) :
    (s.clearFlags high value).assembly k = s.assembly k := rfl
@[simp] theorem State.clearFlags_classPolicy (high : Bool) (value : Byte) (k : ClassNo) :
    (s.clearFlags high value).classPolicy k = s.classPolicy k := rfl
@[simp] theorem State.clearFlags_lookup (high : Bool) (value : Byte) (a : StationNumber) :
    (s.clearFlags high value).lookup a = s.lookup a := rfl
@[simp] theorem State.clearFlags_numberOf (high : Bool) (value : Byte) (k : Handle) :
    (s.clearFlags high value).numberOf k = s.numberOf k := rfl
@[simp] theorem State.clearFlags_freeHandle (high : Bool) (value : Byte) :
    (s.clearFlags high value).freeHandle = s.freeHandle := rfl
@[simp] theorem State.clearFlags_dropHolder (high : Bool) (value : Byte) (d : Drop) :
    (s.clearFlags high value).dropHolder d = s.dropHolder d := rfl
@[simp] theorem State.clearFlags_downstream (high : Bool) (value : Byte) (k : Handle) :
    (s.clearFlags high value).downstream k = s.downstream k := rfl
@[simp] theorem State.clearFlags_onDrop (high : Bool) (value : Byte) (d : Drop) :
    (s.clearFlags high value).onDrop d = s.onDrop d := rfl
@[simp] theorem State.clearFlags_inUse (high : Bool) (value : Byte) :
    (s.clearFlags high value).inUse = s.inUse := rfl
@[simp] theorem State.clearFlags_usage (high : Bool) (value : Byte) (k : Handle) :
    (s.clearFlags high value).usage k = s.usage k := rfl
@[simp] theorem State.clearFlags_partyCount (high : Bool) (value : Byte) (k : Handle) :
    (s.clearFlags high value).partyCount k = s.partyCount k := rfl
@[simp] theorem State.clearFlags_unusedIndex (high : Bool) (value : Byte) :
    (s.clearFlags high value).unusedIndex = s.unusedIndex := rfl
@[simp] theorem State.clearFlags_tableEmpty (high : Bool) (value : Byte) :
    (s.clearFlags high value).tableEmpty = s.tableEmpty := rfl
@[simp] theorem State.clearFlags_room (high : Bool) (value : Byte) (b : Bool) (w : Nat) :
    (s.clearFlags high value).room b w = s.room b w := rfl
@[simp] theorem State.clearFlags_entryOf (high : Bool) (value : Byte) (k : Handle) :
    (s.clearFlags high value).entryOf k = s.entryOf k := rfl
@[simp] theorem State.clearFlags_listed (high : Bool) (value : Byte) (a : StationNumber) :
    (s.clearFlags high value).listed a = s.listed a := rfl
@[simp] theorem State.clearFlags_countdownOf (high : Bool) (value : Byte) (n : Nat) :
    (s.clearFlags high value).countdownOf n = s.countdownOf n := rfl
@[simp] theorem State.clearFlags_downlinkFree (high : Bool) (value : Byte) :
    (s.clearFlags high value).downlinkFree = s.downlinkFree := rfl
@[simp] theorem State.clearFlags_touching (high : Bool) (value : Byte) (set : List Handle) :
    (s.clearFlags high value).touching set = s.touching set := rfl

/-! ### setStation -/

@[simp] theorem State.setStation_connection (h : Handle) (r : Option Station) (j : Index) :
    (s.setStation h r).connection j = s.connection j := rfl
@[simp] theorem State.setStation_serial (h : Handle) (r : Option Station) (j : Index) :
    (s.setStation h r).serial j = s.serial j := rfl
@[simp] theorem State.setStation_referenceOf (h : Handle) (r : Option Station) (j : Index) :
    (s.setStation h r).referenceOf j = s.referenceOf j := rfl
@[simp] theorem State.setStation_slot (h : Handle) (r : Option Station) (k : Nat) :
    (s.setStation h r).slot k = s.slot k := rfl
@[simp] theorem State.setStation_slotFree (h : Handle) (r : Option Station) (k : Nat) :
    (s.setStation h r).slotFree k = s.slotFree k := rfl
@[simp] theorem State.setStation_freeSlots (h : Handle) (r : Option Station) :
    (s.setStation h r).freeSlots = s.freeSlots := rfl
@[simp] theorem State.setStation_searchSlots (h : Handle) (r : Option Station) (b : Bool) (w : Nat) :
    (s.setStation h r).searchSlots b w = s.searchSlots b w := rfl
@[simp] theorem State.setStation_assembly (h : Handle) (r : Option Station) (k : Handle) :
    (s.setStation h r).assembly k = s.assembly k := rfl
@[simp] theorem State.setStation_classPolicy (h : Handle) (r : Option Station) (k : ClassNo) :
    (s.setStation h r).classPolicy k = s.classPolicy k := rfl
@[simp] theorem State.setStation_inUse (h : Handle) (r : Option Station) :
    (s.setStation h r).inUse = s.inUse := rfl
@[simp] theorem State.setStation_usage (h : Handle) (r : Option Station) (k : Handle) :
    (s.setStation h r).usage k = s.usage k := rfl
@[simp] theorem State.setStation_partyCount (h : Handle) (r : Option Station) (k : Handle) :
    (s.setStation h r).partyCount k = s.partyCount k := rfl
@[simp] theorem State.setStation_unusedIndex (h : Handle) (r : Option Station) :
    (s.setStation h r).unusedIndex = s.unusedIndex := rfl
@[simp] theorem State.setStation_tableEmpty (h : Handle) (r : Option Station) :
    (s.setStation h r).tableEmpty = s.tableEmpty := rfl
@[simp] theorem State.setStation_room (h : Handle) (r : Option Station) (b : Bool) (w : Nat) :
    (s.setStation h r).room b w = s.room b w := rfl
@[simp] theorem State.setStation_entryOf (h : Handle) (r : Option Station) (k : Handle) :
    (s.setStation h r).entryOf k = s.entryOf k := rfl
@[simp] theorem State.setStation_listed (h : Handle) (r : Option Station) (a : StationNumber) :
    (s.setStation h r).listed a = s.listed a := rfl
@[simp] theorem State.setStation_countdownOf (h : Handle) (r : Option Station) (n : Nat) :
    (s.setStation h r).countdownOf n = s.countdownOf n := rfl
@[simp] theorem State.setStation_downlinkFree (h : Handle) (r : Option Station) :
    (s.setStation h r).downlinkFree = s.downlinkFree := rfl
@[simp] theorem State.setStation_touching (h : Handle) (r : Option Station) (set : List Handle) :
    (s.setStation h r).touching set = s.touching set := rfl

/-! ### modifyStation -/

@[simp] theorem State.modifyStation_connection (h : Handle) (f : Station → Station) (j : Index) :
    (s.modifyStation h f).connection j = s.connection j := rfl
@[simp] theorem State.modifyStation_serial (h : Handle) (f : Station → Station) (j : Index) :
    (s.modifyStation h f).serial j = s.serial j := rfl
@[simp] theorem State.modifyStation_referenceOf (h : Handle) (f : Station → Station) (j : Index) :
    (s.modifyStation h f).referenceOf j = s.referenceOf j := rfl
@[simp] theorem State.modifyStation_slot (h : Handle) (f : Station → Station) (k : Nat) :
    (s.modifyStation h f).slot k = s.slot k := rfl
@[simp] theorem State.modifyStation_slotFree (h : Handle) (f : Station → Station) (k : Nat) :
    (s.modifyStation h f).slotFree k = s.slotFree k := rfl
@[simp] theorem State.modifyStation_freeSlots (h : Handle) (f : Station → Station) :
    (s.modifyStation h f).freeSlots = s.freeSlots := rfl
@[simp] theorem State.modifyStation_searchSlots (h : Handle) (f : Station → Station) (b : Bool) (w : Nat) :
    (s.modifyStation h f).searchSlots b w = s.searchSlots b w := rfl
@[simp] theorem State.modifyStation_assembly (h : Handle) (f : Station → Station) (k : Handle) :
    (s.modifyStation h f).assembly k = s.assembly k := rfl
@[simp] theorem State.modifyStation_classPolicy (h : Handle) (f : Station → Station) (k : ClassNo) :
    (s.modifyStation h f).classPolicy k = s.classPolicy k := rfl
@[simp] theorem State.modifyStation_inUse (h : Handle) (f : Station → Station) :
    (s.modifyStation h f).inUse = s.inUse := rfl
@[simp] theorem State.modifyStation_usage (h : Handle) (f : Station → Station) (k : Handle) :
    (s.modifyStation h f).usage k = s.usage k := rfl
@[simp] theorem State.modifyStation_partyCount (h : Handle) (f : Station → Station) (k : Handle) :
    (s.modifyStation h f).partyCount k = s.partyCount k := rfl
@[simp] theorem State.modifyStation_unusedIndex (h : Handle) (f : Station → Station) :
    (s.modifyStation h f).unusedIndex = s.unusedIndex := rfl
@[simp] theorem State.modifyStation_tableEmpty (h : Handle) (f : Station → Station) :
    (s.modifyStation h f).tableEmpty = s.tableEmpty := rfl
@[simp] theorem State.modifyStation_room (h : Handle) (f : Station → Station) (b : Bool) (w : Nat) :
    (s.modifyStation h f).room b w = s.room b w := rfl
@[simp] theorem State.modifyStation_entryOf (h : Handle) (f : Station → Station) (k : Handle) :
    (s.modifyStation h f).entryOf k = s.entryOf k := rfl
@[simp] theorem State.modifyStation_listed (h : Handle) (f : Station → Station) (a : StationNumber) :
    (s.modifyStation h f).listed a = s.listed a := rfl
@[simp] theorem State.modifyStation_countdownOf (h : Handle) (f : Station → Station) (n : Nat) :
    (s.modifyStation h f).countdownOf n = s.countdownOf n := rfl
@[simp] theorem State.modifyStation_downlinkFree (h : Handle) (f : Station → Station) :
    (s.modifyStation h f).downlinkFree = s.downlinkFree := rfl
@[simp] theorem State.modifyStation_touching (h : Handle) (f : Station → Station) (set : List Handle) :
    (s.modifyStation h f).touching set = s.touching set := rfl

/-! ### setConnection -/

@[simp] theorem State.setConnection_station (i : Index) (c : Option Connection) (k : Handle) :
    (s.setConnection i c).station k = s.station k := rfl
@[simp] theorem State.setConnection_serial (i : Index) (c : Option Connection) (j : Index) :
    (s.setConnection i c).serial j = s.serial j := rfl
@[simp] theorem State.setConnection_referenceOf (i : Index) (c : Option Connection) (j : Index) :
    (s.setConnection i c).referenceOf j = s.referenceOf j := rfl
@[simp] theorem State.setConnection_slot (i : Index) (c : Option Connection) (k : Nat) :
    (s.setConnection i c).slot k = s.slot k := rfl
@[simp] theorem State.setConnection_slotFree (i : Index) (c : Option Connection) (k : Nat) :
    (s.setConnection i c).slotFree k = s.slotFree k := rfl
@[simp] theorem State.setConnection_freeSlots (i : Index) (c : Option Connection) :
    (s.setConnection i c).freeSlots = s.freeSlots := rfl
@[simp] theorem State.setConnection_searchSlots (i : Index) (c : Option Connection) (b : Bool) (w : Nat) :
    (s.setConnection i c).searchSlots b w = s.searchSlots b w := rfl
@[simp] theorem State.setConnection_assembly (i : Index) (c : Option Connection) (k : Handle) :
    (s.setConnection i c).assembly k = s.assembly k := rfl
@[simp] theorem State.setConnection_classPolicy (i : Index) (c : Option Connection) (k : ClassNo) :
    (s.setConnection i c).classPolicy k = s.classPolicy k := rfl
@[simp] theorem State.setConnection_lookup (i : Index) (c : Option Connection) (a : StationNumber) :
    (s.setConnection i c).lookup a = s.lookup a := rfl
@[simp] theorem State.setConnection_numberOf (i : Index) (c : Option Connection) (k : Handle) :
    (s.setConnection i c).numberOf k = s.numberOf k := rfl
@[simp] theorem State.setConnection_freeHandle (i : Index) (c : Option Connection) :
    (s.setConnection i c).freeHandle = s.freeHandle := rfl
@[simp] theorem State.setConnection_dropHolder (i : Index) (c : Option Connection) (d : Drop) :
    (s.setConnection i c).dropHolder d = s.dropHolder d := rfl
@[simp] theorem State.setConnection_downstream (i : Index) (c : Option Connection) (k : Handle) :
    (s.setConnection i c).downstream k = s.downstream k := rfl
@[simp] theorem State.setConnection_onDrop (i : Index) (c : Option Connection) (d : Drop) :
    (s.setConnection i c).onDrop d = s.onDrop d := rfl
@[simp] theorem State.setConnection_entryOf (i : Index) (c : Option Connection) (k : Handle) :
    (s.setConnection i c).entryOf k = s.entryOf k := rfl
@[simp] theorem State.setConnection_listed (i : Index) (c : Option Connection) (a : StationNumber) :
    (s.setConnection i c).listed a = s.listed a := rfl
@[simp] theorem State.setConnection_countdownOf (i : Index) (c : Option Connection) (n : Nat) :
    (s.setConnection i c).countdownOf n = s.countdownOf n := rfl
@[simp] theorem State.setConnection_downlinkFree (i : Index) (c : Option Connection) :
    (s.setConnection i c).downlinkFree = s.downlinkFree := rfl

/-! ### mapSlots -/

@[simp] theorem State.mapSlots_station (f : Nat → SlotRecord → SlotRecord) (k : Handle) :
    (s.mapSlots f).station k = s.station k := rfl
@[simp] theorem State.mapSlots_connection (f : Nat → SlotRecord → SlotRecord) (j : Index) :
    (s.mapSlots f).connection j = s.connection j := rfl
@[simp] theorem State.mapSlots_serial (f : Nat → SlotRecord → SlotRecord) (j : Index) :
    (s.mapSlots f).serial j = s.serial j := rfl
@[simp] theorem State.mapSlots_referenceOf (f : Nat → SlotRecord → SlotRecord) (j : Index) :
    (s.mapSlots f).referenceOf j = s.referenceOf j := rfl
@[simp] theorem State.mapSlots_assembly (f : Nat → SlotRecord → SlotRecord) (k : Handle) :
    (s.mapSlots f).assembly k = s.assembly k := rfl
@[simp] theorem State.mapSlots_classPolicy (f : Nat → SlotRecord → SlotRecord) (k : ClassNo) :
    (s.mapSlots f).classPolicy k = s.classPolicy k := rfl
@[simp] theorem State.mapSlots_lookup (f : Nat → SlotRecord → SlotRecord) (a : StationNumber) :
    (s.mapSlots f).lookup a = s.lookup a := rfl
@[simp] theorem State.mapSlots_numberOf (f : Nat → SlotRecord → SlotRecord) (k : Handle) :
    (s.mapSlots f).numberOf k = s.numberOf k := rfl
@[simp] theorem State.mapSlots_freeHandle (f : Nat → SlotRecord → SlotRecord) :
    (s.mapSlots f).freeHandle = s.freeHandle := rfl
@[simp] theorem State.mapSlots_dropHolder (f : Nat → SlotRecord → SlotRecord) (d : Drop) :
    (s.mapSlots f).dropHolder d = s.dropHolder d := rfl
@[simp] theorem State.mapSlots_downstream (f : Nat → SlotRecord → SlotRecord) (k : Handle) :
    (s.mapSlots f).downstream k = s.downstream k := rfl
@[simp] theorem State.mapSlots_onDrop (f : Nat → SlotRecord → SlotRecord) (d : Drop) :
    (s.mapSlots f).onDrop d = s.onDrop d := rfl
@[simp] theorem State.mapSlots_inUse (f : Nat → SlotRecord → SlotRecord) :
    (s.mapSlots f).inUse = s.inUse := rfl
@[simp] theorem State.mapSlots_usage (f : Nat → SlotRecord → SlotRecord) (k : Handle) :
    (s.mapSlots f).usage k = s.usage k := rfl
@[simp] theorem State.mapSlots_partyCount (f : Nat → SlotRecord → SlotRecord) (k : Handle) :
    (s.mapSlots f).partyCount k = s.partyCount k := rfl
@[simp] theorem State.mapSlots_unusedIndex (f : Nat → SlotRecord → SlotRecord) :
    (s.mapSlots f).unusedIndex = s.unusedIndex := rfl
@[simp] theorem State.mapSlots_tableEmpty (f : Nat → SlotRecord → SlotRecord) :
    (s.mapSlots f).tableEmpty = s.tableEmpty := rfl
@[simp] theorem State.mapSlots_entryOf (f : Nat → SlotRecord → SlotRecord) (k : Handle) :
    (s.mapSlots f).entryOf k = s.entryOf k := rfl
@[simp] theorem State.mapSlots_listed (f : Nat → SlotRecord → SlotRecord) (a : StationNumber) :
    (s.mapSlots f).listed a = s.listed a := rfl
@[simp] theorem State.mapSlots_countdownOf (f : Nat → SlotRecord → SlotRecord) (n : Nat) :
    (s.mapSlots f).countdownOf n = s.countdownOf n := rfl
@[simp] theorem State.mapSlots_downlinkFree (f : Nat → SlotRecord → SlotRecord) :
    (s.mapSlots f).downlinkFree = s.downlinkFree := rfl
@[simp] theorem State.mapSlots_touching (f : Nat → SlotRecord → SlotRecord) (set : List Handle) :
    (s.mapSlots f).touching set = s.touching set := rfl

/-! ### setAssembly -/

@[simp] theorem State.setAssembly_station (h : Handle) (a : Option Assembly) (k : Handle) :
    (s.setAssembly h a).station k = s.station k := rfl
@[simp] theorem State.setAssembly_connection (h : Handle) (a : Option Assembly) (j : Index) :
    (s.setAssembly h a).connection j = s.connection j := rfl
@[simp] theorem State.setAssembly_serial (h : Handle) (a : Option Assembly) (j : Index) :
    (s.setAssembly h a).serial j = s.serial j := rfl
@[simp] theorem State.setAssembly_referenceOf (h : Handle) (a : Option Assembly) (j : Index) :
    (s.setAssembly h a).referenceOf j = s.referenceOf j := rfl
@[simp] theorem State.setAssembly_slot (h : Handle) (a : Option Assembly) (k : Nat) :
    (s.setAssembly h a).slot k = s.slot k := rfl
@[simp] theorem State.setAssembly_slotFree (h : Handle) (a : Option Assembly) (k : Nat) :
    (s.setAssembly h a).slotFree k = s.slotFree k := rfl
@[simp] theorem State.setAssembly_freeSlots (h : Handle) (a : Option Assembly) :
    (s.setAssembly h a).freeSlots = s.freeSlots := rfl
@[simp] theorem State.setAssembly_searchSlots (h : Handle) (a : Option Assembly) (b : Bool) (w : Nat) :
    (s.setAssembly h a).searchSlots b w = s.searchSlots b w := rfl
@[simp] theorem State.setAssembly_classPolicy (h : Handle) (a : Option Assembly) (k : ClassNo) :
    (s.setAssembly h a).classPolicy k = s.classPolicy k := rfl
@[simp] theorem State.setAssembly_lookup (h : Handle) (a : Option Assembly) (aa : StationNumber) :
    (s.setAssembly h a).lookup aa = s.lookup aa := rfl
@[simp] theorem State.setAssembly_numberOf (h : Handle) (a : Option Assembly) (k : Handle) :
    (s.setAssembly h a).numberOf k = s.numberOf k := rfl
@[simp] theorem State.setAssembly_freeHandle (h : Handle) (a : Option Assembly) :
    (s.setAssembly h a).freeHandle = s.freeHandle := rfl
@[simp] theorem State.setAssembly_dropHolder (h : Handle) (a : Option Assembly) (d : Drop) :
    (s.setAssembly h a).dropHolder d = s.dropHolder d := rfl
@[simp] theorem State.setAssembly_downstream (h : Handle) (a : Option Assembly) (k : Handle) :
    (s.setAssembly h a).downstream k = s.downstream k := rfl
@[simp] theorem State.setAssembly_onDrop (h : Handle) (a : Option Assembly) (d : Drop) :
    (s.setAssembly h a).onDrop d = s.onDrop d := rfl
@[simp] theorem State.setAssembly_inUse (h : Handle) (a : Option Assembly) :
    (s.setAssembly h a).inUse = s.inUse := rfl
@[simp] theorem State.setAssembly_usage (h : Handle) (a : Option Assembly) (k : Handle) :
    (s.setAssembly h a).usage k = s.usage k := rfl
@[simp] theorem State.setAssembly_partyCount (h : Handle) (a : Option Assembly) (k : Handle) :
    (s.setAssembly h a).partyCount k = s.partyCount k := rfl
@[simp] theorem State.setAssembly_unusedIndex (h : Handle) (a : Option Assembly) :
    (s.setAssembly h a).unusedIndex = s.unusedIndex := rfl
@[simp] theorem State.setAssembly_tableEmpty (h : Handle) (a : Option Assembly) :
    (s.setAssembly h a).tableEmpty = s.tableEmpty := rfl
@[simp] theorem State.setAssembly_room (h : Handle) (a : Option Assembly) (b : Bool) (w : Nat) :
    (s.setAssembly h a).room b w = s.room b w := rfl
@[simp] theorem State.setAssembly_entryOf (h : Handle) (a : Option Assembly) (k : Handle) :
    (s.setAssembly h a).entryOf k = s.entryOf k := rfl
@[simp] theorem State.setAssembly_listed (h : Handle) (a : Option Assembly) (aa : StationNumber) :
    (s.setAssembly h a).listed aa = s.listed aa := rfl
@[simp] theorem State.setAssembly_countdownOf (h : Handle) (a : Option Assembly) (n : Nat) :
    (s.setAssembly h a).countdownOf n = s.countdownOf n := rfl
@[simp] theorem State.setAssembly_downlinkFree (h : Handle) (a : Option Assembly) :
    (s.setAssembly h a).downlinkFree = s.downlinkFree := rfl
@[simp] theorem State.setAssembly_touching (h : Handle) (a : Option Assembly) (set : List Handle) :
    (s.setAssembly h a).touching set = s.touching set := rfl

/-! ### bumpDirectory -/

@[simp] theorem State.bumpDirectory_station (n : Nat) (k : Handle) :
    (s.bumpDirectory n).station k = s.station k := rfl
@[simp] theorem State.bumpDirectory_connection (n : Nat) (j : Index) :
    (s.bumpDirectory n).connection j = s.connection j := rfl
@[simp] theorem State.bumpDirectory_serial (n : Nat) (j : Index) :
    (s.bumpDirectory n).serial j = s.serial j := rfl
@[simp] theorem State.bumpDirectory_referenceOf (n : Nat) (j : Index) :
    (s.bumpDirectory n).referenceOf j = s.referenceOf j := rfl
@[simp] theorem State.bumpDirectory_slot (n : Nat) (k : Nat) :
    (s.bumpDirectory n).slot k = s.slot k := rfl
@[simp] theorem State.bumpDirectory_slotFree (n : Nat) (k : Nat) :
    (s.bumpDirectory n).slotFree k = s.slotFree k := rfl
@[simp] theorem State.bumpDirectory_freeSlots (n : Nat) :
    (s.bumpDirectory n).freeSlots = s.freeSlots := rfl
@[simp] theorem State.bumpDirectory_searchSlots (n : Nat) (b : Bool) (w : Nat) :
    (s.bumpDirectory n).searchSlots b w = s.searchSlots b w := rfl
@[simp] theorem State.bumpDirectory_assembly (n : Nat) (k : Handle) :
    (s.bumpDirectory n).assembly k = s.assembly k := rfl
@[simp] theorem State.bumpDirectory_classPolicy (n : Nat) (k : ClassNo) :
    (s.bumpDirectory n).classPolicy k = s.classPolicy k := rfl
@[simp] theorem State.bumpDirectory_lookup (n : Nat) (a : StationNumber) :
    (s.bumpDirectory n).lookup a = s.lookup a := rfl
@[simp] theorem State.bumpDirectory_numberOf (n : Nat) (k : Handle) :
    (s.bumpDirectory n).numberOf k = s.numberOf k := rfl
@[simp] theorem State.bumpDirectory_freeHandle (n : Nat) :
    (s.bumpDirectory n).freeHandle = s.freeHandle := rfl
@[simp] theorem State.bumpDirectory_dropHolder (n : Nat) (d : Drop) :
    (s.bumpDirectory n).dropHolder d = s.dropHolder d := rfl
@[simp] theorem State.bumpDirectory_downstream (n : Nat) (k : Handle) :
    (s.bumpDirectory n).downstream k = s.downstream k := rfl
@[simp] theorem State.bumpDirectory_onDrop (n : Nat) (d : Drop) :
    (s.bumpDirectory n).onDrop d = s.onDrop d := rfl
@[simp] theorem State.bumpDirectory_inUse (n : Nat) :
    (s.bumpDirectory n).inUse = s.inUse := rfl
@[simp] theorem State.bumpDirectory_usage (n : Nat) (k : Handle) :
    (s.bumpDirectory n).usage k = s.usage k := rfl
@[simp] theorem State.bumpDirectory_partyCount (n : Nat) (k : Handle) :
    (s.bumpDirectory n).partyCount k = s.partyCount k := rfl
@[simp] theorem State.bumpDirectory_unusedIndex (n : Nat) :
    (s.bumpDirectory n).unusedIndex = s.unusedIndex := rfl
@[simp] theorem State.bumpDirectory_tableEmpty (n : Nat) :
    (s.bumpDirectory n).tableEmpty = s.tableEmpty := rfl
@[simp] theorem State.bumpDirectory_room (n : Nat) (b : Bool) (w : Nat) :
    (s.bumpDirectory n).room b w = s.room b w := rfl
@[simp] theorem State.bumpDirectory_entryOf (n : Nat) (k : Handle) :
    (s.bumpDirectory n).entryOf k = s.entryOf k := rfl
@[simp] theorem State.bumpDirectory_listed (n : Nat) (a : StationNumber) :
    (s.bumpDirectory n).listed a = s.listed a := rfl
@[simp] theorem State.bumpDirectory_countdownOf (n : Nat) (nn : Nat) :
    (s.bumpDirectory n).countdownOf nn = s.countdownOf nn := rfl
@[simp] theorem State.bumpDirectory_downlinkFree (n : Nat) :
    (s.bumpDirectory n).downlinkFree = s.downlinkFree := rfl
@[simp] theorem State.bumpDirectory_touching (n : Nat) (set : List Handle) :
    (s.bumpDirectory n).touching set = s.touching set := rfl

/-! ### bumpConnections -/

@[simp] theorem State.bumpConnections_station (n : Nat) (k : Handle) :
    (s.bumpConnections n).station k = s.station k := rfl
@[simp] theorem State.bumpConnections_connection (n : Nat) (j : Index) :
    (s.bumpConnections n).connection j = s.connection j := rfl
@[simp] theorem State.bumpConnections_serial (n : Nat) (j : Index) :
    (s.bumpConnections n).serial j = s.serial j := rfl
@[simp] theorem State.bumpConnections_referenceOf (n : Nat) (j : Index) :
    (s.bumpConnections n).referenceOf j = s.referenceOf j := rfl
@[simp] theorem State.bumpConnections_slot (n : Nat) (k : Nat) :
    (s.bumpConnections n).slot k = s.slot k := rfl
@[simp] theorem State.bumpConnections_slotFree (n : Nat) (k : Nat) :
    (s.bumpConnections n).slotFree k = s.slotFree k := rfl
@[simp] theorem State.bumpConnections_freeSlots (n : Nat) :
    (s.bumpConnections n).freeSlots = s.freeSlots := rfl
@[simp] theorem State.bumpConnections_searchSlots (n : Nat) (b : Bool) (w : Nat) :
    (s.bumpConnections n).searchSlots b w = s.searchSlots b w := rfl
@[simp] theorem State.bumpConnections_assembly (n : Nat) (k : Handle) :
    (s.bumpConnections n).assembly k = s.assembly k := rfl
@[simp] theorem State.bumpConnections_classPolicy (n : Nat) (k : ClassNo) :
    (s.bumpConnections n).classPolicy k = s.classPolicy k := rfl
@[simp] theorem State.bumpConnections_lookup (n : Nat) (a : StationNumber) :
    (s.bumpConnections n).lookup a = s.lookup a := rfl
@[simp] theorem State.bumpConnections_numberOf (n : Nat) (k : Handle) :
    (s.bumpConnections n).numberOf k = s.numberOf k := rfl
@[simp] theorem State.bumpConnections_freeHandle (n : Nat) :
    (s.bumpConnections n).freeHandle = s.freeHandle := rfl
@[simp] theorem State.bumpConnections_dropHolder (n : Nat) (d : Drop) :
    (s.bumpConnections n).dropHolder d = s.dropHolder d := rfl
@[simp] theorem State.bumpConnections_downstream (n : Nat) (k : Handle) :
    (s.bumpConnections n).downstream k = s.downstream k := rfl
@[simp] theorem State.bumpConnections_onDrop (n : Nat) (d : Drop) :
    (s.bumpConnections n).onDrop d = s.onDrop d := rfl
@[simp] theorem State.bumpConnections_inUse (n : Nat) :
    (s.bumpConnections n).inUse = s.inUse := rfl
@[simp] theorem State.bumpConnections_usage (n : Nat) (k : Handle) :
    (s.bumpConnections n).usage k = s.usage k := rfl
@[simp] theorem State.bumpConnections_partyCount (n : Nat) (k : Handle) :
    (s.bumpConnections n).partyCount k = s.partyCount k := rfl
@[simp] theorem State.bumpConnections_unusedIndex (n : Nat) :
    (s.bumpConnections n).unusedIndex = s.unusedIndex := rfl
@[simp] theorem State.bumpConnections_tableEmpty (n : Nat) :
    (s.bumpConnections n).tableEmpty = s.tableEmpty := rfl
@[simp] theorem State.bumpConnections_room (n : Nat) (b : Bool) (w : Nat) :
    (s.bumpConnections n).room b w = s.room b w := rfl
@[simp] theorem State.bumpConnections_entryOf (n : Nat) (k : Handle) :
    (s.bumpConnections n).entryOf k = s.entryOf k := rfl
@[simp] theorem State.bumpConnections_listed (n : Nat) (a : StationNumber) :
    (s.bumpConnections n).listed a = s.listed a := rfl
@[simp] theorem State.bumpConnections_countdownOf (n : Nat) (nn : Nat) :
    (s.bumpConnections n).countdownOf nn = s.countdownOf nn := rfl
@[simp] theorem State.bumpConnections_downlinkFree (n : Nat) :
    (s.bumpConnections n).downlinkFree = s.downlinkFree := rfl
@[simp] theorem State.bumpConnections_touching (n : Nat) (set : List Handle) :
    (s.bumpConnections n).touching set = s.touching set := rfl

/-! ### createConnection -/

@[simp] theorem State.createConnection_station (i : Index) (c : Connection) (k : Handle) :
    (s.createConnection i c).station k = s.station k := rfl
@[simp] theorem State.createConnection_slot (i : Index) (c : Connection) (k : Nat) :
    (s.createConnection i c).slot k = s.slot k := rfl
@[simp] theorem State.createConnection_slotFree (i : Index) (c : Connection) (k : Nat) :
    (s.createConnection i c).slotFree k = s.slotFree k := rfl
@[simp] theorem State.createConnection_freeSlots (i : Index) (c : Connection) :
    (s.createConnection i c).freeSlots = s.freeSlots := rfl
@[simp] theorem State.createConnection_searchSlots (i : Index) (c : Connection) (b : Bool) (w : Nat) :
    (s.createConnection i c).searchSlots b w = s.searchSlots b w := rfl
@[simp] theorem State.createConnection_assembly (i : Index) (c : Connection) (k : Handle) :
    (s.createConnection i c).assembly k = s.assembly k := rfl
@[simp] theorem State.createConnection_classPolicy (i : Index) (c : Connection) (k : ClassNo) :
    (s.createConnection i c).classPolicy k = s.classPolicy k := rfl
@[simp] theorem State.createConnection_lookup (i : Index) (c : Connection) (a : StationNumber) :
    (s.createConnection i c).lookup a = s.lookup a := rfl
@[simp] theorem State.createConnection_numberOf (i : Index) (c : Connection) (k : Handle) :
    (s.createConnection i c).numberOf k = s.numberOf k := rfl
@[simp] theorem State.createConnection_freeHandle (i : Index) (c : Connection) :
    (s.createConnection i c).freeHandle = s.freeHandle := rfl
@[simp] theorem State.createConnection_dropHolder (i : Index) (c : Connection) (d : Drop) :
    (s.createConnection i c).dropHolder d = s.dropHolder d := rfl
@[simp] theorem State.createConnection_downstream (i : Index) (c : Connection) (k : Handle) :
    (s.createConnection i c).downstream k = s.downstream k := rfl
@[simp] theorem State.createConnection_onDrop (i : Index) (c : Connection) (d : Drop) :
    (s.createConnection i c).onDrop d = s.onDrop d := rfl
@[simp] theorem State.createConnection_entryOf (i : Index) (c : Connection) (k : Handle) :
    (s.createConnection i c).entryOf k = s.entryOf k := rfl
@[simp] theorem State.createConnection_listed (i : Index) (c : Connection) (a : StationNumber) :
    (s.createConnection i c).listed a = s.listed a := rfl
@[simp] theorem State.createConnection_countdownOf (i : Index) (c : Connection) (n : Nat) :
    (s.createConnection i c).countdownOf n = s.countdownOf n := rfl
@[simp] theorem State.createConnection_downlinkFree (i : Index) (c : Connection) :
    (s.createConnection i c).downlinkFree = s.downlinkFree := rfl

/-! ### forgetConnection -/

@[simp] theorem State.forgetConnection_station (i : Index) (k : Handle) :
    (s.forgetConnection i).station k = s.station k := rfl
@[simp] theorem State.forgetConnection_serial (i : Index) (j : Index) :
    (s.forgetConnection i).serial j = s.serial j := rfl
@[simp] theorem State.forgetConnection_referenceOf (i : Index) (j : Index) :
    (s.forgetConnection i).referenceOf j = s.referenceOf j := rfl
@[simp] theorem State.forgetConnection_slot (i : Index) (k : Nat) :
    (s.forgetConnection i).slot k = s.slot k := rfl
@[simp] theorem State.forgetConnection_slotFree (i : Index) (k : Nat) :
    (s.forgetConnection i).slotFree k = s.slotFree k := rfl
@[simp] theorem State.forgetConnection_freeSlots (i : Index) :
    (s.forgetConnection i).freeSlots = s.freeSlots := rfl
@[simp] theorem State.forgetConnection_searchSlots (i : Index) (b : Bool) (w : Nat) :
    (s.forgetConnection i).searchSlots b w = s.searchSlots b w := rfl
@[simp] theorem State.forgetConnection_assembly (i : Index) (k : Handle) :
    (s.forgetConnection i).assembly k = s.assembly k := rfl
@[simp] theorem State.forgetConnection_classPolicy (i : Index) (k : ClassNo) :
    (s.forgetConnection i).classPolicy k = s.classPolicy k := rfl
@[simp] theorem State.forgetConnection_lookup (i : Index) (a : StationNumber) :
    (s.forgetConnection i).lookup a = s.lookup a := rfl
@[simp] theorem State.forgetConnection_numberOf (i : Index) (k : Handle) :
    (s.forgetConnection i).numberOf k = s.numberOf k := rfl
@[simp] theorem State.forgetConnection_freeHandle (i : Index) :
    (s.forgetConnection i).freeHandle = s.freeHandle := rfl
@[simp] theorem State.forgetConnection_dropHolder (i : Index) (d : Drop) :
    (s.forgetConnection i).dropHolder d = s.dropHolder d := rfl
@[simp] theorem State.forgetConnection_downstream (i : Index) (k : Handle) :
    (s.forgetConnection i).downstream k = s.downstream k := rfl
@[simp] theorem State.forgetConnection_onDrop (i : Index) (d : Drop) :
    (s.forgetConnection i).onDrop d = s.onDrop d := rfl
@[simp] theorem State.forgetConnection_entryOf (i : Index) (k : Handle) :
    (s.forgetConnection i).entryOf k = s.entryOf k := rfl
@[simp] theorem State.forgetConnection_listed (i : Index) (a : StationNumber) :
    (s.forgetConnection i).listed a = s.listed a := rfl
@[simp] theorem State.forgetConnection_countdownOf (i : Index) (n : Nat) :
    (s.forgetConnection i).countdownOf n = s.countdownOf n := rfl
@[simp] theorem State.forgetConnection_downlinkFree (i : Index) :
    (s.forgetConnection i).downlinkFree = s.downlinkFree := rfl

/-! ### deleteStation -/

@[simp] theorem State.deleteStation_connection (h : Handle) (j : Index) :
    (s.deleteStation h).connection j = s.connection j := rfl
@[simp] theorem State.deleteStation_serial (h : Handle) (j : Index) :
    (s.deleteStation h).serial j = s.serial j := rfl
@[simp] theorem State.deleteStation_referenceOf (h : Handle) (j : Index) :
    (s.deleteStation h).referenceOf j = s.referenceOf j := rfl
@[simp] theorem State.deleteStation_slot (h : Handle) (k : Nat) :
    (s.deleteStation h).slot k = s.slot k := rfl
@[simp] theorem State.deleteStation_slotFree (h : Handle) (k : Nat) :
    (s.deleteStation h).slotFree k = s.slotFree k := rfl
@[simp] theorem State.deleteStation_freeSlots (h : Handle) :
    (s.deleteStation h).freeSlots = s.freeSlots := rfl
@[simp] theorem State.deleteStation_searchSlots (h : Handle) (b : Bool) (w : Nat) :
    (s.deleteStation h).searchSlots b w = s.searchSlots b w := rfl
@[simp] theorem State.deleteStation_classPolicy (h : Handle) (k : ClassNo) :
    (s.deleteStation h).classPolicy k = s.classPolicy k := rfl
@[simp] theorem State.deleteStation_inUse (h : Handle) :
    (s.deleteStation h).inUse = s.inUse := rfl
@[simp] theorem State.deleteStation_usage (h : Handle) (k : Handle) :
    (s.deleteStation h).usage k = s.usage k := rfl
@[simp] theorem State.deleteStation_partyCount (h : Handle) (k : Handle) :
    (s.deleteStation h).partyCount k = s.partyCount k := rfl
@[simp] theorem State.deleteStation_unusedIndex (h : Handle) :
    (s.deleteStation h).unusedIndex = s.unusedIndex := rfl
@[simp] theorem State.deleteStation_tableEmpty (h : Handle) :
    (s.deleteStation h).tableEmpty = s.tableEmpty := rfl
@[simp] theorem State.deleteStation_room (h : Handle) (b : Bool) (w : Nat) :
    (s.deleteStation h).room b w = s.room b w := rfl
@[simp] theorem State.deleteStation_entryOf (h : Handle) (k : Handle) :
    (s.deleteStation h).entryOf k = s.entryOf k := rfl
@[simp] theorem State.deleteStation_listed (h : Handle) (a : StationNumber) :
    (s.deleteStation h).listed a = s.listed a := rfl
@[simp] theorem State.deleteStation_countdownOf (h : Handle) (n : Nat) :
    (s.deleteStation h).countdownOf n = s.countdownOf n := rfl
@[simp] theorem State.deleteStation_downlinkFree (h : Handle) :
    (s.deleteStation h).downlinkFree = s.downlinkFree := rfl
@[simp] theorem State.deleteStation_touching (h : Handle) (set : List Handle) :
    (s.deleteStation h).touching set = s.touching set := rfl

/-! ### hit -/

@[simp] theorem State.hit_station (n : StationNumber) (k : Handle) :
    (s.hit n).station k = s.station k := rfl
@[simp] theorem State.hit_connection (n : StationNumber) (j : Index) :
    (s.hit n).connection j = s.connection j := rfl
@[simp] theorem State.hit_serial (n : StationNumber) (j : Index) :
    (s.hit n).serial j = s.serial j := rfl
@[simp] theorem State.hit_referenceOf (n : StationNumber) (j : Index) :
    (s.hit n).referenceOf j = s.referenceOf j := rfl
@[simp] theorem State.hit_slot (n : StationNumber) (k : Nat) :
    (s.hit n).slot k = s.slot k := rfl
@[simp] theorem State.hit_slotFree (n : StationNumber) (k : Nat) :
    (s.hit n).slotFree k = s.slotFree k := rfl
@[simp] theorem State.hit_freeSlots (n : StationNumber) :
    (s.hit n).freeSlots = s.freeSlots := rfl
@[simp] theorem State.hit_searchSlots (n : StationNumber) (b : Bool) (w : Nat) :
    (s.hit n).searchSlots b w = s.searchSlots b w := rfl
@[simp] theorem State.hit_assembly (n : StationNumber) (k : Handle) :
    (s.hit n).assembly k = s.assembly k := rfl
@[simp] theorem State.hit_classPolicy (n : StationNumber) (k : ClassNo) :
    (s.hit n).classPolicy k = s.classPolicy k := rfl
@[simp] theorem State.hit_lookup (n : StationNumber) (a : StationNumber) :
    (s.hit n).lookup a = s.lookup a := rfl
@[simp] theorem State.hit_numberOf (n : StationNumber) (k : Handle) :
    (s.hit n).numberOf k = s.numberOf k := rfl
@[simp] theorem State.hit_freeHandle (n : StationNumber) :
    (s.hit n).freeHandle = s.freeHandle := rfl
@[simp] theorem State.hit_dropHolder (n : StationNumber) (d : Drop) :
    (s.hit n).dropHolder d = s.dropHolder d := rfl
@[simp] theorem State.hit_downstream (n : StationNumber) (k : Handle) :
    (s.hit n).downstream k = s.downstream k := rfl
@[simp] theorem State.hit_onDrop (n : StationNumber) (d : Drop) :
    (s.hit n).onDrop d = s.onDrop d := rfl
@[simp] theorem State.hit_inUse (n : StationNumber) :
    (s.hit n).inUse = s.inUse := rfl
@[simp] theorem State.hit_usage (n : StationNumber) (k : Handle) :
    (s.hit n).usage k = s.usage k := rfl
@[simp] theorem State.hit_partyCount (n : StationNumber) (k : Handle) :
    (s.hit n).partyCount k = s.partyCount k := rfl
@[simp] theorem State.hit_unusedIndex (n : StationNumber) :
    (s.hit n).unusedIndex = s.unusedIndex := rfl
@[simp] theorem State.hit_tableEmpty (n : StationNumber) :
    (s.hit n).tableEmpty = s.tableEmpty := rfl
@[simp] theorem State.hit_room (n : StationNumber) (b : Bool) (w : Nat) :
    (s.hit n).room b w = s.room b w := rfl
@[simp] theorem State.hit_entryOf (n : StationNumber) (k : Handle) :
    (s.hit n).entryOf k = s.entryOf k := rfl
@[simp] theorem State.hit_countdownOf (n : StationNumber) (nn : Nat) :
    (s.hit n).countdownOf nn = s.countdownOf nn := rfl
@[simp] theorem State.hit_downlinkFree (n : StationNumber) :
    (s.hit n).downlinkFree = s.downlinkFree := rfl
@[simp] theorem State.hit_touching (n : StationNumber) (set : List Handle) :
    (s.hit n).touching set = s.touching set := rfl

/-! ### enqueue -/

@[simp] theorem State.enqueue_station (m : DownMessage) (k : Handle) :
    (s.enqueue m).station k = s.station k := rfl
@[simp] theorem State.enqueue_connection (m : DownMessage) (j : Index) :
    (s.enqueue m).connection j = s.connection j := rfl
@[simp] theorem State.enqueue_serial (m : DownMessage) (j : Index) :
    (s.enqueue m).serial j = s.serial j := rfl
@[simp] theorem State.enqueue_referenceOf (m : DownMessage) (j : Index) :
    (s.enqueue m).referenceOf j = s.referenceOf j := rfl
@[simp] theorem State.enqueue_slot (m : DownMessage) (k : Nat) :
    (s.enqueue m).slot k = s.slot k := rfl
@[simp] theorem State.enqueue_slotFree (m : DownMessage) (k : Nat) :
    (s.enqueue m).slotFree k = s.slotFree k := rfl
@[simp] theorem State.enqueue_freeSlots (m : DownMessage) :
    (s.enqueue m).freeSlots = s.freeSlots := rfl
@[simp] theorem State.enqueue_searchSlots (m : DownMessage) (b : Bool) (w : Nat) :
    (s.enqueue m).searchSlots b w = s.searchSlots b w := rfl
@[simp] theorem State.enqueue_assembly (m : DownMessage) (k : Handle) :
    (s.enqueue m).assembly k = s.assembly k := rfl
@[simp] theorem State.enqueue_classPolicy (m : DownMessage) (k : ClassNo) :
    (s.enqueue m).classPolicy k = s.classPolicy k := rfl
@[simp] theorem State.enqueue_lookup (m : DownMessage) (a : StationNumber) :
    (s.enqueue m).lookup a = s.lookup a := rfl
@[simp] theorem State.enqueue_numberOf (m : DownMessage) (k : Handle) :
    (s.enqueue m).numberOf k = s.numberOf k := rfl
@[simp] theorem State.enqueue_freeHandle (m : DownMessage) :
    (s.enqueue m).freeHandle = s.freeHandle := rfl
@[simp] theorem State.enqueue_dropHolder (m : DownMessage) (d : Drop) :
    (s.enqueue m).dropHolder d = s.dropHolder d := rfl
@[simp] theorem State.enqueue_downstream (m : DownMessage) (k : Handle) :
    (s.enqueue m).downstream k = s.downstream k := rfl
@[simp] theorem State.enqueue_onDrop (m : DownMessage) (d : Drop) :
    (s.enqueue m).onDrop d = s.onDrop d := rfl
@[simp] theorem State.enqueue_inUse (m : DownMessage) :
    (s.enqueue m).inUse = s.inUse := rfl
@[simp] theorem State.enqueue_usage (m : DownMessage) (k : Handle) :
    (s.enqueue m).usage k = s.usage k := rfl
@[simp] theorem State.enqueue_partyCount (m : DownMessage) (k : Handle) :
    (s.enqueue m).partyCount k = s.partyCount k := rfl
@[simp] theorem State.enqueue_unusedIndex (m : DownMessage) :
    (s.enqueue m).unusedIndex = s.unusedIndex := rfl
@[simp] theorem State.enqueue_tableEmpty (m : DownMessage) :
    (s.enqueue m).tableEmpty = s.tableEmpty := rfl
@[simp] theorem State.enqueue_room (m : DownMessage) (b : Bool) (w : Nat) :
    (s.enqueue m).room b w = s.room b w := rfl
@[simp] theorem State.enqueue_entryOf (m : DownMessage) (k : Handle) :
    (s.enqueue m).entryOf k = s.entryOf k := rfl
@[simp] theorem State.enqueue_listed (m : DownMessage) (a : StationNumber) :
    (s.enqueue m).listed a = s.listed a := rfl
@[simp] theorem State.enqueue_countdownOf (m : DownMessage) (n : Nat) :
    (s.enqueue m).countdownOf n = s.countdownOf n := rfl
@[simp] theorem State.enqueue_touching (m : DownMessage) (set : List Handle) :
    (s.enqueue m).touching set = s.touching set := rfl

/-! ### removeEntry -/

@[simp] theorem State.removeEntry_station (e : Entry) (k : Handle) :
    (s.removeEntry e).station k = s.station k := rfl
@[simp] theorem State.removeEntry_connection (e : Entry) (j : Index) :
    (s.removeEntry e).connection j = s.connection j := rfl
@[simp] theorem State.removeEntry_serial (e : Entry) (j : Index) :
    (s.removeEntry e).serial j = s.serial j := rfl
@[simp] theorem State.removeEntry_referenceOf (e : Entry) (j : Index) :
    (s.removeEntry e).referenceOf j = s.referenceOf j := rfl
@[simp] theorem State.removeEntry_slot (e : Entry) (k : Nat) :
    (s.removeEntry e).slot k = s.slot k := rfl
@[simp] theorem State.removeEntry_slotFree (e : Entry) (k : Nat) :
    (s.removeEntry e).slotFree k = s.slotFree k := rfl
@[simp] theorem State.removeEntry_freeSlots (e : Entry) :
    (s.removeEntry e).freeSlots = s.freeSlots := rfl
@[simp] theorem State.removeEntry_searchSlots (e : Entry) (b : Bool) (w : Nat) :
    (s.removeEntry e).searchSlots b w = s.searchSlots b w := rfl
@[simp] theorem State.removeEntry_assembly (e : Entry) (k : Handle) :
    (s.removeEntry e).assembly k = s.assembly k := rfl
@[simp] theorem State.removeEntry_classPolicy (e : Entry) (k : ClassNo) :
    (s.removeEntry e).classPolicy k = s.classPolicy k := rfl
@[simp] theorem State.removeEntry_lookup (e : Entry) (a : StationNumber) :
    (s.removeEntry e).lookup a = s.lookup a := rfl
@[simp] theorem State.removeEntry_numberOf (e : Entry) (k : Handle) :
    (s.removeEntry e).numberOf k = s.numberOf k := rfl
@[simp] theorem State.removeEntry_freeHandle (e : Entry) :
    (s.removeEntry e).freeHandle = s.freeHandle := rfl
@[simp] theorem State.removeEntry_dropHolder (e : Entry) (d : Drop) :
    (s.removeEntry e).dropHolder d = s.dropHolder d := rfl
@[simp] theorem State.removeEntry_downstream (e : Entry) (k : Handle) :
    (s.removeEntry e).downstream k = s.downstream k := rfl
@[simp] theorem State.removeEntry_onDrop (e : Entry) (d : Drop) :
    (s.removeEntry e).onDrop d = s.onDrop d := rfl
@[simp] theorem State.removeEntry_inUse (e : Entry) :
    (s.removeEntry e).inUse = s.inUse := rfl
@[simp] theorem State.removeEntry_usage (e : Entry) (k : Handle) :
    (s.removeEntry e).usage k = s.usage k := rfl
@[simp] theorem State.removeEntry_partyCount (e : Entry) (k : Handle) :
    (s.removeEntry e).partyCount k = s.partyCount k := rfl
@[simp] theorem State.removeEntry_unusedIndex (e : Entry) :
    (s.removeEntry e).unusedIndex = s.unusedIndex := rfl
@[simp] theorem State.removeEntry_tableEmpty (e : Entry) :
    (s.removeEntry e).tableEmpty = s.tableEmpty := rfl
@[simp] theorem State.removeEntry_room (e : Entry) (b : Bool) (w : Nat) :
    (s.removeEntry e).room b w = s.room b w := rfl
@[simp] theorem State.removeEntry_listed (e : Entry) (a : StationNumber) :
    (s.removeEntry e).listed a = s.listed a := rfl
@[simp] theorem State.removeEntry_countdownOf (e : Entry) (n : Nat) :
    (s.removeEntry e).countdownOf n = s.countdownOf n := rfl
@[simp] theorem State.removeEntry_downlinkFree (e : Entry) :
    (s.removeEntry e).downlinkFree = s.downlinkFree := rfl
@[simp] theorem State.removeEntry_touching (e : Entry) (set : List Handle) :
    (s.removeEntry e).touching set = s.touching set := rfl

/-! ### writeEnables -/

@[simp] theorem State.writeEnables_station (high : Bool) (value : Byte) (k : Handle) :
    (s.writeEnables high value).station k = s.station k := rfl
@[simp] theorem State.writeEnables_connection (high : Bool) (value : Byte) (j : Index) :
    (s.writeEnables high value).connection j = s.connection j := rfl
@[simp] theorem State.writeEnables_serial (high : Bool) (value : Byte) (j : Index) :
    (s.writeEnables high value).serial j = s.serial j := rfl
@[simp] theorem State.writeEnables_referenceOf (high : Bool) (value : Byte) (j : Index) :
    (s.writeEnables high value).referenceOf j = s.referenceOf j := rfl
@[simp] theorem State.writeEnables_slot (high : Bool) (value : Byte) (k : Nat) :
    (s.writeEnables high value).slot k = s.slot k := rfl
@[simp] theorem State.writeEnables_slotFree (high : Bool) (value : Byte) (k : Nat) :
    (s.writeEnables high value).slotFree k = s.slotFree k := rfl
@[simp] theorem State.writeEnables_freeSlots (high : Bool) (value : Byte) :
    (s.writeEnables high value).freeSlots = s.freeSlots := rfl
@[simp] theorem State.writeEnables_searchSlots (high : Bool) (value : Byte) (b : Bool) (w : Nat) :
    (s.writeEnables high value).searchSlots b w = s.searchSlots b w := rfl
@[simp] theorem State.writeEnables_assembly (high : Bool) (value : Byte) (k : Handle) :
    (s.writeEnables high value).assembly k = s.assembly k := rfl
@[simp] theorem State.writeEnables_classPolicy (high : Bool) (value : Byte) (k : ClassNo) :
    (s.writeEnables high value).classPolicy k = s.classPolicy k := rfl
@[simp] theorem State.writeEnables_lookup (high : Bool) (value : Byte) (a : StationNumber) :
    (s.writeEnables high value).lookup a = s.lookup a := rfl
@[simp] theorem State.writeEnables_numberOf (high : Bool) (value : Byte) (k : Handle) :
    (s.writeEnables high value).numberOf k = s.numberOf k := rfl
@[simp] theorem State.writeEnables_freeHandle (high : Bool) (value : Byte) :
    (s.writeEnables high value).freeHandle = s.freeHandle := rfl
@[simp] theorem State.writeEnables_dropHolder (high : Bool) (value : Byte) (d : Drop) :
    (s.writeEnables high value).dropHolder d = s.dropHolder d := rfl
@[simp] theorem State.writeEnables_downstream (high : Bool) (value : Byte) (k : Handle) :
    (s.writeEnables high value).downstream k = s.downstream k := rfl
@[simp] theorem State.writeEnables_onDrop (high : Bool) (value : Byte) (d : Drop) :
    (s.writeEnables high value).onDrop d = s.onDrop d := rfl
@[simp] theorem State.writeEnables_inUse (high : Bool) (value : Byte) :
    (s.writeEnables high value).inUse = s.inUse := rfl
@[simp] theorem State.writeEnables_usage (high : Bool) (value : Byte) (k : Handle) :
    (s.writeEnables high value).usage k = s.usage k := rfl
@[simp] theorem State.writeEnables_partyCount (high : Bool) (value : Byte) (k : Handle) :
    (s.writeEnables high value).partyCount k = s.partyCount k := rfl
@[simp] theorem State.writeEnables_unusedIndex (high : Bool) (value : Byte) :
    (s.writeEnables high value).unusedIndex = s.unusedIndex := rfl
@[simp] theorem State.writeEnables_tableEmpty (high : Bool) (value : Byte) :
    (s.writeEnables high value).tableEmpty = s.tableEmpty := rfl
@[simp] theorem State.writeEnables_room (high : Bool) (value : Byte) (b : Bool) (w : Nat) :
    (s.writeEnables high value).room b w = s.room b w := rfl
@[simp] theorem State.writeEnables_entryOf (high : Bool) (value : Byte) (k : Handle) :
    (s.writeEnables high value).entryOf k = s.entryOf k := rfl
@[simp] theorem State.writeEnables_listed (high : Bool) (value : Byte) (a : StationNumber) :
    (s.writeEnables high value).listed a = s.listed a := rfl
@[simp] theorem State.writeEnables_countdownOf (high : Bool) (value : Byte) (n : Nat) :
    (s.writeEnables high value).countdownOf n = s.countdownOf n := rfl
@[simp] theorem State.writeEnables_downlinkFree (high : Bool) (value : Byte) :
    (s.writeEnables high value).downlinkFree = s.downlinkFree := rfl
@[simp] theorem State.writeEnables_touching (high : Bool) (value : Byte) (set : List Handle) :
    (s.writeEnables high value).touching set = s.touching set := rfl

/-! ### latch -/

@[simp] theorem State.latch_station (code : Byte) (k : Handle) :
    (s.latch code).station k = s.station k := rfl
@[simp] theorem State.latch_connection (code : Byte) (j : Index) :
    (s.latch code).connection j = s.connection j := rfl
@[simp] theorem State.latch_serial (code : Byte) (j : Index) :
    (s.latch code).serial j = s.serial j := rfl
@[simp] theorem State.latch_referenceOf (code : Byte) (j : Index) :
    (s.latch code).referenceOf j = s.referenceOf j := rfl
@[simp] theorem State.latch_slot (code : Byte) (k : Nat) :
    (s.latch code).slot k = s.slot k := rfl
@[simp] theorem State.latch_slotFree (code : Byte) (k : Nat) :
    (s.latch code).slotFree k = s.slotFree k := rfl
@[simp] theorem State.latch_freeSlots (code : Byte) :
    (s.latch code).freeSlots = s.freeSlots := rfl
@[simp] theorem State.latch_searchSlots (code : Byte) (b : Bool) (w : Nat) :
    (s.latch code).searchSlots b w = s.searchSlots b w := rfl
@[simp] theorem State.latch_assembly (code : Byte) (k : Handle) :
    (s.latch code).assembly k = s.assembly k := rfl
@[simp] theorem State.latch_classPolicy (code : Byte) (k : ClassNo) :
    (s.latch code).classPolicy k = s.classPolicy k := rfl
@[simp] theorem State.latch_lookup (code : Byte) (a : StationNumber) :
    (s.latch code).lookup a = s.lookup a := rfl
@[simp] theorem State.latch_numberOf (code : Byte) (k : Handle) :
    (s.latch code).numberOf k = s.numberOf k := rfl
@[simp] theorem State.latch_freeHandle (code : Byte) :
    (s.latch code).freeHandle = s.freeHandle := rfl
@[simp] theorem State.latch_dropHolder (code : Byte) (d : Drop) :
    (s.latch code).dropHolder d = s.dropHolder d := rfl
@[simp] theorem State.latch_downstream (code : Byte) (k : Handle) :
    (s.latch code).downstream k = s.downstream k := rfl
@[simp] theorem State.latch_onDrop (code : Byte) (d : Drop) :
    (s.latch code).onDrop d = s.onDrop d := rfl
@[simp] theorem State.latch_inUse (code : Byte) :
    (s.latch code).inUse = s.inUse := rfl
@[simp] theorem State.latch_usage (code : Byte) (k : Handle) :
    (s.latch code).usage k = s.usage k := rfl
@[simp] theorem State.latch_partyCount (code : Byte) (k : Handle) :
    (s.latch code).partyCount k = s.partyCount k := rfl
@[simp] theorem State.latch_unusedIndex (code : Byte) :
    (s.latch code).unusedIndex = s.unusedIndex := rfl
@[simp] theorem State.latch_tableEmpty (code : Byte) :
    (s.latch code).tableEmpty = s.tableEmpty := rfl
@[simp] theorem State.latch_room (code : Byte) (b : Bool) (w : Nat) :
    (s.latch code).room b w = s.room b w := rfl
@[simp] theorem State.latch_entryOf (code : Byte) (k : Handle) :
    (s.latch code).entryOf k = s.entryOf k := rfl
@[simp] theorem State.latch_listed (code : Byte) (a : StationNumber) :
    (s.latch code).listed a = s.listed a := rfl
@[simp] theorem State.latch_countdownOf (code : Byte) (n : Nat) :
    (s.latch code).countdownOf n = s.countdownOf n := rfl
@[simp] theorem State.latch_downlinkFree (code : Byte) :
    (s.latch code).downlinkFree = s.downlinkFree := rfl
@[simp] theorem State.latch_touching (code : Byte) (set : List Handle) :
    (s.latch code).touching set = s.touching set := rfl

/-! ### finished -/

@[simp] theorem State.finished_station (result : Result) (readout : List Byte) (k : Handle) :
    (s.finished result readout).station k = s.station k := rfl
@[simp] theorem State.finished_connection (result : Result) (readout : List Byte) (j : Index) :
    (s.finished result readout).connection j = s.connection j := rfl
@[simp] theorem State.finished_serial (result : Result) (readout : List Byte) (j : Index) :
    (s.finished result readout).serial j = s.serial j := rfl
@[simp] theorem State.finished_referenceOf (result : Result) (readout : List Byte) (j : Index) :
    (s.finished result readout).referenceOf j = s.referenceOf j := rfl
@[simp] theorem State.finished_slot (result : Result) (readout : List Byte) (k : Nat) :
    (s.finished result readout).slot k = s.slot k := rfl
@[simp] theorem State.finished_slotFree (result : Result) (readout : List Byte) (k : Nat) :
    (s.finished result readout).slotFree k = s.slotFree k := rfl
@[simp] theorem State.finished_freeSlots (result : Result) (readout : List Byte) :
    (s.finished result readout).freeSlots = s.freeSlots := rfl
@[simp] theorem State.finished_searchSlots (result : Result) (readout : List Byte) (b : Bool) (w : Nat) :
    (s.finished result readout).searchSlots b w = s.searchSlots b w := rfl
@[simp] theorem State.finished_assembly (result : Result) (readout : List Byte) (k : Handle) :
    (s.finished result readout).assembly k = s.assembly k := rfl
@[simp] theorem State.finished_classPolicy (result : Result) (readout : List Byte) (k : ClassNo) :
    (s.finished result readout).classPolicy k = s.classPolicy k := rfl
@[simp] theorem State.finished_lookup (result : Result) (readout : List Byte) (a : StationNumber) :
    (s.finished result readout).lookup a = s.lookup a := rfl
@[simp] theorem State.finished_numberOf (result : Result) (readout : List Byte) (k : Handle) :
    (s.finished result readout).numberOf k = s.numberOf k := rfl
@[simp] theorem State.finished_freeHandle (result : Result) (readout : List Byte) :
    (s.finished result readout).freeHandle = s.freeHandle := rfl
@[simp] theorem State.finished_dropHolder (result : Result) (readout : List Byte) (d : Drop) :
    (s.finished result readout).dropHolder d = s.dropHolder d := rfl
@[simp] theorem State.finished_downstream (result : Result) (readout : List Byte) (k : Handle) :
    (s.finished result readout).downstream k = s.downstream k := rfl
@[simp] theorem State.finished_onDrop (result : Result) (readout : List Byte) (d : Drop) :
    (s.finished result readout).onDrop d = s.onDrop d := rfl
@[simp] theorem State.finished_inUse (result : Result) (readout : List Byte) :
    (s.finished result readout).inUse = s.inUse := rfl
@[simp] theorem State.finished_usage (result : Result) (readout : List Byte) (k : Handle) :
    (s.finished result readout).usage k = s.usage k := rfl
@[simp] theorem State.finished_partyCount (result : Result) (readout : List Byte) (k : Handle) :
    (s.finished result readout).partyCount k = s.partyCount k := rfl
@[simp] theorem State.finished_unusedIndex (result : Result) (readout : List Byte) :
    (s.finished result readout).unusedIndex = s.unusedIndex := rfl
@[simp] theorem State.finished_tableEmpty (result : Result) (readout : List Byte) :
    (s.finished result readout).tableEmpty = s.tableEmpty := rfl
@[simp] theorem State.finished_room (result : Result) (readout : List Byte) (b : Bool) (w : Nat) :
    (s.finished result readout).room b w = s.room b w := rfl
@[simp] theorem State.finished_entryOf (result : Result) (readout : List Byte) (k : Handle) :
    (s.finished result readout).entryOf k = s.entryOf k := rfl
@[simp] theorem State.finished_listed (result : Result) (readout : List Byte) (a : StationNumber) :
    (s.finished result readout).listed a = s.listed a := rfl
@[simp] theorem State.finished_countdownOf (result : Result) (readout : List Byte) (n : Nat) :
    (s.finished result readout).countdownOf n = s.countdownOf n := rfl
@[simp] theorem State.finished_downlinkFree (result : Result) (readout : List Byte) :
    (s.finished result readout).downlinkFree = s.downlinkFree := rfl
@[simp] theorem State.finished_touching (result : Result) (readout : List Byte) (set : List Handle) :
    (s.finished result readout).touching set = s.touching set := rfl

/-! ### taking -/

@[simp] theorem State.taking_station (message : Instr) (k : Handle) :
    (s.taking message).station k = s.station k := rfl
@[simp] theorem State.taking_connection (message : Instr) (j : Index) :
    (s.taking message).connection j = s.connection j := rfl
@[simp] theorem State.taking_serial (message : Instr) (j : Index) :
    (s.taking message).serial j = s.serial j := rfl
@[simp] theorem State.taking_referenceOf (message : Instr) (j : Index) :
    (s.taking message).referenceOf j = s.referenceOf j := rfl
@[simp] theorem State.taking_slot (message : Instr) (k : Nat) :
    (s.taking message).slot k = s.slot k := rfl
@[simp] theorem State.taking_slotFree (message : Instr) (k : Nat) :
    (s.taking message).slotFree k = s.slotFree k := rfl
@[simp] theorem State.taking_freeSlots (message : Instr) :
    (s.taking message).freeSlots = s.freeSlots := rfl
@[simp] theorem State.taking_searchSlots (message : Instr) (b : Bool) (w : Nat) :
    (s.taking message).searchSlots b w = s.searchSlots b w := rfl
@[simp] theorem State.taking_assembly (message : Instr) (k : Handle) :
    (s.taking message).assembly k = s.assembly k := rfl
@[simp] theorem State.taking_classPolicy (message : Instr) (k : ClassNo) :
    (s.taking message).classPolicy k = s.classPolicy k := rfl
@[simp] theorem State.taking_lookup (message : Instr) (a : StationNumber) :
    (s.taking message).lookup a = s.lookup a := rfl
@[simp] theorem State.taking_numberOf (message : Instr) (k : Handle) :
    (s.taking message).numberOf k = s.numberOf k := rfl
@[simp] theorem State.taking_freeHandle (message : Instr) :
    (s.taking message).freeHandle = s.freeHandle := rfl
@[simp] theorem State.taking_dropHolder (message : Instr) (d : Drop) :
    (s.taking message).dropHolder d = s.dropHolder d := rfl
@[simp] theorem State.taking_downstream (message : Instr) (k : Handle) :
    (s.taking message).downstream k = s.downstream k := rfl
@[simp] theorem State.taking_onDrop (message : Instr) (d : Drop) :
    (s.taking message).onDrop d = s.onDrop d := rfl
@[simp] theorem State.taking_inUse (message : Instr) :
    (s.taking message).inUse = s.inUse := rfl
@[simp] theorem State.taking_usage (message : Instr) (k : Handle) :
    (s.taking message).usage k = s.usage k := rfl
@[simp] theorem State.taking_partyCount (message : Instr) (k : Handle) :
    (s.taking message).partyCount k = s.partyCount k := rfl
@[simp] theorem State.taking_unusedIndex (message : Instr) :
    (s.taking message).unusedIndex = s.unusedIndex := rfl
@[simp] theorem State.taking_tableEmpty (message : Instr) :
    (s.taking message).tableEmpty = s.tableEmpty := rfl
@[simp] theorem State.taking_room (message : Instr) (b : Bool) (w : Nat) :
    (s.taking message).room b w = s.room b w := rfl
@[simp] theorem State.taking_entryOf (message : Instr) (k : Handle) :
    (s.taking message).entryOf k = s.entryOf k := rfl
@[simp] theorem State.taking_listed (message : Instr) (a : StationNumber) :
    (s.taking message).listed a = s.listed a := rfl
@[simp] theorem State.taking_countdownOf (message : Instr) (n : Nat) :
    (s.taking message).countdownOf n = s.countdownOf n := rfl
@[simp] theorem State.taking_downlinkFree (message : Instr) :
    (s.taking message).downlinkFree = s.downlinkFree := rfl
@[simp] theorem State.taking_touching (message : Instr) (set : List Handle) :
    (s.taking message).touching set = s.touching set := rfl

/-! ### reserveClaim -/

@[simp] theorem State.reserveClaim_station (i : Index) (list : List Nat) (k : Handle) :
    (s.reserveClaim i list).station k = s.station k := rfl
@[simp] theorem State.reserveClaim_connection (i : Index) (list : List Nat) (j : Index) :
    (s.reserveClaim i list).connection j = s.connection j := rfl
@[simp] theorem State.reserveClaim_serial (i : Index) (list : List Nat) (j : Index) :
    (s.reserveClaim i list).serial j = s.serial j := rfl
@[simp] theorem State.reserveClaim_referenceOf (i : Index) (list : List Nat) (j : Index) :
    (s.reserveClaim i list).referenceOf j = s.referenceOf j := rfl
@[simp] theorem State.reserveClaim_assembly (i : Index) (list : List Nat) (k : Handle) :
    (s.reserveClaim i list).assembly k = s.assembly k := rfl
@[simp] theorem State.reserveClaim_classPolicy (i : Index) (list : List Nat) (k : ClassNo) :
    (s.reserveClaim i list).classPolicy k = s.classPolicy k := rfl
@[simp] theorem State.reserveClaim_lookup (i : Index) (list : List Nat) (a : StationNumber) :
    (s.reserveClaim i list).lookup a = s.lookup a := rfl
@[simp] theorem State.reserveClaim_numberOf (i : Index) (list : List Nat) (k : Handle) :
    (s.reserveClaim i list).numberOf k = s.numberOf k := rfl
@[simp] theorem State.reserveClaim_freeHandle (i : Index) (list : List Nat) :
    (s.reserveClaim i list).freeHandle = s.freeHandle := rfl
@[simp] theorem State.reserveClaim_dropHolder (i : Index) (list : List Nat) (d : Drop) :
    (s.reserveClaim i list).dropHolder d = s.dropHolder d := rfl
@[simp] theorem State.reserveClaim_downstream (i : Index) (list : List Nat) (k : Handle) :
    (s.reserveClaim i list).downstream k = s.downstream k := rfl
@[simp] theorem State.reserveClaim_onDrop (i : Index) (list : List Nat) (d : Drop) :
    (s.reserveClaim i list).onDrop d = s.onDrop d := rfl
@[simp] theorem State.reserveClaim_inUse (i : Index) (list : List Nat) :
    (s.reserveClaim i list).inUse = s.inUse := rfl
@[simp] theorem State.reserveClaim_usage (i : Index) (list : List Nat) (k : Handle) :
    (s.reserveClaim i list).usage k = s.usage k := rfl
@[simp] theorem State.reserveClaim_partyCount (i : Index) (list : List Nat) (k : Handle) :
    (s.reserveClaim i list).partyCount k = s.partyCount k := rfl
@[simp] theorem State.reserveClaim_unusedIndex (i : Index) (list : List Nat) :
    (s.reserveClaim i list).unusedIndex = s.unusedIndex := rfl
@[simp] theorem State.reserveClaim_tableEmpty (i : Index) (list : List Nat) :
    (s.reserveClaim i list).tableEmpty = s.tableEmpty := rfl
@[simp] theorem State.reserveClaim_entryOf (i : Index) (list : List Nat) (k : Handle) :
    (s.reserveClaim i list).entryOf k = s.entryOf k := rfl
@[simp] theorem State.reserveClaim_listed (i : Index) (list : List Nat) (a : StationNumber) :
    (s.reserveClaim i list).listed a = s.listed a := rfl
@[simp] theorem State.reserveClaim_countdownOf (i : Index) (list : List Nat) (n : Nat) :
    (s.reserveClaim i list).countdownOf n = s.countdownOf n := rfl
@[simp] theorem State.reserveClaim_downlinkFree (i : Index) (list : List Nat) :
    (s.reserveClaim i list).downlinkFree = s.downlinkFree := rfl
@[simp] theorem State.reserveClaim_touching (i : Index) (list : List Nat) (set : List Handle) :
    (s.reserveClaim i list).touching set = s.touching set := rfl

/-! ### holdClaim -/

@[simp] theorem State.holdClaim_station (i : Index) (k : Handle) :
    (s.holdClaim i).station k = s.station k := rfl
@[simp] theorem State.holdClaim_connection (i : Index) (j : Index) :
    (s.holdClaim i).connection j = s.connection j := rfl
@[simp] theorem State.holdClaim_serial (i : Index) (j : Index) :
    (s.holdClaim i).serial j = s.serial j := rfl
@[simp] theorem State.holdClaim_referenceOf (i : Index) (j : Index) :
    (s.holdClaim i).referenceOf j = s.referenceOf j := rfl
@[simp] theorem State.holdClaim_assembly (i : Index) (k : Handle) :
    (s.holdClaim i).assembly k = s.assembly k := rfl
@[simp] theorem State.holdClaim_classPolicy (i : Index) (k : ClassNo) :
    (s.holdClaim i).classPolicy k = s.classPolicy k := rfl
@[simp] theorem State.holdClaim_lookup (i : Index) (a : StationNumber) :
    (s.holdClaim i).lookup a = s.lookup a := rfl
@[simp] theorem State.holdClaim_numberOf (i : Index) (k : Handle) :
    (s.holdClaim i).numberOf k = s.numberOf k := rfl
@[simp] theorem State.holdClaim_freeHandle (i : Index) :
    (s.holdClaim i).freeHandle = s.freeHandle := rfl
@[simp] theorem State.holdClaim_dropHolder (i : Index) (d : Drop) :
    (s.holdClaim i).dropHolder d = s.dropHolder d := rfl
@[simp] theorem State.holdClaim_downstream (i : Index) (k : Handle) :
    (s.holdClaim i).downstream k = s.downstream k := rfl
@[simp] theorem State.holdClaim_onDrop (i : Index) (d : Drop) :
    (s.holdClaim i).onDrop d = s.onDrop d := rfl
@[simp] theorem State.holdClaim_inUse (i : Index) :
    (s.holdClaim i).inUse = s.inUse := rfl
@[simp] theorem State.holdClaim_usage (i : Index) (k : Handle) :
    (s.holdClaim i).usage k = s.usage k := rfl
@[simp] theorem State.holdClaim_partyCount (i : Index) (k : Handle) :
    (s.holdClaim i).partyCount k = s.partyCount k := rfl
@[simp] theorem State.holdClaim_unusedIndex (i : Index) :
    (s.holdClaim i).unusedIndex = s.unusedIndex := rfl
@[simp] theorem State.holdClaim_tableEmpty (i : Index) :
    (s.holdClaim i).tableEmpty = s.tableEmpty := rfl
@[simp] theorem State.holdClaim_entryOf (i : Index) (k : Handle) :
    (s.holdClaim i).entryOf k = s.entryOf k := rfl
@[simp] theorem State.holdClaim_listed (i : Index) (a : StationNumber) :
    (s.holdClaim i).listed a = s.listed a := rfl
@[simp] theorem State.holdClaim_countdownOf (i : Index) (n : Nat) :
    (s.holdClaim i).countdownOf n = s.countdownOf n := rfl
@[simp] theorem State.holdClaim_downlinkFree (i : Index) :
    (s.holdClaim i).downlinkFree = s.downlinkFree := rfl
@[simp] theorem State.holdClaim_touching (i : Index) (set : List Handle) :
    (s.holdClaim i).touching set = s.touching set := rfl

/-! ### endClaim -/

@[simp] theorem State.endClaim_station (i : Index) (k : Handle) :
    (s.endClaim i).station k = s.station k := rfl
@[simp] theorem State.endClaim_connection (i : Index) (j : Index) :
    (s.endClaim i).connection j = s.connection j := rfl
@[simp] theorem State.endClaim_serial (i : Index) (j : Index) :
    (s.endClaim i).serial j = s.serial j := rfl
@[simp] theorem State.endClaim_referenceOf (i : Index) (j : Index) :
    (s.endClaim i).referenceOf j = s.referenceOf j := rfl
@[simp] theorem State.endClaim_assembly (i : Index) (k : Handle) :
    (s.endClaim i).assembly k = s.assembly k := rfl
@[simp] theorem State.endClaim_classPolicy (i : Index) (k : ClassNo) :
    (s.endClaim i).classPolicy k = s.classPolicy k := rfl
@[simp] theorem State.endClaim_lookup (i : Index) (a : StationNumber) :
    (s.endClaim i).lookup a = s.lookup a := rfl
@[simp] theorem State.endClaim_numberOf (i : Index) (k : Handle) :
    (s.endClaim i).numberOf k = s.numberOf k := rfl
@[simp] theorem State.endClaim_freeHandle (i : Index) :
    (s.endClaim i).freeHandle = s.freeHandle := rfl
@[simp] theorem State.endClaim_dropHolder (i : Index) (d : Drop) :
    (s.endClaim i).dropHolder d = s.dropHolder d := rfl
@[simp] theorem State.endClaim_downstream (i : Index) (k : Handle) :
    (s.endClaim i).downstream k = s.downstream k := rfl
@[simp] theorem State.endClaim_onDrop (i : Index) (d : Drop) :
    (s.endClaim i).onDrop d = s.onDrop d := rfl
@[simp] theorem State.endClaim_inUse (i : Index) :
    (s.endClaim i).inUse = s.inUse := rfl
@[simp] theorem State.endClaim_usage (i : Index) (k : Handle) :
    (s.endClaim i).usage k = s.usage k := rfl
@[simp] theorem State.endClaim_partyCount (i : Index) (k : Handle) :
    (s.endClaim i).partyCount k = s.partyCount k := rfl
@[simp] theorem State.endClaim_unusedIndex (i : Index) :
    (s.endClaim i).unusedIndex = s.unusedIndex := rfl
@[simp] theorem State.endClaim_tableEmpty (i : Index) :
    (s.endClaim i).tableEmpty = s.tableEmpty := rfl
@[simp] theorem State.endClaim_entryOf (i : Index) (k : Handle) :
    (s.endClaim i).entryOf k = s.entryOf k := rfl
@[simp] theorem State.endClaim_listed (i : Index) (a : StationNumber) :
    (s.endClaim i).listed a = s.listed a := rfl
@[simp] theorem State.endClaim_countdownOf (i : Index) (n : Nat) :
    (s.endClaim i).countdownOf n = s.countdownOf n := rfl
@[simp] theorem State.endClaim_downlinkFree (i : Index) :
    (s.endClaim i).downlinkFree = s.downlinkFree := rfl
@[simp] theorem State.endClaim_touching (i : Index) (set : List Handle) :
    (s.endClaim i).touching set = s.touching set := rfl

/-! ### withdrawClaim -/

@[simp] theorem State.withdrawClaim_station (i : Index) (k : Handle) :
    (s.withdrawClaim i).station k = s.station k := rfl
@[simp] theorem State.withdrawClaim_connection (i : Index) (j : Index) :
    (s.withdrawClaim i).connection j = s.connection j := rfl
@[simp] theorem State.withdrawClaim_serial (i : Index) (j : Index) :
    (s.withdrawClaim i).serial j = s.serial j := rfl
@[simp] theorem State.withdrawClaim_referenceOf (i : Index) (j : Index) :
    (s.withdrawClaim i).referenceOf j = s.referenceOf j := rfl
@[simp] theorem State.withdrawClaim_assembly (i : Index) (k : Handle) :
    (s.withdrawClaim i).assembly k = s.assembly k := rfl
@[simp] theorem State.withdrawClaim_classPolicy (i : Index) (k : ClassNo) :
    (s.withdrawClaim i).classPolicy k = s.classPolicy k := rfl
@[simp] theorem State.withdrawClaim_lookup (i : Index) (a : StationNumber) :
    (s.withdrawClaim i).lookup a = s.lookup a := rfl
@[simp] theorem State.withdrawClaim_numberOf (i : Index) (k : Handle) :
    (s.withdrawClaim i).numberOf k = s.numberOf k := rfl
@[simp] theorem State.withdrawClaim_freeHandle (i : Index) :
    (s.withdrawClaim i).freeHandle = s.freeHandle := rfl
@[simp] theorem State.withdrawClaim_dropHolder (i : Index) (d : Drop) :
    (s.withdrawClaim i).dropHolder d = s.dropHolder d := rfl
@[simp] theorem State.withdrawClaim_downstream (i : Index) (k : Handle) :
    (s.withdrawClaim i).downstream k = s.downstream k := rfl
@[simp] theorem State.withdrawClaim_onDrop (i : Index) (d : Drop) :
    (s.withdrawClaim i).onDrop d = s.onDrop d := rfl
@[simp] theorem State.withdrawClaim_inUse (i : Index) :
    (s.withdrawClaim i).inUse = s.inUse := rfl
@[simp] theorem State.withdrawClaim_usage (i : Index) (k : Handle) :
    (s.withdrawClaim i).usage k = s.usage k := rfl
@[simp] theorem State.withdrawClaim_partyCount (i : Index) (k : Handle) :
    (s.withdrawClaim i).partyCount k = s.partyCount k := rfl
@[simp] theorem State.withdrawClaim_unusedIndex (i : Index) :
    (s.withdrawClaim i).unusedIndex = s.unusedIndex := rfl
@[simp] theorem State.withdrawClaim_tableEmpty (i : Index) :
    (s.withdrawClaim i).tableEmpty = s.tableEmpty := rfl
@[simp] theorem State.withdrawClaim_entryOf (i : Index) (k : Handle) :
    (s.withdrawClaim i).entryOf k = s.entryOf k := rfl
@[simp] theorem State.withdrawClaim_listed (i : Index) (a : StationNumber) :
    (s.withdrawClaim i).listed a = s.listed a := rfl
@[simp] theorem State.withdrawClaim_countdownOf (i : Index) (n : Nat) :
    (s.withdrawClaim i).countdownOf n = s.countdownOf n := rfl
@[simp] theorem State.withdrawClaim_downlinkFree (i : Index) :
    (s.withdrawClaim i).downlinkFree = s.downlinkFree := rfl
@[simp] theorem State.withdrawClaim_touching (i : Index) (set : List Handle) :
    (s.withdrawClaim i).touching set = s.touching set := rfl

/-! ### preemptClaim -/

@[simp] theorem State.preemptClaim_station (victims : List Index) (i : Index) (list : List Nat) (k : Handle) :
    (s.preemptClaim victims i list).station k = s.station k := rfl
@[simp] theorem State.preemptClaim_connection (victims : List Index) (i : Index) (list : List Nat) (j : Index) :
    (s.preemptClaim victims i list).connection j = s.connection j := rfl
@[simp] theorem State.preemptClaim_serial (victims : List Index) (i : Index) (list : List Nat) (j : Index) :
    (s.preemptClaim victims i list).serial j = s.serial j := rfl
@[simp] theorem State.preemptClaim_referenceOf (victims : List Index) (i : Index) (list : List Nat) (j : Index) :
    (s.preemptClaim victims i list).referenceOf j = s.referenceOf j := rfl
@[simp] theorem State.preemptClaim_assembly (victims : List Index) (i : Index) (list : List Nat) (k : Handle) :
    (s.preemptClaim victims i list).assembly k = s.assembly k := rfl
@[simp] theorem State.preemptClaim_classPolicy (victims : List Index) (i : Index) (list : List Nat) (k : ClassNo) :
    (s.preemptClaim victims i list).classPolicy k = s.classPolicy k := rfl
@[simp] theorem State.preemptClaim_lookup (victims : List Index) (i : Index) (list : List Nat) (a : StationNumber) :
    (s.preemptClaim victims i list).lookup a = s.lookup a := rfl
@[simp] theorem State.preemptClaim_numberOf (victims : List Index) (i : Index) (list : List Nat) (k : Handle) :
    (s.preemptClaim victims i list).numberOf k = s.numberOf k := rfl
@[simp] theorem State.preemptClaim_freeHandle (victims : List Index) (i : Index) (list : List Nat) :
    (s.preemptClaim victims i list).freeHandle = s.freeHandle := rfl
@[simp] theorem State.preemptClaim_dropHolder (victims : List Index) (i : Index) (list : List Nat) (d : Drop) :
    (s.preemptClaim victims i list).dropHolder d = s.dropHolder d := rfl
@[simp] theorem State.preemptClaim_downstream (victims : List Index) (i : Index) (list : List Nat) (k : Handle) :
    (s.preemptClaim victims i list).downstream k = s.downstream k := rfl
@[simp] theorem State.preemptClaim_onDrop (victims : List Index) (i : Index) (list : List Nat) (d : Drop) :
    (s.preemptClaim victims i list).onDrop d = s.onDrop d := rfl
@[simp] theorem State.preemptClaim_inUse (victims : List Index) (i : Index) (list : List Nat) :
    (s.preemptClaim victims i list).inUse = s.inUse := rfl
@[simp] theorem State.preemptClaim_usage (victims : List Index) (i : Index) (list : List Nat) (k : Handle) :
    (s.preemptClaim victims i list).usage k = s.usage k := rfl
@[simp] theorem State.preemptClaim_partyCount (victims : List Index) (i : Index) (list : List Nat) (k : Handle) :
    (s.preemptClaim victims i list).partyCount k = s.partyCount k := rfl
@[simp] theorem State.preemptClaim_unusedIndex (victims : List Index) (i : Index) (list : List Nat) :
    (s.preemptClaim victims i list).unusedIndex = s.unusedIndex := rfl
@[simp] theorem State.preemptClaim_tableEmpty (victims : List Index) (i : Index) (list : List Nat) :
    (s.preemptClaim victims i list).tableEmpty = s.tableEmpty := rfl
@[simp] theorem State.preemptClaim_entryOf (victims : List Index) (i : Index) (list : List Nat) (k : Handle) :
    (s.preemptClaim victims i list).entryOf k = s.entryOf k := rfl
@[simp] theorem State.preemptClaim_listed (victims : List Index) (i : Index) (list : List Nat) (a : StationNumber) :
    (s.preemptClaim victims i list).listed a = s.listed a := rfl
@[simp] theorem State.preemptClaim_countdownOf (victims : List Index) (i : Index) (list : List Nat) (n : Nat) :
    (s.preemptClaim victims i list).countdownOf n = s.countdownOf n := rfl
@[simp] theorem State.preemptClaim_downlinkFree (victims : List Index) (i : Index) (list : List Nat) :
    (s.preemptClaim victims i list).downlinkFree = s.downlinkFree := rfl
@[simp] theorem State.preemptClaim_touching (victims : List Index) (i : Index) (list : List Nat) (set : List Handle) :
    (s.preemptClaim victims i list).touching set = s.touching set := rfl

/-! ### Updates that reach a read -/

@[simp] theorem State.station_setStation (h k : Handle) (r : Option Station) :
    (s.setStation h r).station k = if h = k then r else s.station k := by
  simp only [State.station, State.setStation, Fin.getElem_fin, Vector.getElem_set, Fin.val_inj]

@[simp] theorem State.station_modifyStation (h k : Handle) (f : Station → Station) :
    (s.modifyStation h f).station k = if h = k then (s.station h).map f else s.station k := by
  simp [State.modifyStation]

@[simp] theorem State.connection_setConnection (i j : Index) (c : Option Connection) :
    (s.setConnection i c).connection j = if i = j then c else s.connection j := by
  simp only [State.connection, State.setConnection, Fin.getElem_fin, Vector.getElem_set, Fin.val_inj]

@[simp] theorem State.connection_forgetConnection (i j : Index) :
    (s.forgetConnection i).connection j = if i = j then none else s.connection j := by
  simp [State.forgetConnection]

@[simp] theorem State.connection_createConnection (i j : Index) (c : Connection) :
    (s.createConnection i c).connection j = if i = j then some c else s.connection j := by
  simp only [State.connection, State.createConnection_connections, Fin.getElem_fin, Vector.getElem_set, Fin.val_inj]

@[simp] theorem State.serial_createConnection (i j : Index) (c : Connection) :
    (s.createConnection i c).serial j = if i = j then s.serial i + 1 else s.serial j := by
  simp only [State.serial, State.createConnection_serials, Fin.getElem_fin, Vector.getElem_set, Fin.val_inj]

@[simp] theorem State.assembly_setAssembly (h k : Handle) (a : Option Assembly) :
    (s.setAssembly h a).assembly k = if h = k then a else s.assembly k := by
  simp only [State.assembly, State.setAssembly, Fin.getElem_fin, Vector.getElem_set, Fin.val_inj]

@[simp] theorem State.station_deleteStation (h k : Handle) :
    (s.deleteStation h).station k = if h = k then none else s.station k := by
  simp [State.deleteStation]

@[simp] theorem State.assembly_deleteStation (h k : Handle) :
    (s.deleteStation h).assembly k = if h = k then none else s.assembly k := by
  simp [State.deleteStation]

/-- A read of a slot after a change of the slot records gives the change of what stood there. -/
@[simp] theorem State.slot_mapSlots (f : Nat → SlotRecord → SlotRecord) (n : Nat) :
    (s.mapSlots f).slot n = (s.slot n).map (f n) := by
  unfold State.slot State.mapSlots
  split
  · rename_i low
    simp only [Vector.getElem?_mapIdx]
    rw [Nat.sub_add_cancel low]
  · rfl

@[simp] theorem State.slot_reserveClaim (i : Index) (list : List Nat) (n : Nat) :
    (s.reserveClaim i list).slot n = (s.slot n).map fun r => if n ∈ list then .reserved i else r := by
  simp [State.reserveClaim]

@[simp] theorem State.slot_holdClaim (i : Index) (n : Nat) :
    (s.holdClaim i).slot n = (s.slot n).map fun r => if r = .reserved i then .held i else r := by
  simp [State.holdClaim]

@[simp] theorem State.slot_endClaim (i : Index) (n : Nat) :
    (s.endClaim i).slot n = (s.slot n).map fun r => if r = .held i then .guard none s.timer.parity else r := by
  simp [State.endClaim]

@[simp] theorem State.slot_withdrawClaim (i : Index) (n : Nat) :
    (s.withdrawClaim i).slot n = (s.slot n).map (·.withdrawn i) := by
  simp [State.withdrawClaim]

/-- A bearer slot has a record exactly when its number is 2 to 63. -/
theorem State.slot_isSome_iff (n : Nat) : (s.slot n).isSome ↔ 2 ≤ n ∧ n ≤ 63 := by
  unfold State.slot
  split <;> simp <;> omega

/-! ### Lookups -/

/-- A search through all indices or handles finds the lowest that passes. -/
theorem find?_finRange_eq_some_iff (n : Nat) (p : Fin n → Bool) (i : Fin n) :
    (List.finRange n).find? p = some i ↔ p i = true ∧ ∀ j, j < i → p j = false := by
  rw [List.find?_eq_some_iff_getElem]
  constructor
  · rintro ⟨hp, k, hk, rfl, before⟩
    refine ⟨hp, fun j hj => ?_⟩
    have := before j.val (by simpa [Fin.lt_def] using hj)
    simpa using this
  · rintro ⟨hp, before⟩
    refine ⟨hp, i.val, by simp, by simp, fun j hj => ?_⟩
    have := before ⟨j, by omega⟩ (by simpa [Fin.lt_def] using hj)
    simpa using this

/-- The unused index found is the lowest. -/
theorem State.unusedIndex_eq_some_iff (i : Index) :
    s.unusedIndex = some i ↔ s.connection i = none ∧ ∀ j, j < i → s.connection j ≠ none := by
  simp [State.unusedIndex, allIndices, find?_finRange_eq_some_iff, Option.isSome_iff_ne_none]

theorem State.unusedIndex_eq_none_iff : s.unusedIndex = none ↔ ∀ i, s.connection i ≠ none := by
  simp [State.unusedIndex, allIndices, Option.isNone_iff_eq_none]

/-- The free handle found is the lowest. -/
theorem State.freeHandle_eq_some_iff (h : Handle) :
    s.freeHandle = some h ↔ s.station h = none ∧ ∀ k, k < h → s.station k ≠ none := by
  simp [State.freeHandle, allHandles, find?_finRange_eq_some_iff, Option.isSome_iff_ne_none]

theorem State.freeHandle_eq_none_iff : s.freeHandle = none ↔ ∀ h, s.station h ≠ none := by
  simp [State.freeHandle, allHandles, Option.isNone_iff_eq_none]

/-- A lookup by number finds a record that holds the number. -/
theorem State.station_of_lookup (n : StationNumber) (h : Handle) (r : Station) (found : s.lookup n = some (h, r)) :
    s.station h = some r ∧ r.number = n := by
  obtain ⟨k, -, hk⟩ := List.exists_of_findSome?_eq_some found
  cases hr : s.station k with
  | none => simp [hr] at hk
  | some x =>
    rw [hr] at hk
    simp only [Option.bind_some, Option.ite_none_right_eq_some, Option.some.injEq, Prod.mk.injEq] at hk
    obtain ⟨number, rfl, rfl⟩ := hk
    exact ⟨hr, number⟩

/-- A lookup by number finds nothing exactly when no record holds the number. -/
theorem State.lookup_eq_none_iff (n : StationNumber) :
    s.lookup n = none ↔ ∀ h r, s.station h = some r → r.number ≠ n := by
  simp only [State.lookup, allHandles, List.findSome?_eq_none_iff, List.mem_finRange, true_implies,
    Option.bind_eq_none_iff]
  simp

/-- Two numbers that both name records, and differ, name two handles. -/
theorem State.lookup_ne (a b : StationNumber) (h k : Handle) (x y : Station) (differ : a ≠ b)
    (first : s.lookup a = some (h, x)) (second : s.lookup b = some (k, y)) : h ≠ k := by
  obtain ⟨hx, rfl⟩ := s.station_of_lookup a h x first
  obtain ⟨hy, rfl⟩ := s.station_of_lookup b k y second
  rintro rfl
  rw [hx] at hy
  exact differ (congrArg Station.number (Option.some.inj hy))

theorem State.mem_downstream_iff (h k : Handle) :
    k ∈ s.downstream h ↔ ∃ r, s.station k = some r ∧ r.via = some h := by
  simp [State.downstream, allHandles, Option.any_eq_true]

theorem State.mem_onDrop_iff (d : Drop) (k : Handle) : k ∈ s.onDrop d ↔ ∃ r, s.station k = some r ∧ r.drop = d := by
  simp [State.onDrop, allHandles, Option.any_eq_true]

theorem State.mem_touching_iff (set : List Handle) (i : Index) :
    i ∈ s.touching set ↔ ∃ c, s.connection i = some c ∧ (c.originator ∈ set ∨ c.answerer ∈ set) := by
  simp [State.touching, allIndices, Option.any_eq_true]

theorem State.mem_inUse_iff (c : Connection) : c ∈ s.inUse ↔ ∃ i, s.connection i = some c := by
  simp [State.inUse, allIndices]

theorem State.mem_freeSlots_iff (n : Nat) : n ∈ s.freeSlots ↔ s.slot n = some .free := by
  have := s.slot_isSome_iff n
  simp only [State.freeSlots, List.mem_filter, State.slotFree, decide_eq_true_eq, bearerSlots, List.mem_range'_1]
  constructor
  · exact fun h => h.2
  · intro h
    rw [h] at this
    simp at this
    exact ⟨by omega, h⟩

end Sys2Proof.Machine
end

