-- ==== Sys2Proof/Laws/Messages.lean ====
section
/-! SUPPORT. What handing a message to the Downlink Queue can do: it touches the queue, the flags and SYNC OWED alone. -/

namespace Sys2Proof.Machine

variable (s : State)

/-- A record apart from SYNC OWED keeps its number. -/
@[simp] theorem Station.settledFields_number (r : Station) : r.settledFields.number = r.number := rfl

/-- Everything an offer can do (R147): the message is appended, or it is dropped with SYNC raised, and then at most one
record is marked. -/
theorem State.offer_cases (m : DownMessage) :
    s.offer m = s.enqueue m ∨ s.offer m = s.raise .sync ∨
      ∃ h r, s.lookup m.destination = some (h, r) ∧
        s.offer m = (s.raise .sync).setStation h (some { r with syncOwed := true }) := by
  unfold State.offer
  split
  · exact .inl rfl
  · right
    unfold State.oweSync
    split
    · rename_i h r found
      split
      · right
        have at_h := (s.station_of_lookup m.destination h r found).1
        exact ⟨h, r, found, by simp [State.modifyStation, at_h]⟩
      · exact .inl rfl
    · exact .inl rfl

/-! ### offer -/

@[simp] theorem State.offer_pending (m : DownMessage) : (s.offer m).pending = s.pending := by
  obtain h | h | ⟨_, _, _, h⟩ := s.offer_cases m <;> simp [h]

@[simp] theorem State.offer_hold (m : DownMessage) : (s.offer m).hold = s.hold := by
  obtain h | h | ⟨_, _, _, h⟩ := s.offer_cases m <;> simp [h]

@[simp] theorem State.offer_timer (m : DownMessage) : (s.offer m).timer = s.timer := by
  obtain h | h | ⟨_, _, _, h⟩ := s.offer_cases m <;> simp [h]

@[simp] theorem State.offer_owed (m : DownMessage) : (s.offer m).owed = s.owed := by
  obtain h | h | ⟨_, _, _, h⟩ := s.offer_cases m <;> simp [h]

@[simp] theorem State.offer_due (m : DownMessage) : (s.offer m).due = s.due := by
  obtain h | h | ⟨_, _, _, h⟩ := s.offer_cases m <;> simp [h]

@[simp] theorem State.offer_slots (m : DownMessage) : (s.offer m).slots = s.slots := by
  obtain h | h | ⟨_, _, _, h⟩ := s.offer_cases m <;> simp [h]

@[simp] theorem State.offer_connections (m : DownMessage) : (s.offer m).connections = s.connections := by
  obtain h | h | ⟨_, _, _, h⟩ := s.offer_cases m <;> simp [h]

@[simp] theorem State.offer_serials (m : DownMessage) : (s.offer m).serials = s.serials := by
  obtain h | h | ⟨_, _, _, h⟩ := s.offer_cases m <;> simp [h]

@[simp] theorem State.offer_waitQueue (m : DownMessage) : (s.offer m).waitQueue = s.waitQueue := by
  obtain h | h | ⟨_, _, _, h⟩ := s.offer_cases m <;> simp [h]

@[simp] theorem State.offer_assemblies (m : DownMessage) : (s.offer m).assemblies = s.assemblies := by
  obtain h | h | ⟨_, _, _, h⟩ := s.offer_cases m <;> simp [h]

@[simp] theorem State.offer_denyList (m : DownMessage) : (s.offer m).denyList = s.denyList := by
  obtain h | h | ⟨_, _, _, h⟩ := s.offer_cases m <;> simp [h]

@[simp] theorem State.offer_policy (m : DownMessage) : (s.offer m).policy = s.policy := by
  obtain h | h | ⟨_, _, _, h⟩ := s.offer_cases m <;> simp [h]

@[simp] theorem State.offer_answerPeriod (m : DownMessage) : (s.offer m).answerPeriod = s.answerPeriod := by
  obtain h | h | ⟨_, _, _, h⟩ := s.offer_cases m <;> simp [h]

@[simp] theorem State.offer_rosterPeriod (m : DownMessage) : (s.offer m).rosterPeriod = s.rosterPeriod := by
  obtain h | h | ⟨_, _, _, h⟩ := s.offer_cases m <;> simp [h]

@[simp] theorem State.offer_arbiter (m : DownMessage) : (s.offer m).arbiter = s.arbiter := by
  obtain h | h | ⟨_, _, _, h⟩ := s.offer_cases m <;> simp [h]

@[simp] theorem State.offer_handedOn (m : DownMessage) : (s.offer m).handedOn = s.handedOn := by
  obtain h | h | ⟨_, _, _, h⟩ := s.offer_cases m <;> simp [h]

@[simp] theorem State.offer_highway (m : DownMessage) : (s.offer m).highway = s.highway := by
  obtain h | h | ⟨_, _, _, h⟩ := s.offer_cases m <;> simp [h]

@[simp] theorem State.offer_port (m : DownMessage) : (s.offer m).port = s.port := by
  obtain h | h | ⟨_, _, _, h⟩ := s.offer_cases m <;> simp [h]

@[simp] theorem State.offer_directoryChanges (m : DownMessage) : (s.offer m).directoryChanges = s.directoryChanges := by
  obtain h | h | ⟨_, _, _, h⟩ := s.offer_cases m <;> simp [h]

@[simp] theorem State.offer_connectionChanges (m : DownMessage) : (s.offer m).connectionChanges = s.connectionChanges := by
  obtain h | h | ⟨_, _, _, h⟩ := s.offer_cases m <;> simp [h]

@[simp] theorem State.offer_spi (m : DownMessage) : (s.offer m).spi = s.spi := by
  obtain h | h | ⟨_, _, _, h⟩ := s.offer_cases m <;> simp [h]

@[simp] theorem State.offer_pins (m : DownMessage) : (s.offer m).pins = s.pins := by
  obtain h | h | ⟨_, _, _, h⟩ := s.offer_cases m <;> simp [h]

/-! ### tell -/

@[simp] theorem State.tell_pending (h : Handle) (body : DownBody) : (s.tell h body).pending = s.pending := by
  unfold State.tell; split <;> simp

@[simp] theorem State.tell_hold (h : Handle) (body : DownBody) : (s.tell h body).hold = s.hold := by
  unfold State.tell; split <;> simp

@[simp] theorem State.tell_timer (h : Handle) (body : DownBody) : (s.tell h body).timer = s.timer := by
  unfold State.tell; split <;> simp

@[simp] theorem State.tell_owed (h : Handle) (body : DownBody) : (s.tell h body).owed = s.owed := by
  unfold State.tell; split <;> simp

@[simp] theorem State.tell_due (h : Handle) (body : DownBody) : (s.tell h body).due = s.due := by
  unfold State.tell; split <;> simp

@[simp] theorem State.tell_slots (h : Handle) (body : DownBody) : (s.tell h body).slots = s.slots := by
  unfold State.tell; split <;> simp

@[simp] theorem State.tell_connections (h : Handle) (body : DownBody) : (s.tell h body).connections = s.connections := by
  unfold State.tell; split <;> simp

@[simp] theorem State.tell_serials (h : Handle) (body : DownBody) : (s.tell h body).serials = s.serials := by
  unfold State.tell; split <;> simp

@[simp] theorem State.tell_waitQueue (h : Handle) (body : DownBody) : (s.tell h body).waitQueue = s.waitQueue := by
  unfold State.tell; split <;> simp

@[simp] theorem State.tell_assemblies (h : Handle) (body : DownBody) : (s.tell h body).assemblies = s.assemblies := by
  unfold State.tell; split <;> simp

@[simp] theorem State.tell_denyList (h : Handle) (body : DownBody) : (s.tell h body).denyList = s.denyList := by
  unfold State.tell; split <;> simp

@[simp] theorem State.tell_policy (h : Handle) (body : DownBody) : (s.tell h body).policy = s.policy := by
  unfold State.tell; split <;> simp

@[simp] theorem State.tell_answerPeriod (h : Handle) (body : DownBody) : (s.tell h body).answerPeriod = s.answerPeriod := by
  unfold State.tell; split <;> simp

@[simp] theorem State.tell_rosterPeriod (h : Handle) (body : DownBody) : (s.tell h body).rosterPeriod = s.rosterPeriod := by
  unfold State.tell; split <;> simp

@[simp] theorem State.tell_arbiter (h : Handle) (body : DownBody) : (s.tell h body).arbiter = s.arbiter := by
  unfold State.tell; split <;> simp

@[simp] theorem State.tell_handedOn (h : Handle) (body : DownBody) : (s.tell h body).handedOn = s.handedOn := by
  unfold State.tell; split <;> simp

@[simp] theorem State.tell_highway (h : Handle) (body : DownBody) : (s.tell h body).highway = s.highway := by
  unfold State.tell; split <;> simp

@[simp] theorem State.tell_port (h : Handle) (body : DownBody) : (s.tell h body).port = s.port := by
  unfold State.tell; split <;> simp

@[simp] theorem State.tell_directoryChanges (h : Handle) (body : DownBody) : (s.tell h body).directoryChanges = s.directoryChanges := by
  unfold State.tell; split <;> simp

@[simp] theorem State.tell_connectionChanges (h : Handle) (body : DownBody) : (s.tell h body).connectionChanges = s.connectionChanges := by
  unfold State.tell; split <;> simp

@[simp] theorem State.tell_spi (h : Handle) (body : DownBody) : (s.tell h body).spi = s.spi := by
  unfold State.tell; split <;> simp

@[simp] theorem State.tell_pins (h : Handle) (body : DownBody) : (s.tell h body).pins = s.pins := by
  unfold State.tell; split <;> simp

/-! ### tellOpt -/

@[simp] theorem State.tellOpt_pending (h : Handle) (body : Option DownBody) : (s.tellOpt h body).pending = s.pending := by
  unfold State.tellOpt; split <;> simp

@[simp] theorem State.tellOpt_hold (h : Handle) (body : Option DownBody) : (s.tellOpt h body).hold = s.hold := by
  unfold State.tellOpt; split <;> simp

@[simp] theorem State.tellOpt_timer (h : Handle) (body : Option DownBody) : (s.tellOpt h body).timer = s.timer := by
  unfold State.tellOpt; split <;> simp

@[simp] theorem State.tellOpt_owed (h : Handle) (body : Option DownBody) : (s.tellOpt h body).owed = s.owed := by
  unfold State.tellOpt; split <;> simp

@[simp] theorem State.tellOpt_due (h : Handle) (body : Option DownBody) : (s.tellOpt h body).due = s.due := by
  unfold State.tellOpt; split <;> simp

@[simp] theorem State.tellOpt_slots (h : Handle) (body : Option DownBody) : (s.tellOpt h body).slots = s.slots := by
  unfold State.tellOpt; split <;> simp

@[simp] theorem State.tellOpt_connections (h : Handle) (body : Option DownBody) : (s.tellOpt h body).connections = s.connections := by
  unfold State.tellOpt; split <;> simp

@[simp] theorem State.tellOpt_serials (h : Handle) (body : Option DownBody) : (s.tellOpt h body).serials = s.serials := by
  unfold State.tellOpt; split <;> simp

@[simp] theorem State.tellOpt_waitQueue (h : Handle) (body : Option DownBody) : (s.tellOpt h body).waitQueue = s.waitQueue := by
  unfold State.tellOpt; split <;> simp

@[simp] theorem State.tellOpt_assemblies (h : Handle) (body : Option DownBody) : (s.tellOpt h body).assemblies = s.assemblies := by
  unfold State.tellOpt; split <;> simp

@[simp] theorem State.tellOpt_denyList (h : Handle) (body : Option DownBody) : (s.tellOpt h body).denyList = s.denyList := by
  unfold State.tellOpt; split <;> simp

@[simp] theorem State.tellOpt_policy (h : Handle) (body : Option DownBody) : (s.tellOpt h body).policy = s.policy := by
  unfold State.tellOpt; split <;> simp

@[simp] theorem State.tellOpt_answerPeriod (h : Handle) (body : Option DownBody) : (s.tellOpt h body).answerPeriod = s.answerPeriod := by
  unfold State.tellOpt; split <;> simp

@[simp] theorem State.tellOpt_rosterPeriod (h : Handle) (body : Option DownBody) : (s.tellOpt h body).rosterPeriod = s.rosterPeriod := by
  unfold State.tellOpt; split <;> simp

@[simp] theorem State.tellOpt_arbiter (h : Handle) (body : Option DownBody) : (s.tellOpt h body).arbiter = s.arbiter := by
  unfold State.tellOpt; split <;> simp

@[simp] theorem State.tellOpt_handedOn (h : Handle) (body : Option DownBody) : (s.tellOpt h body).handedOn = s.handedOn := by
  unfold State.tellOpt; split <;> simp

@[simp] theorem State.tellOpt_highway (h : Handle) (body : Option DownBody) : (s.tellOpt h body).highway = s.highway := by
  unfold State.tellOpt; split <;> simp

@[simp] theorem State.tellOpt_port (h : Handle) (body : Option DownBody) : (s.tellOpt h body).port = s.port := by
  unfold State.tellOpt; split <;> simp

@[simp] theorem State.tellOpt_directoryChanges (h : Handle) (body : Option DownBody) : (s.tellOpt h body).directoryChanges = s.directoryChanges := by
  unfold State.tellOpt; split <;> simp

@[simp] theorem State.tellOpt_connectionChanges (h : Handle) (body : Option DownBody) : (s.tellOpt h body).connectionChanges = s.connectionChanges := by
  unfold State.tellOpt; split <;> simp

@[simp] theorem State.tellOpt_spi (h : Handle) (body : Option DownBody) : (s.tellOpt h body).spi = s.spi := by
  unfold State.tellOpt; split <;> simp

@[simp] theorem State.tellOpt_pins (h : Handle) (body : Option DownBody) : (s.tellOpt h body).pins = s.pins := by
  unfold State.tellOpt; split <;> simp

/-! ### refuseEntry -/

@[simp] theorem State.refuseEntry_pending (e : Entry) (reason : Reason) : (s.refuseEntry e reason).pending = s.pending := by
  simp [State.refuseEntry]

@[simp] theorem State.refuseEntry_hold (e : Entry) (reason : Reason) : (s.refuseEntry e reason).hold = s.hold := by
  simp [State.refuseEntry]

@[simp] theorem State.refuseEntry_timer (e : Entry) (reason : Reason) : (s.refuseEntry e reason).timer = s.timer := by
  simp [State.refuseEntry]

@[simp] theorem State.refuseEntry_owed (e : Entry) (reason : Reason) : (s.refuseEntry e reason).owed = s.owed := by
  simp [State.refuseEntry]

@[simp] theorem State.refuseEntry_due (e : Entry) (reason : Reason) : (s.refuseEntry e reason).due = s.due := by
  simp [State.refuseEntry]

@[simp] theorem State.refuseEntry_slots (e : Entry) (reason : Reason) : (s.refuseEntry e reason).slots = s.slots := by
  simp [State.refuseEntry]

@[simp] theorem State.refuseEntry_connections (e : Entry) (reason : Reason) : (s.refuseEntry e reason).connections = s.connections := by
  simp [State.refuseEntry]

@[simp] theorem State.refuseEntry_serials (e : Entry) (reason : Reason) : (s.refuseEntry e reason).serials = s.serials := by
  simp [State.refuseEntry]

@[simp] theorem State.refuseEntry_waitQueue (e : Entry) (reason : Reason) : (s.refuseEntry e reason).waitQueue = s.waitQueue := by
  simp [State.refuseEntry]

@[simp] theorem State.refuseEntry_assemblies (e : Entry) (reason : Reason) : (s.refuseEntry e reason).assemblies = s.assemblies := by
  simp [State.refuseEntry]

@[simp] theorem State.refuseEntry_denyList (e : Entry) (reason : Reason) : (s.refuseEntry e reason).denyList = s.denyList := by
  simp [State.refuseEntry]

@[simp] theorem State.refuseEntry_policy (e : Entry) (reason : Reason) : (s.refuseEntry e reason).policy = s.policy := by
  simp [State.refuseEntry]

@[simp] theorem State.refuseEntry_answerPeriod (e : Entry) (reason : Reason) : (s.refuseEntry e reason).answerPeriod = s.answerPeriod := by
  simp [State.refuseEntry]

@[simp] theorem State.refuseEntry_rosterPeriod (e : Entry) (reason : Reason) : (s.refuseEntry e reason).rosterPeriod = s.rosterPeriod := by
  simp [State.refuseEntry]

@[simp] theorem State.refuseEntry_arbiter (e : Entry) (reason : Reason) : (s.refuseEntry e reason).arbiter = s.arbiter := by
  simp [State.refuseEntry]

@[simp] theorem State.refuseEntry_handedOn (e : Entry) (reason : Reason) : (s.refuseEntry e reason).handedOn = s.handedOn := by
  simp [State.refuseEntry]

@[simp] theorem State.refuseEntry_highway (e : Entry) (reason : Reason) : (s.refuseEntry e reason).highway = s.highway := by
  simp [State.refuseEntry]

@[simp] theorem State.refuseEntry_port (e : Entry) (reason : Reason) : (s.refuseEntry e reason).port = s.port := by
  simp [State.refuseEntry]

@[simp] theorem State.refuseEntry_directoryChanges (e : Entry) (reason : Reason) : (s.refuseEntry e reason).directoryChanges = s.directoryChanges := by
  simp [State.refuseEntry]

@[simp] theorem State.refuseEntry_connectionChanges (e : Entry) (reason : Reason) : (s.refuseEntry e reason).connectionChanges = s.connectionChanges := by
  simp [State.refuseEntry]

@[simp] theorem State.refuseEntry_spi (e : Entry) (reason : Reason) : (s.refuseEntry e reason).spi = s.spi := by
  simp [State.refuseEntry]

@[simp] theorem State.refuseEntry_pins (e : Entry) (reason : Reason) : (s.refuseEntry e reason).pins = s.pins := by
  simp [State.refuseEntry]

/-! ### broadcast -/

@[simp] theorem State.broadcast_pending (body : DownBody) : (s.broadcast body).pending = s.pending := by
  simp only [State.broadcast]; split <;> [rfl; split] <;> simp

@[simp] theorem State.broadcast_hold (body : DownBody) : (s.broadcast body).hold = s.hold := by
  simp only [State.broadcast]; split <;> [rfl; split] <;> simp

@[simp] theorem State.broadcast_timer (body : DownBody) : (s.broadcast body).timer = s.timer := by
  simp only [State.broadcast]; split <;> [rfl; split] <;> simp

@[simp] theorem State.broadcast_owed (body : DownBody) : (s.broadcast body).owed = s.owed := by
  simp only [State.broadcast]; split <;> [rfl; split] <;> simp

@[simp] theorem State.broadcast_due (body : DownBody) : (s.broadcast body).due = s.due := by
  simp only [State.broadcast]; split <;> [rfl; split] <;> simp

@[simp] theorem State.broadcast_slots (body : DownBody) : (s.broadcast body).slots = s.slots := by
  simp only [State.broadcast]; split <;> [rfl; split] <;> simp

@[simp] theorem State.broadcast_connections (body : DownBody) : (s.broadcast body).connections = s.connections := by
  simp only [State.broadcast]; split <;> [rfl; split] <;> simp

@[simp] theorem State.broadcast_serials (body : DownBody) : (s.broadcast body).serials = s.serials := by
  simp only [State.broadcast]; split <;> [rfl; split] <;> simp

@[simp] theorem State.broadcast_waitQueue (body : DownBody) : (s.broadcast body).waitQueue = s.waitQueue := by
  simp only [State.broadcast]; split <;> [rfl; split] <;> simp

@[simp] theorem State.broadcast_assemblies (body : DownBody) : (s.broadcast body).assemblies = s.assemblies := by
  simp only [State.broadcast]; split <;> [rfl; split] <;> simp

@[simp] theorem State.broadcast_denyList (body : DownBody) : (s.broadcast body).denyList = s.denyList := by
  simp only [State.broadcast]; split <;> [rfl; split] <;> simp

@[simp] theorem State.broadcast_policy (body : DownBody) : (s.broadcast body).policy = s.policy := by
  simp only [State.broadcast]; split <;> [rfl; split] <;> simp

@[simp] theorem State.broadcast_answerPeriod (body : DownBody) : (s.broadcast body).answerPeriod = s.answerPeriod := by
  simp only [State.broadcast]; split <;> [rfl; split] <;> simp

@[simp] theorem State.broadcast_rosterPeriod (body : DownBody) : (s.broadcast body).rosterPeriod = s.rosterPeriod := by
  simp only [State.broadcast]; split <;> [rfl; split] <;> simp

@[simp] theorem State.broadcast_arbiter (body : DownBody) : (s.broadcast body).arbiter = s.arbiter := by
  simp only [State.broadcast]; split <;> [rfl; split] <;> simp

@[simp] theorem State.broadcast_handedOn (body : DownBody) : (s.broadcast body).handedOn = s.handedOn := by
  simp only [State.broadcast]; split <;> [rfl; split] <;> simp

@[simp] theorem State.broadcast_highway (body : DownBody) : (s.broadcast body).highway = s.highway := by
  simp only [State.broadcast]; split <;> [rfl; split] <;> simp

@[simp] theorem State.broadcast_port (body : DownBody) : (s.broadcast body).port = s.port := by
  simp only [State.broadcast]; split <;> [rfl; split] <;> simp

@[simp] theorem State.broadcast_directoryChanges (body : DownBody) : (s.broadcast body).directoryChanges = s.directoryChanges := by
  simp only [State.broadcast]; split <;> [rfl; split] <;> simp

@[simp] theorem State.broadcast_connectionChanges (body : DownBody) : (s.broadcast body).connectionChanges = s.connectionChanges := by
  simp only [State.broadcast]; split <;> [rfl; split] <;> simp

@[simp] theorem State.broadcast_spi (body : DownBody) : (s.broadcast body).spi = s.spi := by
  simp only [State.broadcast]; split <;> [rfl; split] <;> simp

@[simp] theorem State.broadcast_pins (body : DownBody) : (s.broadcast body).pins = s.pins := by
  simp only [State.broadcast]; split <;> [rfl; split] <;> simp

@[simp] theorem State.broadcast_stations (body : DownBody) : (s.broadcast body).stations = s.stations := by
  simp only [State.broadcast]; split <;> [rfl; split] <;> simp

/-! ### Records, messages and flags -/

/-- An offer leaves every record as it is but for SYNC OWED (R147). -/
@[simp] theorem State.settledFields_offer (m : DownMessage) (k : Handle) :
    ((s.offer m).station k).map Station.settledFields = (s.station k).map Station.settledFields := by
  obtain h | h | ⟨a, r, found, h⟩ := s.offer_cases m
  · simp [h]
  · simp [h]
  · have at_a := (s.station_of_lookup m.destination a r found).1
    rw [h, State.station_setStation]
    split
    · subst_vars
      simp [at_a, Station.settledFields]
    · simp

@[simp] theorem State.settledFields_tell (h : Handle) (body : DownBody) (k : Handle) :
    ((s.tell h body).station k).map Station.settledFields = (s.station k).map Station.settledFields := by
  unfold State.tell
  split <;> simp

@[simp] theorem State.settledFields_tellOpt (h : Handle) (body : Option DownBody) (k : Handle) :
    ((s.tellOpt h body).station k).map Station.settledFields = (s.station k).map Station.settledFields := by
  unfold State.tellOpt
  split <;> simp

/-- A record stands after an offer exactly where one stood before. -/
@[simp] theorem State.offer_station_eq_none_iff (m : DownMessage) (k : Handle) :
    (s.offer m).station k = none ↔ s.station k = none := by
  have := s.settledFields_offer m k
  cases ha : (s.offer m).station k <;> cases hb : s.station k <;> simp_all

/-- The number of a record is the same after an offer. -/
@[simp] theorem State.offer_numberOf (m : DownMessage) (k : Handle) : (s.offer m).numberOf k = s.numberOf k := by
  have := s.settledFields_offer m k
  unfold State.numberOf
  cases ha : (s.offer m).station k <;> cases hb : s.station k <;> simp_all
  simpa using congrArg Station.number this

/-- Offers only add to the Downlink Queue. -/
theorem State.held_prefix_offer (m : DownMessage) : s.downlink.held <+: (s.offer m).downlink.held := by
  obtain h | h | ⟨_, _, _, h⟩ := s.offer_cases m <;> simp [h]

theorem State.held_prefix_tell (h : Handle) (body : DownBody) :
    s.downlink.held <+: (s.tell h body).downlink.held := by
  unfold State.tell
  split
  · exact s.held_prefix_offer _
  · exact List.prefix_refl _

/-- The message in transmission is untouched by an offer. -/
@[simp] theorem State.offer_wordsSent (m : DownMessage) :
    (s.offer m).downlink.wordsSent = s.downlink.wordsSent := by
  obtain h | h | ⟨_, _, _, h⟩ := s.offer_cases m <;> simp [h]

@[simp] theorem State.offer_hdo (m : DownMessage) : (s.offer m).downlink.hdo = s.downlink.hdo := by
  obtain h | h | ⟨_, _, _, h⟩ := s.offer_cases m <;> simp [h]

/-- An offer keeps the queue within its 40 entries (R145). -/
theorem State.offer_held_length (m : DownMessage) (bound : s.downlink.held.length ≤ 40) :
    (s.offer m).downlink.held.length ≤ 40 := by
  unfold State.offer
  split
  · rename_i room
    simp only [State.downlinkFree, Config.downlinkCapacity, Config.downlinkAdmission] at room
    simp
    omega
  · unfold State.oweSync
    split
    · split <;> simpa using bound
    · simpa using bound

/-- A raised flag is pending, and stays so when another is raised. -/
@[simp] theorem State.pendingFlag_raise_self (f : Flag) : (s.raise f).pendingFlag f = true := by
  cases f <;> simp [State.pendingFlag, State.raise, Flag.mask, Flag.bit]

theorem State.pendingFlag_raise_of (f g : Flag) (pending : s.pendingFlag f = true) :
    (s.raise g).pendingFlag f = true := by
  simp only [State.pendingFlag, State.raise, BitVec.getLsbD_or, Bool.or_eq_true] at pending ⊢
  exact .inl pending

/-- An offer clears no flag. -/
theorem State.pendingFlag_offer_of (f : Flag) (m : DownMessage) (pending : s.pendingFlag f = true) :
    (s.offer m).pendingFlag f = true := by
  obtain h | h | ⟨_, _, _, h⟩ := s.offer_cases m
  · rw [h]; exact pending
  · rw [h]; exact s.pendingFlag_raise_of f .sync pending
  · rw [h]; exact s.pendingFlag_raise_of f .sync pending

end Sys2Proof.Machine
end

