-- ==== Sys2Proof/Laws/Connections.lean ====
section
/-! SUPPORT. What the Lease Engine's and the Wait Queue's shared operations can do: removal, placement, queueing, the service
pass. -/

namespace Sys2Proof.Machine

variable (s : State)

/-! ### Removal (R25) -/

@[simp] theorem State.raiseIf_flags (b : Bool) (f : Flag) :
    (s.raiseIf b f).flags = s.flags ||| (if b then f.mask else 0) := by
  cases b <;> simp [State.raiseIf]

/-- A raise of a flag changes the flags alone. -/
theorem State.raiseIf_eq (b : Bool) (f : Flag) : s.raiseIf b f = { s with flags := (s.raiseIf b f).flags } := by
  cases b <;> rfl

/-- A removal changes the slots, the record, CONNECTION CHANGES and the flags, and nothing else (R25). -/
theorem State.dropConnection_frame (i : Index) (c : Connection) :
    s.dropConnection i c =
      { s with
        slots := (if c.state = .active then s.endClaim i else s.withdrawClaim i).slots
        connections := s.connections.set i none
        connectionChanges := s.connectionChanges + 1
        flags := (s.dropConnection i c).flags } := by
  unfold State.dropConnection State.reportIfEmpty
  rw [State.raiseIf_eq]
  by_cases active : c.state = .active <;> simp only [active, if_true, if_false] <;> rfl

@[simp] theorem State.dropConnection_connection (i j : Index) (c : Connection) :
    (s.dropConnection i c).connection j = if i = j then none else s.connection j := by
  rw [State.dropConnection_frame]
  simp only [State.connection, Fin.getElem_fin, Vector.getElem_set, Fin.val_inj]

@[simp] theorem State.dropConnection_stations (i : Index) (c : Connection) :
    (s.dropConnection i c).stations = s.stations := by rw [State.dropConnection_frame]

@[simp] theorem State.dropConnection_waitQueue (i : Index) (c : Connection) :
    (s.dropConnection i c).waitQueue = s.waitQueue := by rw [State.dropConnection_frame]

@[simp] theorem State.dropConnection_serials (i : Index) (c : Connection) :
    (s.dropConnection i c).serials = s.serials := by rw [State.dropConnection_frame]

@[simp] theorem State.dropConnection_downlink (i : Index) (c : Connection) :
    (s.dropConnection i c).downlink = s.downlink := by rw [State.dropConnection_frame]

/-- The slots after a removal: an end guards the HELD slots of the index, a withdrawal frees its RESERVED slots (R12, R14). -/
theorem State.dropConnection_slot (i : Index) (c : Connection) (n : Nat) :
    (s.dropConnection i c).slot n =
      if c.state = .active then (s.slot n).map fun r => if r = .held i then .guard none s.timer.parity else r
      else (s.slot n).map (·.withdrawn i) := by
  have frame : (s.dropConnection i c).slot n =
      (if c.state = .active then s.endClaim i else s.withdrawClaim i).slot n := by
    rw [State.dropConnection_frame]
    rfl
  rw [frame]
  split <;> simp

/-- A removal leaves the Wait Queue, the records apart from SYNC OWED and every other connection as they are. -/
theorem State.removeConnection_frame (i : Index) (c : Connection) (a b : Option DownBody) :
    (s.removeConnection i c a b).waitQueue = s.waitQueue ∧
      (s.removeConnection i c a b).connections = s.connections.set i none ∧
      (s.removeConnection i c a b).serials = s.serials ∧
      ∀ h, ((s.removeConnection i c a b).station h).map Station.settledFields =
        (s.station h).map Station.settledFields := by
  refine ⟨by simp [State.removeConnection], ?_, by simp [State.removeConnection], fun h => ?_⟩
  · simp only [State.removeConnection, State.tellOpt_connections]
    rw [State.dropConnection_frame]
  · simp only [State.removeConnection, State.settledFields_tellOpt]
    simp [State.station]

/-! ### Placement (R10, R21, R27) -/

@[simp] theorem State.place_waitQueue (i : Index) (c : Connection) : (s.place i c).waitQueue = s.waitQueue := by
  simp [State.place, State.sendOffer]

@[simp] theorem State.place_connection (i j : Index) (c : Connection) :
    (s.place i c).connection j = if i = j then some c else s.connection j := by
  have reads : (s.place i c).connections = ((s.reserveClaim i c.slotList).createConnection i c).connections := by
    simp only [State.place, State.sendOffer, State.tell_connections]
  have := ((s.reserveClaim i c.slotList).connection_createConnection i j c)
  simp only [State.connection, reads] at this ⊢
  exact this

@[simp] theorem State.place_slot (i : Index) (c : Connection) (n : Nat) :
    (s.place i c).slot n = (s.slot n).map fun r => if n ∈ c.slotList then .reserved i else r := by
  have reads : (s.place i c).slots = (s.reserveClaim i c.slotList).slots := by
    simp [State.place, State.sendOffer]
  have := s.slot_reserveClaim i c.slotList n
  simp only [State.slot, reads] at this ⊢
  exact this

/-- Room is an unused index, the lowest, and the slots of the search (R27). -/
theorem State.room_eq_some_iff (contiguous : Bool) (width : Nat) (i : Index) (slots : List Nat) :
    s.room contiguous width = some (i, slots) ↔
      s.unusedIndex = some i ∧ s.searchSlots contiguous width = some slots := by
  unfold State.room
  split <;> simp_all

/-! ### The Wait Queue (R51, R55) -/

/-- An insertion adds the entry and keeps the others. -/
theorem mem_insertEntry_iff (e x : Entry) (queue : List Entry) : x ∈ insertEntry e queue ↔ x = e ∨ x ∈ queue := by
  unfold insertEntry
  rw [List.mem_append, List.mem_cons]
  conv_rhs => rw [← List.takeWhile_append_dropWhile (p := fun x => decide (x.cls ≤ e.cls)) (l := queue), List.mem_append]
  tauto

@[simp] theorem length_insertEntry (e : Entry) (queue : List Entry) :
    (insertEntry e queue).length = queue.length + 1 := by
  have parts := congrArg List.length
    (List.takeWhile_append_dropWhile (p := fun x : Entry => decide (x.cls ≤ e.cls)) (l := queue))
  rw [List.length_append] at parts
  simp only [insertEntry, List.length_append, List.length_cons]
  omega

/-- Everything an examination can do (R55): the entry stays, leaves with BAD_WIDTH, or is placed. -/
theorem State.examine_cases (e : Entry) :
    s.examine e = s ∨ s.examine e = (s.removeEntry e).refuseEntry e .badWidth ∨
      ∃ i slots, s.room e.contiguous e.width = some (i, slots) ∧ s.partyCount e.source < 8 ∧ s.partyCount e.peer < 8 ∧
        s.examine e = (s.removeEntry e).place i
          (s.offeredRecord e.source e.peer e.cls e.contiguous e.width e.tag slots) := by
  unfold State.examine
  split
  · exact .inr (.inl rfl)
  split
  · exact .inl rfl
  rename_i limit
  split
  · exact .inl rfl
  split
  · exact .inl rfl
  · rename_i i slots found
    simp only [Config.partyLimit, not_or, Nat.not_le] at limit
    exact .inr (.inr ⟨i, slots, found, limit.1, limit.2, rfl⟩)

/-- A property that every examination keeps is kept by a service pass. -/
theorem State.servicePass_keeps (P : State → Prop) (examined : ∀ t e, P t → P (t.examine e)) (start : P s) :
    P s.servicePass := by
  unfold State.servicePass
  split
  · have fold : ∀ (list : List Entry) (t : State), P t → P (list.foldl State.examine t) := by
      intro list
      induction list with
      | nil => exact fun t ht => ht
      | cons e rest ih => exact fun t ht => ih _ (examined t e ht)
    exact fold s.waitQueue s start
  · exact start

/-- A property that every service pass keeps is kept by a run of them. -/
theorem State.servicePasses_keeps (P : State → Prop) (passed : ∀ t : State, P t → P t.servicePass) (n : Nat) (start : P s) :
    P (s.servicePasses n) := by
  induction n generalizing s with
  | zero => exact start
  | succ n ih => exact ih s.servicePass (passed s start)

/-- Outside OPEN a service pass does nothing (R54). -/
theorem State.servicePass_of_not_opened (closed : s.highway ≠ .opened) : s.servicePass = s := by
  unfold State.servicePass
  rw [if_neg closed]

/-- An examination leaves records alone apart from SYNC OWED. -/
theorem State.settledFields_examine (e : Entry) (h : Handle) :
    ((s.examine e).station h).map Station.settledFields = (s.station h).map Station.settledFields := by
  obtain x | x | ⟨i, slots, -, -, -, x⟩ := s.examine_cases e <;> rw [x]
  · simp [State.refuseEntry]
  · simp [State.place, State.sendOffer]

/-- A service pass leaves records alone apart from SYNC OWED. -/
theorem State.settledFields_servicePass (h : Handle) :
    (s.servicePass.station h).map Station.settledFields = (s.station h).map Station.settledFields :=
  s.servicePass_keeps (fun t => (t.station h).map Station.settledFields = (s.station h).map Station.settledFields)
    (fun t e ht => (t.settledFields_examine e h).trans ht) rfl

end Sys2Proof.Machine
end

