-- ==== Sys2Proof/Laws/Events.lean ====
section
/-! SUPPORT. What the removal cascade, the boundary walks, the settling of a walk, a message's hand-over, a host command and
the step can do: each says once how a property is carried through. -/

namespace Sys2Proof.Machine

variable (s : State)

/-! ### The removal cascade (R83) -/

/-- A property that a fold's step keeps is kept by the fold. -/
theorem foldl_keeps {α : Type} (P : State → Prop) (f : State → α → State) (kept : ∀ t a, P t → P (f t a))
    (list : List α) (start : P s) : P (list.foldl f s) := by
  induction list generalizing s with
  | nil => exact start
  | cons a rest ih => exact ih (f s a) (kept s a start)

/-- A property that each removal of a connection, each removal of an entry, each deletion, what the cause does, and each
service pass keep is kept by the cascade. -/
theorem State.cascade_keeps (P : State → Prop) (set deleted : List Handle) (reason : Reason) (after : State → State)
    (cut : ∀ t i, P t → P (t.cutConnection set reason i)) (entry : ∀ t e, P t → P (t.cutEntry set e))
    (delete : ∀ t h, P t → P (t.deleteStation h)) (cause : ∀ t, P t → P (after t))
    (pass : ∀ t : State, P t → P t.servicePass) (start : P s) : P (s.cascade set deleted reason after) := by
  refine State.servicePasses_keeps _ P pass _ (cause _ ?_)
  refine foldl_keeps _ P _ (fun t h => delete t h) deleted ?_
  refine foldl_keeps _ P _ (fun t e => entry t e) _ ?_
  exact foldl_keeps _ P _ (fun t i => cut t i) _ start

/-- Step 3 of the cascade: exactly the records of the list go (R83). -/
theorem State.station_deleteStations (set : List Handle) (h : Handle) :
    (s.deleteStations set).station h = if h ∈ set then none else s.station h := by
  unfold State.deleteStations
  induction set generalizing s with
  | nil => simp
  | cons k rest ih =>
    rw [List.foldl_cons, ih, State.station_deleteStation]
    by_cases same : k = h
    · simp [same]
    · simp [same, Ne.symm same]

/-- Step 3 of the cascade advances DIRECTORY CHANGES once a record (R73). -/
theorem State.directoryChanges_deleteStations (set : List Handle) :
    (s.deleteStations set).directoryChanges = s.directoryChanges + BitVec.ofNat 16 set.length := by
  unfold State.deleteStations
  induction set generalizing s with
  | nil => simp
  | cons k rest ih =>
    rw [List.foldl_cons, ih, State.deleteStation_directoryChanges, List.length_cons]
    apply BitVec.eq_of_toNat_eq
    simp [BitVec.toNat_add]
    omega

/-! ### Walks and settling -/

/-- With no expiry due there is nothing to settle. -/
@[simp] theorem State.settled_of_due_none (none_due : s.due = none) : s.settled = s := by
  unfold State.settled
  split
  · cases h : s.waitQueue.length + 48 with
    | zero => omega
    | succ n => simp [State.takeAllDue, none_due]
  · rfl

/-- A part that is ready is settled. -/
theorem State.Quiet.settled_eq {s : State} (quiet : s.Quiet) : s.settled = s := s.settled_of_due_none quiet.2

/-- While full reset is held nothing is settled. -/
theorem State.settled_of_held (held : s.hold ≠ .running) : s.settled = s := by
  unfold State.settled
  rw [if_neg held]

/-- A property that the taking of an expiry keeps is kept by settling. -/
theorem State.settled_keeps (P : State → Prop) (taken : ∀ t : State, P t → P t.takeDue) (start : P s) : P s.settled := by
  unfold State.settled
  split
  · rename_i running
    clear running
    generalize s.waitQueue.length + 48 = fuel
    induction fuel generalizing s with
    | zero => exact start
    | succ n ih =>
      unfold State.takeAllDue
      split
      · exact start
      · exact ih _ (taken s start)
  · exact start

/-- An event at a part that is ready is the block's own work. -/
theorem State.Quiet.event_eq {s : State} (quiet : s.Quiet) (f : State → State) : s.event f = f s := by
  unfold State.event
  rw [if_pos quiet.1, quiet.settled_eq]

/-- An event while full reset is held changes nothing. -/
theorem State.event_of_held (f : State → State) (held : s.hold ≠ .running) : s.event f = s := by
  unfold State.event
  rw [if_neg held]

/-- A line event while full reset is held changes the lines alone (R134, R144). -/
theorem State.lineEvent_of_held (change : Pins → Pins) (f : State → State) (held : s.hold ≠ .running) :
    s.lineEvent change f = { s with pins := change s.pins } := by
  simp only [State.lineEvent, s.settled_of_held held, if_neg held]

/-- A line event at a part that is ready changes the lines, and then the block does its own work. -/
theorem State.Quiet.lineEvent_eq {s : State} (quiet : s.Quiet) (change : Pins → Pins) (f : State → State) :
    s.lineEvent change f = f { s with pins := change s.pins } := by
  simp only [State.lineEvent, quiet.settled_eq, if_pos quiet.1]

/-! ### Full reset -/

/-- A cause of full reset that ends while RST or the supply still stops the Frame Timer only goes from the causes (R166). -/
theorem State.endCause_of_stopped (left : Hold) (stopped : left.stopped = true) :
    s.endCause left = { s with hold := left } := by
  simp only [State.endCause, stopped, if_true]

/-- The last cause that stopped the Frame Timer ends with the release and the first frame start (R1, R166). -/
theorem State.endCause_of_free (left : Hold) (free : left.stopped = false) :
    s.endCause left = s.release.startFrame := by
  simp only [State.endCause, free, Bool.false_eq_true, if_false]

/-! ### SPI transactions (R167, R194) -/

/-- Everything an address byte can do: start the reads of a captured window, start the writes, or come to nothing. -/
theorem State.takeAddress_cases (byte : Byte) :
    (byte.getLsbD 7 = true ∧
        s.takeAddress byte = { s with spi := ⟨some (.reading (location (byte.setWidth 7))), s.windowNow, []⟩ }) ∨
      (byte.getLsbD 7 = false ∧ ∃ discarded, s.spi.transaction = some (.addressing discarded) ∧
        s.takeAddress byte =
          { s with spi := { s.spi with transaction := some (.writing (location (byte.setWidth 7)) discarded) } }) ∨
      ((∀ discarded, s.spi.transaction ≠ some (.addressing discarded)) ∧ s.takeAddress byte = s) := by
  unfold State.takeAddress
  split
  · rename_i discarded awaited
    cases flag : byte.getLsbD 7
    · refine .inr (.inl ⟨rfl, discarded, awaited, if_neg ?_⟩)
      simp only [addressByte, flag, Bool.false_eq_true, not_false_eq_true]
    · exact .inl ⟨rfl, if_pos flag⟩
  · rename_i other
    exact .inr (.inr ⟨other, rfl⟩)

/-- Everything a data byte can do: it is written, it is discarded, it drives the byte at its address, or it comes to nothing;
in each of the first three the address advances. -/
theorem State.dataByte_cases (value : Byte) :
    (∃ a, s.spi.transaction = some (.writing a false) ∧
        s.dataByte value =
          { s with spi := { s.spi with transaction := some (.writing (a + 1) false) } }.writeLocation a value) ∨
      (∃ a, s.spi.transaction = some (.writing a true) ∧
        s.dataByte value = { s with spi := { s.spi with transaction := some (.writing (a + 1) true) } }) ∨
      (∃ a, s.spi.transaction = some (.reading a) ∧ s.dataByte value = s.driveBytes a 1) ∨
      ((∀ a discarded, s.spi.transaction ≠ some (.writing a discarded)) ∧
        (∀ a, s.spi.transaction ≠ some (.reading a)) ∧ s.dataByte value = s) := by
  unfold State.dataByte
  split
  · rename_i a discarded here
    cases discarded
    · exact .inl ⟨a, here, rfl⟩
    · exact .inr (.inl ⟨a, here, rfl⟩)
  · rename_i a here
    exact .inr (.inr (.inl ⟨a, here, rfl⟩))
  · rename_i noWrite noRead
    exact .inr (.inr (.inr ⟨noWrite, noRead, rfl⟩))

/-- The start of a write transaction up to its first data byte: the byte is written at the location the address names, or
discarded under full reset (R168, R189). -/
theorem State.firstByte_of_write (address value : Byte) (write : address.getLsbD 7 = false) :
    s.firstByte address value =
      { s with spi := { s.spi with
          transaction := some (.writing (location (address.setWidth 7)) (s.hold != Hold.running)) } }.dataByte value := by
  simp only [State.firstByte, State.select, State.takeAddress, addressByte, write, Bool.false_eq_true, if_false]

/-! ### Host commands -/

/-- A latched command is taken by its owner (R174). -/
theorem State.Latched.hostCommand_eq {s : State} {code : Byte} (ready : s.Latched code) (take : State → State) :
    s.hostCommand code take = take s := by
  obtain ⟨quiet, latched, same⟩ := ready
  simp only [State.hostCommand, quiet.settled_eq, quiet.1, latched, same, and_self, if_true]

/-- The owner's work on a latched command, posted at its completion (R174). -/
theorem State.Latched.runCommand_eq {s : State} {code : Byte} (ready : s.Latched code) (work : State → Work) :
    s.hostCommand code (State.runCommand work) = (work s).part.finished (work s).result (work s).readout := by
  rw [ready.hostCommand_eq]
  rfl

/-- A command refused by its owner leaves the part as it is. -/
@[simp] theorem State.failed_part (result : Result) : (s.failed result).part = s := rfl

@[simp] theorem State.failed_result (result : Result) : (s.failed result).result = result := rfl

@[simp] theorem State.failed_readout (result : Result) : (s.failed result).readout = [] := rfl

/-! ### The step -/

/-- A law that does not read the queue of waiting commands, and that every command keeps, is kept by every step. -/
theorem keptByStep_of_exec (law : State → Prop) (ignores : ∀ t rest, law t → law { t with pending := rest })
    (kept : ∀ c t u, law t → exec c t = .next u → law u) : KeptByStep law := by
  intro t u holds answered
  unfold step at answered
  split at answered
  · cases answered
    exact holds
  · rename_i c rest _
    exact kept c _ u (ignores t rest holds) answered

end Sys2Proof.Machine
end

