-- ==== Sys2Proof/Tests/Slice0.lean ====
section
/-! SUPPORT. Small tests of one command each, their expected results from the spec's tables and examples, the WellFormed smoke
tests, and for every statement with hypotheses a witness: a concrete state and operands that meet them. -/

namespace Sys2Proof.Tests

set_option Elab.async false

open Sys2Proof.Machine

/-! ### Syntax -/

theorem test_rosterPart_of_no_entry_refused : (Instr.rosterPart 3 0x120300 0 []).wellFormed = false := by decide

theorem test_rosterPart_of_four_entries_refused :
    (Instr.rosterPart 3 0x120300 0 (List.replicate 4 ⟨0x120301, .endStation, 1⟩)).wellFormed = false := by decide

theorem test_registerWrite_at_command_byte_refused : (Instr.registerWrite (.first 0x43) 0).wellFormed = false := by decide

theorem test_registerWrite_with_read_flag_refused :
    (Instr.registerWrite (.first 0xA0) 0).wellFormed = false ∧ (Instr.registerWrite .address 0xA0).wellFormed = false := by
  decide

theorem test_registerWrite_of_an_edge_with_a_byte_refused : (Instr.registerWrite .select 1).wellFormed = false := by decide

theorem test_spiReadCapture_without_read_flag_refused : (Instr.spiReadCapture 0x0D 2).wellFormed = false := by decide

theorem test_unknownCommand_of_open_refused : (Instr.unknownCommand 0x01).wellFormed = false := by decide

theorem test_good_commands_accepted :
    (Instr.rosterPart 3 0x120300 0 [⟨0x120301, .endStation, 1⟩]).wellFormed = true ∧
      (Instr.registerWrite (.first 0x20) 0).wellFormed = true ∧ (Instr.spiReadCapture 0x8D 2).wellFormed = true ∧
      (Instr.unknownCommand 0x00).wellFormed = true := by decide

/-! ### The words on the wire (section 11.1 and R191) -/

/-- R191's computation over the bytes 31h to 38h, worked outside Lean. -/
theorem test_crc_check_value : crc [0x3132, 0x3334, 0x3536, 0x3738] = 0xA12B := by decide +kernel

/-- The REQUEST of the example in section 11.2: class 2, width 2, tag 9; its check word 8B2Fh was worked outside Lean. -/
theorem test_request_example_decodes :
    messageOfWords 5 [0x0DC0, 0x0004, 0xA1C2, 0x0004, 0xA1D0, 0x8209, 0x8B2F] =
      some (.request 5 0x0004A1C2 0x0004A1D0 2 false 2 9) := by decide +kernel

theorem test_request_example_words :
    uplinkWords (.request 5 0x0004A1C2 0x0004A1D0 2 false 2 9) =
      some (5, [0x0DC0, 0x0004, 0xA1C2, 0x0004, 0xA1D0, 0x8209, 0x8B2F]) := by decide +kernel

/-- RESET_ALL has KIND 2Eh, LENGTH 4 and AUX 0. -/
theorem test_reset_all_header : resetAllMessage.words.head? = some 0xB900 := by decide +kernel

/-! ### A part in service

The highway is OPEN in an even superframe. H0 and H1 are END stations, H2 a top relay with H3 behind it, H4 a top relay whose
roster is still to come. C0 is ACTIVE, C1 OFFERED, C2 PENDING, C3 pinned; H3 has an entry in the Wait Queue. -/

def station (number : StationNumber) (drop : Drop) (cls : ClassNo) : Station :=
  ⟨number, .endStation, drop, none, 0, cls, .admitted, 8, false, none, none, none⟩

def relay : Station := ⟨0x102, .relay, 2, none, 0, 1, .admitted, 8, false, some [3], some 1, none⟩

def behind : Station := ⟨0x103, .endStation, 2, some 2, 1, 1, .admitted, 8, false, none, none, none⟩

def newRelay : Station := ⟨0x104, .relay, 4, none, 0, 1, .rosterPending, 8, false, some [], none, some ⟨1, true⟩⟩

def active : Connection := ⟨.active, false, 0, 1, 2, 2, true, 9, [2, 3], some ⟨1, true⟩⟩

def offered : Connection := ⟨.offered, false, 1, 0, 1, 1, false, 3, [4], some ⟨1, true⟩⟩

def waiting : Connection := ⟨.pending, false, 0, 3, 1, 2, false, 4, [5, 6], none⟩

def pinned : Connection := ⟨.active, true, 1, 3, 3, 1, true, 0, [7], none⟩

def entry : Entry := ⟨3, 0x101, 1, 1, 2, false, 5, ⟨1, true⟩⟩

def world : State :=
  { State.reset with
    timer := ⟨5, false, false, 70⟩
    slots := (((((((State.reset.slots.set 0 (.held 0)).set 1 (.held 0)).set 2 (.reserved 1)).set 3 (.reserved 2)).set 4
      (.guard (some 2) true)).set 5 (.held 3)).set 6 (.guard none true))
    connections := (((State.reset.connections.set 0 (some active)).set 1 (some offered)).set 2 (some waiting)).set 3
      (some pinned)
    waitQueue := [entry]
    stations := ((((State.reset.stations.set 0 (some (station 0x100 0 1))).set 1 (some (station 0x101 1 0))).set 2
      (some relay)).set 3 (some behind)).set 4 (some newRelay)
    denyList := [⟨0x200, 7, 255⟩]
    downlink := ⟨[], none, none⟩
    highway := .opened }

/-- The part with its argument area latched and a command code waiting for its owner. -/
def commanded (s : State) (code : Byte) (arguments : List Byte) : State :=
  { s with
    port :=
      { s.port with
        latched := Vector.ofFn fun k => arguments.getD k.val 0
        command := code
        mailbox := .latched } }

/-- The part with a number of messages held in the Downlink Queue. -/
def filled (s : State) (count : Nat) : State :=
  { s with downlink := ⟨List.replicate count ⟨0x101, .sync⟩, none, none⟩ }

/-- A connection of one slot between H0 and H1, for a full table. -/
def small (cls : ClassNo) (slot : Nat) : Connection := ⟨.active, false, 0, 1, cls, 1, false, 0, [slot], some ⟨9, false⟩⟩

/-- Every index in use, each connection on one slot. -/
def fullTable (cls : ClassNo) : State :=
  { world with
    connections := Vector.ofFn fun i => some { small cls (i.val + 2) with originator := 3, answerer := 1 }
    slots := Vector.ofFn fun n => if h : n.val < 32 then .held ⟨n.val, h⟩ else .free
    waitQueue := [] }

/-- Every bearer slot HELD by connection 0, which no class can take. -/
def fullMap : State := { world with slots := Vector.replicate 62 (.held 0), waitQueue := [] }

/-- The part with causes of full reset in force. -/
def heldBy (supply rst host : Bool) : State := { world with hold := ⟨supply, rst, host⟩ }

/-- The next state a command answers; a state no test expects where it does not answer one. -/
def after (c : Instr) (s : State) : State :=
  match exec c s with
  | .next t => t
  | .fault _ => State.reset
  | .refused _ => State.reset

/-! ### Witnesses: the step, full reset, frames -/

theorem witness_StepTakesTheFrontCommand : State.reset.pending = [] := rfl

theorem witness_HeldPartIgnoresEvents :
    (heldBy false true false).hold ≠ .running ∧ isInnerEvent .guardEnd = true ∧
      isLineEvent (.dprFall 15) = true ∧ isExpiry .answerExpiry = true := by decide +kernel

/-- A lease is at its end: the walk stands at connection 0. -/
def expiring : State := { world with due := some (.connection 0) }

theorem witness_WalksEndBeforeOtherEvents :
    expiring.hold = .running ∧ expiring.due ≠ none ∧ world.Quiet ∧
      (let others : List Instr := [.dprRise 0, .presenceLoss 0, .uplinkGrant 0xFFFF, .drqFall 5, .dprFall 5, .frameStart,
          .registerWrite .deselect 0, .spiReadCapture 0x8D 2, .notifyEnableWrite false 1, .query 0 0x100, .openHighway]
       ∀ c ∈ others, isExpiry c = false ∧ isResetEvent c = false) := by decide +kernel

theorem witness_FullResetIsTakenAndReleased :
    (commanded world 0x0F []).Latched 0x0F ∧
      ((heldBy false true false).hold.rst = true ∧ (heldBy false true false).hold.supply = false) ∧
      ((heldBy true true false).hold.rst = true ∧ (heldBy true true false).hold.supply = true) ∧
      ((heldBy true false false).hold.rst = false ∧ (heldBy true false false).hold.supply = true) ∧
      ((heldBy false false true).hold.host = true ∧ (heldBy false false true).hold.supply = false ∧
        (heldBy false false true).hold.rst = false) ∧
      (world.hold.rst = false ∧ world.hold.supply = false ∧ world.hold.host = false) := by decide +kernel

theorem witness_FrameStartAdvancesTheFrame :
    world.Quiet ∧ world.nextLeft = none ∧ world.timer.firstFrameDue = false ∧
      (let last := { world with timer := ⟨63, true, false, 127⟩ }
       last.Quiet ∧ last.nextLeft = none ∧ last.timer.position = 63) ∧
      (State.reset.Quiet ∧ State.reset.nextLeft = none ∧ State.reset.timer.firstFrameDue = true) := by decide +kernel

/-- The last word of a SYNC has been sent in this frame. -/
def departing (s : State) : State := { s with downlink := { s.downlink with wordsSent := some 4 } }

theorem witness_FrameStartTakesWhatIsLeft :
    (departing (filled world 2)).Quiet ∧ (departing (filled world 2)).nextLeft = some .messageDeparture ∧
      (after .messageDeparture (departing (filled world 2))).settled.departureDue = false ∧
      { world with owed := ⟨true, true, true, true⟩ }.nextLeft = some .guardEnd ∧
      (after .guardEnd { world with owed := ⟨true, true, true, true⟩ }).settled.departureDue = false ∧
      { world with owed := ⟨false, false, false, true⟩ }.nextLeft = some .rosterDeadlineWalk := by decide +kernel

/-! ### Witnesses: the signalling channel -/

/-- A boundary to consider, DPR high on drops 0 and 1. -/
def boundary (held : Nat) : State :=
  { filled world held with arbiter := ⟨15, .idle, true, false⟩, pins := ⟨0x0003, 0⟩ }

theorem witness_GrantGoesToTheNextEligibleDrop :
    (boundary 28).Quiet ∧ (boundary 28).arbiter.grantDue = true ∧ (boundary 28).arbiter.window = .idle ∧
      (boundary 28).downlink.held.length ≤ 28 ∧ 28 < (boundary 29).downlink.held.length ∧
      (let eligible (drq : BitVec 16) (d : Drop) : Bool :=
        (boundary 28).pins.dpr.getLsbD d.val && drq.getLsbD d.val
       let next (k : Nat) : Drop := (boundary 28).arbiter.pointer + 1 + Fin.ofNat 16 k
       eligible 0x0002 (next 1) = true ∧ eligible 0x0002 (next 0) = false ∧ (∀ d, eligible 0xFFFC d = false)) ∧
      world.arbiter.grantDue = false := by decide +kernel

/-- A window on drop 5 that slot 1 of this frame belongs to. -/
def windowed (w : Window) : State := { world with arbiter := ⟨5, w, false, true⟩ }

theorem witness_HeadersAreJudged :
    (windowed (.granted 5)).Quiet ∧ (windowed (.granted 5)).arbiter.wordDue = true ∧
      { world with arbiter := ⟨5, .granted 5, false, false⟩ }.arbiter.wordDue = false ∧
      (let kind (word : Word) := word.extractLsb' 10 6
       let length (word : Word) := (word.extractLsb' 6 4).toNat
       kind 0x0000 = 0 ∧ kind 0x0500 = 1 ∧ length 0x0500 = 4 ∧ kind 0x3300 = 12 ∧ length 0x3300 = 12 ∧
         kind 0x3500 = 13 ∧ kind 0x04C0 = 1 ∧ length 0x04C0 = 3 ∧ kind 0x3340 = 12 ∧ length 0x3340 = 13) := by
  decide +kernel

def requestWords : List Word := [0x0004, 0xA1C2, 0x0004, 0xA1D0, 0x8209]

theorem witness_WordsAreTaken :
    (windowed (.receiving 5 7 (0x0DC0 :: requestWords))).Quiet ∧
      (0x0DC0 :: [0x0004] ++ [0xA1C2] : List Word).length < 7 ∧
      7 ≤ (0x0DC0 :: requestWords ++ [0x8B2F]).length ∧ (0x0000 : Word) ≠ crc (0x0DC0 :: requestWords) ∧
      (0x8B2F : Word) = crc (0x0DC0 :: requestWords) ∧ allowedLength 0x03 7 = true ∧
      allowedLength ((0x2140 : Word).extractLsb' 10 6) ([0x2140, 0, 0x100, 0, crc [0x2140, 0, 0x100, 0]] : List Word).length
        = false := by decide +kernel

theorem witness_LinesCloseWindows :
    (windowed (.granted 5)).Quiet ∧ (windowed (.granted 5)).arbiter.window.drop? = some 5 ∧
      (windowed (.receiving 5 7 [0x0DC0])).arbiter.window = .receiving 5 7 [0x0DC0] ∧
      (windowed (.granted 5)).arbiter.window.drop? ≠ some 6 ∧
      (windowed (.granted 5)).dgt 5 = true ∧ (windowed (.receiving 5 7 [0x0DC0])).dgt 5 = true ∧
      (windowed (.granted 5)).dgt 6 = false ∧ (windowed .idle).dgt 5 = false := by decide +kernel

/-- H1 and H3 owe a SYNC. -/
def owing (s : State) : State :=
  { s with
    stations := (s.stations.set 1 (some { station 0x101 1 0 with syncOwed := true })).set 3
      (some { behind with syncOwed := true }) }

theorem witness_HeadDepartsWithItsSync :
    (departing (filled world 38)).Quiet ∧
      (departing (filled world 38)).downlink.held = ⟨0x101, .sync⟩ :: List.replicate 37 ⟨0x101, .sync⟩ ∧
      (departing (filled world 38)).downlink.wordsSent = some (DownMessage.words ⟨0x101, .sync⟩).length ∧
      (filled world 38).downlink.wordsSent ≠ some (DownMessage.words ⟨0x101, .sync⟩).length ∧
      (∀ h, ∀ r ∈ (departing (filled world 38)).station h, r.syncOwed = false) ∧
      37 < (List.replicate 38 (0 : Nat)).length ∧
      (departing (filled (owing world) 38)).station 1 = some { station 0x101 1 0 with syncOwed := true } ∧
      (∀ k, ∀ x ∈ (departing (filled (owing world) 38)).station k, k < 1 → x.syncOwed = false) := by decide +kernel

/-- A HIGHWAY_STATE waits behind the head, which is in transmission. -/
def announcing : State :=
  { world with downlink := ⟨[⟨0x101, .sync⟩, ⟨0xFFFFFFFF, .highwayState .closed⟩], some 1, none⟩ }

theorem witness_OffersAreTakenOrDropped :
    (filled world 37).downlink.held.length ≤ 37 ∧ 37 < (filled world 38).downlink.held.length ∧
      (filled world 38).lookup 0x300 = none ∧ validNumber 0x000F = false ∧
      (filled world 38).lookup 0x101 = some (1, station 0x101 1 0) ∧ validNumber 0x101 = true ∧
      (announcing.downlink.held = [⟨0x101, .sync⟩] ++ ⟨0xFFFFFFFF, .highwayState .closed⟩ :: [] ∧
        announcing.downlink.wordsSent.isSome = true) ∧
      (filled world 39).downlink.held.length ≤ 39 ∧ 39 < (filled world 40).downlink.held.length ∧
      ((filled world 40).downlink.held.all fun x => !x.isHighwayState) = true := by decide +kernel

theorem witness_UplinkMessagesDecode :
    (Instr.request 5 0x0004A1C2 0x0004A1D0 2 false 2 9).wellFormed = true ∧
      uplinkWords (.request 5 0x0004A1C2 0x0004A1D0 2 false 2 9) =
        some (5, [0x0DC0, 0x0004, 0xA1C2, 0x0004, 0xA1D0, 0x8209, 0x8B2F]) := by decide +kernel

theorem witness_DownlinkMessagesAreFramed :
    8 ≤ 8 ∧ [2, 3, 4, 5, 6, 7, 8, 63].length ≤ 8 ∧ (∀ a ∈ [2, 3, 4, 5, 6, 7, 8, 63], a ≤ 63) ∧ 16 ≤ 16 ∧ 15 ≤ 15 ∧
      255 ≤ 255 := by decide


/-! ### Witnesses: the Station Directory -/

theorem witness_AttachAdmits :
    world.Quiet ∧ world.highway = .opened ∧ validNumber 0x105 = true ∧ world.listed 0x105 = false ∧
      (∀ k, ∀ r ∈ world.station k, r.number ≠ 0x105) ∧ (∀ k, ∀ r ∈ world.station k, r.drop = 5 → r.via ≠ none) ∧
      world.station 5 = none ∧ (∀ k : Handle, k < 5 → world.station k ≠ none) := by decide +kernel

/-- Every handle is in use, each new record on drop 9 behind the relay H2. -/
def crowded (s : State) : State :=
  { s with
    stations := s.stations.mapIdx fun k r =>
      r.or (some { behind with number := 0x1000 + BitVec.ofNat 32 k, drop := 9 }) }

theorem witness_AttachIsRefused :
    world.Quiet ∧ { world with highway := .closed }.highway = .closed ∧
      { world with highway := .draining }.highway = .draining ∧ world.highway = .opened ∧ validNumber 0x0F = false ∧
      validNumber 0xFFFFFFFF = false ∧ validNumber 0x200 = true ∧ world.listed 0x200 = true ∧
      (validNumber 0x101 = true ∧ world.listed 0x101 = false ∧ world.lookup 0x101 = some (1, station 0x101 1 0) ∧
        (station 0x101 1 0).drop ≠ 5) ∧
      (world.lookup 0x103 = some (3, behind) ∧ behind.drop = 2 ∧ behind.via ≠ none) ∧
      (validNumber 0x105 = true ∧ world.lookup 0x105 = none ∧ world.station 0 = some (station 0x100 0 1) ∧
        (station 0x100 0 1).drop = 0 ∧ (station 0x100 0 1).via = none) ∧
      ((crowded world).Quiet ∧ (crowded world).lookup 0x105 = none ∧
        (∀ h, ∀ r ∈ (crowded world).station h, r.drop = 9 → r.via ≠ none) ∧
        ∀ h, (crowded world).station h ≠ none) := by decide +kernel

theorem witness_DeparturesClearTheirSet :
    world.Quiet ∧ world.lookup 0x100 = some (0, station 0x100 0 1) ∧ (station 0x100 0 1).drop = 0 ∧
      (station 0x100 0 1).via = none ∧ world.lookup 0x102 = some (2, relay) ∧ relay.drop = 2 ∧ relay.via = none ∧
      world.lookup 0x103 = some (3, behind) ∧ behind.drop = 2 ∧ behind.via ≠ none := by decide +kernel

theorem witness_MessagesAreTurnedAway :
    world.Quiet ∧ sourced (.accept 0 0x300 ⟨1, 0⟩) = some (0, 0x300, none, some ⟨1, 0⟩) ∧ world.lookup 0x300 = none ∧
      world.lookup 0x100 = some (0, station 0x100 0 1) ∧ (station 0x100 0 1).drop ≠ 5 ∧
      (station 0x100 0 1).drop = 0 ∧ isRosterMessage (.rosterEnd 0 0x100 1) = true ∧
      (station 0x100 0 1).kind ≠ .relay ∧ (world.lookup 0x103 = some (3, behind) ∧ behind.via ≠ none) ∧
      world.connection 9 = none ∧ world.serial 1 ≠ 4 ∧
      (world.lookup 0x103 = some (3, behind) ∧ behind.drop = 2 ∧ world.connection 1 = some offered ∧ world.serial 1 = 0 ∧
        offered.originator ≠ 3 ∧ offered.answerer ≠ 3) := by decide +kernel

/-! ### Witnesses: requests -/

/-- H0 has quota 7. -/
def tight : State := { world with stations := world.stations.set 0 (some { station 0x100 0 1 with quota := 7 }) }

theorem witness_RequestsAreChecked :
    world.Quiet ∧ world.lookup 0x100 = some (0, station 0x100 0 1) ∧ (station 0x100 0 1).drop = 0 ∧
      { world with highway := .draining }.highway = .draining ∧ { world with highway := .closed }.highway = .closed ∧
      world.highway = .opened ∧
      (world.lookup 0x104 = some (4, newRelay) ∧ newRelay.drop = 4 ∧ newRelay.state ≠ .admitted) ∧
      (world.lookup 0x103 = some (3, behind) ∧ behind.drop = 2 ∧ behind.state = .admitted ∧
        ∃ e ∈ world.waitQueue, e.source = 3) ∧
      (station 0x100 0 1).state = .admitted ∧ (∀ e ∈ world.waitQueue, e.source ≠ 0) ∧ world.lookup 0x300 = none ∧
      (world.lookup 0x101 = some (1, station 0x101 1 0) ∧ (station 0x101 1 0).state = .admitted) ∧
      (0 : ClassNo) < (station 0x100 0 1).cls ∧ (station 0x100 0 1).cls ≤ 1 ∧ (0 : Fin 16).val < 1 ∧
      (world.classPolicy 1).maxWidth < (5 : Fin 16).val ∧ (4 : Fin 16).val ≤ (world.classPolicy 1).maxWidth ∧
      ((fullTable 1).Quiet ∧ (fullTable 1).lookup 0x100 = some (0, station 0x100 0 1) ∧
        8 ≤ (fullTable 1).partyCount 1) ∧
      (tight.Quiet ∧ tight.lookup 0x100 = some (0, { station 0x100 0 1 with quota := 7 }) ∧ tight.partyCount 0 < 8 ∧
        tight.partyCount 1 < 8 ∧ 7 < tight.usage 0 + (4 : Fin 16).val) := by decide +kernel

/-- A request of H0 to H1 at class 1 passes every check up to width 4. -/
theorem world_passes : world.Passes 0 (station 0x100 0 1) 0x101 1 (station 0x101 1 0) 1 4 := by
  constructor <;> decide +kernel

theorem witness_RequestsArePlaced :
    world.Quiet ∧ world.lookup 0x100 = some (0, station 0x100 0 1) ∧ (station 0x100 0 1).drop = 0 ∧
      world.Passes 0 (station 0x100 0 1) 0x101 1 (station 0x101 1 0) 1 4 ∧ world.connection 4 = none ∧
      (∀ j : Index, j < 4 → world.connection j ≠ none) ∧ world.searchSlots true 4 = some [9, 10, 11, 12] :=
  ⟨by decide +kernel, by decide +kernel, by decide +kernel, world_passes, by decide +kernel, by decide +kernel,
    by decide +kernel⟩

theorem witness_SearchesFindTheLowest :
    1 ≤ 1 ∧ 8 ≤ 8 ∧ world.searchSlots false 1 = some [9] ∧
      world.searchSlots false 8 = some [9, 10, 11, 12, 13, 14, 15, 16] ∧ fullMap.searchSlots false 1 = none ∧
      fullMap.searchSlots true 8 = none := by decide +kernel

theorem fullMap_passes : fullMap.Passes 0 (station 0x100 0 1) 0x101 1 (station 0x101 1 0) 1 4 := by
  constructor <;> decide +kernel

theorem fullMap_passes_class3 : fullMap.Passes 0 (station 0x100 0 1) 0x101 1 (station 0x101 1 0) 3 2 := by
  constructor <;> decide +kernel

/-- A full Wait Queue behind the full map, its tail of a given class. -/
def fullQueue (tail : ClassNo) : State :=
  { fullMap with waitQueue := List.replicate 15 entry ++ [] ++ [{ entry with cls := tail }] }

theorem fullQueue_passes : (fullQueue 2).Passes 0 (station 0x100 0 1) 0x101 1 (station 0x101 1 0) 1 4 := by
  constructor <;> decide +kernel

theorem witness_RequestsAreQueued :
    fullMap.Quiet ∧ fullMap.lookup 0x100 = some (0, station 0x100 0 1) ∧
      fullMap.Passes 0 (station 0x100 0 1) 0x101 1 (station 0x101 1 0) 3 2 ∧
      fullMap.Passes 0 (station 0x100 0 1) 0x101 1 (station 0x101 1 0) 1 4 ∧ fullMap.searchSlots false 4 = none ∧
      fullMap.victimsFor 1 4 = none ∧ (fullMap.classPolicy 3).mayPreempt = false ∧
      (fullMap.classPolicy 3).queuePeriod = 0 ∧ 1 ≤ (fullMap.classPolicy 1).queuePeriod ∧
      fullMap.waitQueue.length < 16 ∧ fullMap.waitQueue = [] ++ [] ∧
      (fullQueue 2).Passes 0 (station 0x100 0 1) 0x101 1 (station 0x101 1 0) 1 4 ∧ 16 ≤ (fullQueue 2).waitQueue.length ∧
      (∀ e ∈ List.replicate 15 entry, e.cls ≤ 1) ∧ (1 : ClassNo) < { entry with cls := 2 }.cls ∧
      (fullQueue 2).station 3 = some behind ∧ 16 ≤ (fullQueue 1).waitQueue.length ∧
      { entry with cls := 1 }.cls ≤ (1 : ClassNo) :=
  ⟨by decide +kernel, by decide +kernel, fullMap_passes_class3, fullMap_passes, by decide +kernel, by decide +kernel,
    by decide +kernel, by decide +kernel, by decide +kernel, by decide +kernel, by decide +kernel, fullQueue_passes,
    by decide +kernel, by decide +kernel, by decide +kernel, by decide +kernel, by decide +kernel, by decide +kernel⟩

/-- The full map with an entry of H3 waiting. -/
def queuedFullMap : State := { fullMap with waitQueue := [entry] }

theorem queuedFullMap_passes : queuedFullMap.Passes 0 (station 0x100 0 1) 0x101 1 (station 0x101 1 0) 1 2 := by
  constructor <;> decide +kernel

theorem witness_PreemptionMakesRoom :
    queuedFullMap.Quiet ∧ queuedFullMap.lookup 0x100 = some (0, station 0x100 0 1) ∧ (station 0x100 0 1).drop = 0 ∧
      queuedFullMap.Passes 0 (station 0x100 0 1) 0x101 1 (station 0x101 1 0) 1 2 ∧
      queuedFullMap.searchSlots false 2 = none ∧ (queuedFullMap.classPolicy 1).mayPreempt = true ∧
      queuedFullMap.victimsFor 1 2 = some [(0, active)] ∧ queuedFullMap.waitQueue ≠ [] :=
  ⟨by decide +kernel, by decide +kernel, by decide +kernel, queuedFullMap_passes, by decide +kernel, by decide +kernel,
    by decide +kernel, by decide +kernel⟩

/-! ### Witnesses: connections -/

theorem witness_RemovalFreesRecordAndSlots :
    world.connection 0 = some active ∧ world.connection 1 = some offered ∧ world.connection 2 = some waiting ∧
      (world.station active.originator = some (station 0x100 0 1) ∧
        world.station active.answerer = some (station 0x101 1 0) ∧ active.originator ∉ ([1] : List Handle) ∧
        active.answerer ∈ ([1] : List Handle) ∧ active.originator ∈ ([0] : List Handle) ∧
        active.answerer ∉ ([0] : List Handle)) ∧
      (waiting.originator ∈ ([0, 3] : List Handle) ∧ waiting.answerer ∈ ([0, 3] : List Handle)) ∧
      (world.station entry.source = some behind ∧ entry.source ∈ ([3] : List Handle) ∧
        entry.source ∉ ([1] : List Handle) ∧ entry.peer ∈ ([1] : List Handle) ∧ entry.peer ∉ ([2] : List Handle)) := by
  decide +kernel

theorem witness_AcceptActivates :
    world.Quiet ∧ world.lookup 0x101 = some (1, station 0x101 1 0) ∧ (station 0x101 1 0).drop = 1 ∧
      world.connection 1 = some offered ∧ world.serial 1 = 0 ∧ offered.originator = 1 ∧
      world.lookup 0x100 = some (0, station 0x100 0 1) ∧ offered.originator ≠ 0 ∧ offered.answerer = 0 ∧
      offered.state = .offered ∧ world.station 1 = some (station 0x101 1 0) ∧
      (world.connection 0 = some active ∧ active.originator ≠ 1 ∧ active.answerer = 1 ∧ active.state ≠ .offered) := by
  decide +kernel

theorem witness_DeclineAndReleaseRemove :
    world.Quiet ∧ world.lookup 0x100 = some (0, station 0x100 0 1) ∧ world.lookup 0x101 = some (1, station 0x101 1 0) ∧
      world.lookup 0x103 = some (3, behind) ∧ world.station 0 = some (station 0x100 0 1) ∧
      world.station 1 = some (station 0x101 1 0) ∧ world.station 3 = some behind ∧
      (world.connection 2 = some waiting ∧ waiting.originator = 0 ∧ waiting.answerer = 3 ∧ waiting.state = .pending) ∧
      (world.connection 1 = some offered ∧ offered.originator = 1 ∧ offered.answerer = 0 ∧ offered.state = .offered) ∧
      (world.connection 3 = some pinned ∧ pinned.originator = 1 ∧ pinned.answerer = 3 ∧ pinned.state = .active ∧
        pinned.pinned = true) ∧
      (world.connection 0 = some active ∧ active.originator = 0 ∧ active.answerer = 1 ∧ active.state = .active ∧
        active.pinned = false) ∧
      (∀ i, world.serial i = 0) := by decide +kernel

theorem witness_RenewSetsTheLease :
    world.Quiet ∧ world.lookup 0x100 = some (0, station 0x100 0 1) ∧ world.lookup 0x101 = some (1, station 0x101 1 0) ∧
      world.connection 0 = some active ∧ world.serial 0 = 0 ∧ active.originator ≠ 1 ∧ active.answerer = 1 ∧
      active.originator = 0 ∧ active.state = .active ∧ active.pinned = false ∧ world.highway ≠ .draining ∧
      { world with highway := .draining }.highway = .draining ∧
      (world.connection 1 = some offered ∧ offered.originator = 1 ∧ offered.state ≠ .active) ∧
      (world.connection 3 = some pinned ∧ pinned.originator = 1 ∧ pinned.state = .active ∧ pinned.pinned = true) := by
  decide +kernel

theorem witness_QueryListsConnections :
    world.Quiet ∧ world.lookup 0x100 = some (0, station 0x100 0 1) ∧ (station 0x100 0 1).drop = 0 := by decide +kernel

theorem witness_CancelRemovesTheEntry :
    world.Quiet ∧ world.lookup 0x104 = some (4, newRelay) ∧ newRelay.drop = 4 ∧ newRelay.state ≠ .admitted ∧
      world.lookup 0x100 = some (0, station 0x100 0 1) ∧ (station 0x100 0 1).state = .admitted ∧
      (∀ e ∈ world.waitQueue, e.source ≠ 0) ∧ world.lookup 0x103 = some (3, behind) ∧ behind.drop = 2 ∧
      behind.state = .admitted ∧ world.waitQueue = [] ++ entry :: [] ∧ entry.source = 3 ∧ entry.tag = 5 ∧
      entry.tag ≠ 4 := by decide +kernel

/-! ### Witnesses: rosters -/

/-- The relay H2 has an assembly open. -/
def assembled (a : Assembly) : State := { world with assemblies := world.assemblies.set 2 (some a) }

def kept : RosterEntry := ⟨0x103, .endStation, 1⟩

def new : RosterEntry := ⟨0x105, .relay, 1⟩

/-- A whole run of generation 7 that meets every check. -/
def goodRun : Assembly := ⟨7, 2, 1, 1, [kept, new]⟩

theorem witness_RosterBeginOpensTheAssembly :
    world.Quiet ∧ world.lookup 0x102 = some (2, relay) ∧ relay.drop = 2 ∧ relay.kind = .relay ∧ relay.via = none := by
  decide +kernel

theorem witness_RosterPartsAreGathered :
    world.lookup 0x102 = some (2, relay) ∧ world.assembly 2 = none ∧
      (let a : Assembly := ⟨7, 3, 1, 1, [kept]⟩
       (assembled a).Quiet ∧ (assembled a).lookup 0x102 = some (2, relay) ∧ (assembled a).assembly 2 = some a ∧
        (0 : Fin 64).val ≠ a.partsReceived ∧ (1 : Fin 64).val = a.partsReceived ∧ a.partsReceived ≠ 5 ∧
        a.declaredCount < a.entries.length + [new, new, new].length ∧
        a.entries.length + [new, new].length ≤ a.declaredCount) ∧
      (⟨7, 3, 1, 5, [kept]⟩ : Assembly).partsReceived = 5 := by decide +kernel

/-- What the clauses of the checks of R99 ask of a run. -/
def numbersOf (a : Assembly) : List StationNumber := a.entries.map fun e => e.number

def runTierWrong (a : Assembly) : Prop :=
  ∃ e ∈ a.entries, e.tier.val < 1 ∨ 4 < e.tier.val ∨ (e.kind = .relay ∧ 3 < e.tier.val)

def runDeepest (a : Assembly) : Prop :=
  (∀ e ∈ a.entries, e.kind = .relay → e.tier.val ≤ a.declaredDepth) ∧
    (a.declaredDepth = 0 ∨ ∃ e ∈ a.entries, e.kind = .relay ∧ e.tier.val = a.declaredDepth)

theorem witness_RosterEndIsChecked :
    world.lookup 0x102 = some (2, relay) ∧ world.assembly 2 = none ∧
      ((assembled goodRun).Quiet ∧ (assembled goodRun).lookup 0x102 = some (2, relay) ∧
        (assembled goodRun).assembly 2 = some goodRun ∧ (8 : Byte) ≠ goodRun.generation ∧
        goodRun.entries.length = goodRun.declaredCount) ∧
      (let short : Assembly := ⟨7, 3, 1, 1, [kept, new]⟩
       short.entries.length ≠ short.declaredCount) ∧
      ((∀ e ∈ goodRun.entries, validNumber e.number = true ∧ e.number ≠ 0x102) ∧ (numbersOf goodRun).Nodup ∧
        (∀ e ∈ goodRun.entries, world.listed e.number = false) ∧ world.lookup 0x103 = some (3, behind) ∧
        behind.via = some 2 ∧ world.lookup 0x105 = none) ∧
      (validNumber 0x0F = false ∧ ¬ (numbersOf ⟨7, 2, 0, 1, [kept, kept]⟩).Nodup) ∧
      (world.listed 0x200 = true ∧ world.lookup 0x100 = some (0, station 0x100 0 1) ∧
        (station 0x100 0 1).via ≠ some 2) := by decide +kernel

theorem witness_RosterEndIsChecked_noRoom :
    (crowded (assembled goodRun)).lookup 0x102 = some (2, relay) ∧ (∀ k, (crowded (assembled goodRun)).station k ≠ none) ∧
      (crowded (assembled goodRun)).lookup 0x105 = none ∧ goodRun.entries = [kept, new] ∧ new.number = 0x105 := by
  decide +kernel

theorem witness_RosterEndIsChecked_tiers :
    ¬ runTierWrong goodRun ∧ runDeepest goodRun ∧
      runTierWrong ⟨7, 1, 1, 1, [⟨0x105, .relay, 4⟩]⟩ ∧ runTierWrong ⟨7, 1, 0, 1, [⟨0x105, .endStation, 5⟩]⟩ ∧
      runTierWrong ⟨7, 1, 0, 1, [⟨0x105, .endStation, 0⟩]⟩ ∧ ¬ runDeepest ⟨7, 2, 0, 1, [kept, new]⟩ := by
  unfold runTierWrong runDeepest
  decide +kernel

/-! ### Witnesses: superframe boundaries -/

/-- The four blocks are owed the boundary. -/
def bounded (s : State) : State := { s with owed := ⟨true, true, true, true⟩ }

theorem witness_GuardEndFreesAndCompletes :
    (bounded world).Quiet ∧ (bounded world).owed.guardEnd = true ∧ world.owed.guardEnd = false ∧
      (bounded world).slot 8 = some (.guard none (!world.timer.parity)) ∧
      (bounded world).slot 6 = some (.guard (some 2) (!world.timer.parity)) ∧
      (bounded world).connection 2 = some waiting ∧ waiting.state = .pending ∧
      (∀ i, ∀ k ∈ (bounded world).connection i, k.state = .pending → i = 2) ∧ [(2 : Index)].Nodup ∧
      (∀ x ∈ (bounded fullMap).slots.toList, x ≠ .guard none (!fullMap.timer.parity)) ∧
      (bounded fullMap).owed.guardEnd = true := by decide +kernel

/-- No countdown of the part runs out at this boundary. -/
def unhurried : State :=
  { world with
    connections := Vector.replicate 32 (some { active with countdown := some ⟨2, true⟩ })
    waitQueue := [{ entry with countdown := ⟨2, true⟩ }]
    stations := world.stations.set 4 (some { newRelay with deadline := some ⟨2, true⟩ }) }

theorem witness_LeaseWalkLowersAndExpires :
    (bounded world).Quiet ∧ (bounded world).owed.leaseWalk = true ∧ world.owed.leaseWalk = false ∧
      (∀ i, ∀ k ∈ (bounded unhurried).connection i, ∀ d ∈ k.countdown, 1 < d.remaining) ∧
      (world.connection 0 = some active ∧ active.countdown = some ⟨1, true⟩ ∧ true ≠ world.timer.parity) ∧
      world.due = none ∧
      ({ world with due := some (.connection 0) }.hold = .running ∧ active.state = .active ∧
        world.station active.originator = some (station 0x100 0 1) ∧
        world.station active.answerer = some (station 0x101 1 0)) ∧
      ({ world with due := some (.connection 1) }.hold = .running ∧ world.connection 1 = some offered ∧
        offered.state = .offered) := by decide +kernel

theorem witness_QueueWalkLowersAndTimesOut :
    (bounded world).Quiet ∧ (bounded world).owed.queueWalk = true ∧ world.owed.queueWalk = false ∧
      (∀ e ∈ (bounded unhurried).waitQueue, 1 < e.countdown.remaining) ∧
      (world.waitQueue = [] ++ entry :: [] ∧ entry.countdown.superframe ≠ world.timer.parity ∧
        entry.countdown.remaining ≤ 1) ∧
      world.due = none ∧ { world with due := some (.entry 0) }.due = some (.entry ([] : List Entry).length) ∧
      world.station entry.source = some behind := by decide +kernel

theorem witness_RosterWalkLowersAndEvicts :
    (bounded world).Quiet ∧ (bounded world).owed.rosterWalk = true ∧ world.owed.rosterWalk = false ∧
      (∀ h, ∀ r ∈ (bounded unhurried).station h, ∀ d ∈ r.deadline, 1 < d.remaining) ∧
      (world.station 4 = some newRelay ∧ newRelay.topRelay = true ∧ newRelay.deadline = some ⟨1, true⟩ ∧
        ∀ k : Handle, k < 4 → ∀ x ∈ world.station k, x.deadline = none) ∧
      world.due = none ∧ { world with due := some (.relay 4) }.hold = .running ∧ newRelay.kind = .relay ∧
      newRelay.via = none ∧ (∀ k, ∀ x ∈ world.station k, x.via ≠ some 4) ∧
      (∀ i, ∀ k ∈ world.connection i, k.originator ≠ 4 ∧ k.answerer ≠ 4) ∧
      (∀ e ∈ world.waitQueue, e.source ≠ 4 ∧ e.peer ≠ 4) := by decide +kernel

/-! ### Witnesses: the Host Port -/

theorem witness_ReadsCaptureTheWindow :
    world.Quiet ∧ world.hold = .running ∧ (heldBy true false false).hold ≠ .running ∧
      (0x8D : Byte).getLsbD 7 = true ∧ (0x20 : Byte).getLsbD 7 = false := by decide +kernel

/-- An SPI transaction stands in progress. -/
def transacting (s : State) (x : SpiTransaction) : State := { s with spi := { s.spi with transaction := some x } }

theorem witness_WritesReachTheirLocation :
    world.Quiet ∧ ((0x45 : Byte).getLsbD 7 = false ∧ (0x05 : BitVec 6) = (0x45 : Byte).setWidth 6) ∧
      ((0x33 : Byte).getLsbD 7 = false ∧ (0x33 : BitVec 6) = (0x33 : Byte).setWidth 6) ∧ (0xA0 : Byte).getLsbD 7 = true ∧
      (transacting world (.writing 0x20 false)).Quiet ∧
      (transacting world (.writing 0x20 false)).spi.transaction = some (.writing 0x20 false) ∧
      (0x20 : BitVec 6).toNat = 0x20 + (0 : Fin 20).val ∧ (0x33 : BitVec 6).toNat = 0x20 + (19 : Fin 20).val ∧
      (0x02 : BitVec 6) < 0x03 ∧ (0x33 : BitVec 6) < 0x34 ∧ (0x08 : BitVec 6) < 0x09 ∧ (0x1F : BitVec 6) < 0x20 ∧
      (commanded world 0x22 []).port.mailbox ≠ .idle ∧ world.port.mailbox = .idle ∧ (0x01 : Byte) ∈ commandCodes ∧
      (0x04 : Byte) ∉ commandCodes ∧ (heldBy false true false).hold ≠ .running ∧
      (transacting world (.addressing true)).spi.transaction = some (.addressing true) ∧
      (transacting world (.writing 0x20 true)).spi.transaction = some (.writing 0x20 true) ∧
      (transacting world (.reading 0x20)).spi.transaction = some (.reading 0x20) ∧
      world.spi.transaction = none := by decide +kernel

theorem witness_CommandsAreLatchedTakenAndCompleted :
    hostCode .evict = some 0x22 ∧ world.Quiet ∧ world.port.mailbox = .idle ∧
      (commanded world 0x24 []).port.mailbox ≠ .idle ∧
      ¬((commanded world 0x24 []).port.mailbox = .latched ∧ (commanded world 0x24 []).port.command = 0x22) ∧
      (heldBy false false true).hold ≠ .running ∧
      (world.finished .ok [1]).port.mailbox = .done .ok (readoutOf [1]) ∧
      (commanded world 0x24 []).port.mailbox = .latched := by decide +kernel

theorem witness_ServicePassExaminesInQueueOrder :
    { world with highway := .draining }.highway ≠ .opened ∧ world.highway = .opened ∧
      world.station entry.source = some behind ∧ world.station entry.peer = some (station 0x101 1 0) ∧
      (world.classPolicy 1).maxWidth < { entry with width := 5 }.width ∧
      entry.width ≤ (world.classPolicy entry.cls).maxWidth ∧ fullMap.searchSlots entry.contiguous entry.width = none ∧
      world.partyCount entry.source < 8 ∧ world.partyCount entry.peer < 8 ∧
      world.usage entry.source + entry.width ≤ behind.quota ∧ world.connection 4 = none ∧
      (∀ j : Index, j < 4 → world.connection j ≠ none) ∧
      world.searchSlots entry.contiguous entry.width = some [9, 10] := by decide +kernel

/-! ### Witnesses: host commands -/

theorem witness_OpenAndCloseSetTheHighway :
    (commanded world 0x01 []).Latched 0x01 ∧ (commanded world 0x01 []).highway = .opened ∧
      { commanded world 0x01 [] with highway := .draining }.highway ≠ .opened ∧
      (commanded world 0x03 []).Latched 0x03 := by decide +kernel

theorem witness_DrainTurnsAwayWhatWaits :
    (commanded world 0x02 []).Latched 0x02 ∧ (commanded world 0x02 []).highway = .opened ∧
      { commanded world 0x02 [] with highway := .closed }.highway = .closed ∧
      { commanded world 0x02 [] with highway := .draining }.highway = .draining := by decide +kernel

theorem witness_ReadsAnswerWithTheirForms :
    (∀ code, (commanded world code []).Latched code) ∧
      (let s := commanded world 0x10 [0, 3]
       s.argNat 0 = 0 ∧ (3 : Handle).val = s.argNat 1 ∧ s.station 3 = some behind) ∧
      (let s := commanded world 0x10 [0, 47]
       (47 : Handle).val = s.argNat 1 ∧ s.station 47 = none) ∧
      47 < (commanded world 0x10 [0, 48]).argNat 1 ∧
      (let s := commanded world 0x10 [1, 0, 0, 1, 3]
       s.argNat 0 = 1 ∧ s.lookup s.argNumber1 = some (3, behind)) ∧
      (let s := commanded world 0x10 [1, 0, 0, 9, 9]
       s.argNat 0 = 1 ∧ s.lookup s.argNumber1 = none) ∧
      1 < (commanded world 0x10 [2]).argNat 0 ∧ 31 < (commanded world 0x11 [32]).argNat 0 ∧
      (31 : Index).val = (commanded world 0x11 [31]).argNat 0 ∧ world.connection 31 = none ∧
      (0 : Index).val = (commanded world 0x11 [0]).argNat 0 ∧ world.connection 0 = some active ∧
      3 < (commanded world 0x12 [4]).argNat 0 ∧ (commanded world 0x12 [3]).argNat 0 ≤ 3 ∧
      (commanded world 0x13 [0]).argNat 0 < 1 ∧ 16 < (commanded world 0x13 [17]).argNat 0 ∧
      world.waitQueue.length < (commanded world 0x13 [16]).argNat 0 ∧
      world.waitQueue[(commanded world 0x13 [1]).argNat 0 - 1]? = some entry ∧
      24 < (commanded world 0x14 [25]).argNat 0 ∧ world.denyList.length < (commanded world 0x14 [24]).argNat 0 ∧
      world.denyList[(commanded world 0x14 [1]).argNat 0 - 1]? = some ⟨0x200, 7, 255⟩ ∧
      3 < (commanded world 0x15 [4]).argNat 0 ∧ (3 : ClassNo).val = (commanded world 0x15 [3]).argNat 0 :=
  ⟨fun _ => ⟨⟨rfl, rfl⟩, rfl, rfl⟩, by decide +kernel⟩

theorem witness_FormsHoldTheirFields :
    world.station active.originator = some (station 0x100 0 1) ∧ world.station active.answerer = some (station 0x101 1 0) ∧
      3 ≤ 3 ∧ world.station entry.source = some behind := by decide +kernel

/-- A full deny list. -/
def barred : List DenyEntry := (List.range 24).map fun k => ⟨0x200 + BitVec.ofNat 32 k, 0, 0⟩

theorem witness_DenyCommandsKeepTheList :
    (commanded world 0x20 []).Latched 0x20 ∧ validNumber (commanded world 0x20 [0, 0, 0, 0x0F]).argNumber = false ∧
      (let s := commanded world 0x20 [0, 0, 2, 0, 9]
       validNumber s.argNumber = true ∧ ∃ e ∈ s.denyList, e.number = s.argNumber) ∧
      (let s := commanded { world with denyList := barred } 0x20 [0, 0, 3, 0, 9]
       validNumber s.argNumber = true ∧ (∀ e ∈ s.denyList, e.number ≠ s.argNumber) ∧ 24 ≤ s.denyList.length) ∧
      (let s := commanded world 0x20 [0, 0, 2, 1, 9]
       (∀ e ∈ s.denyList, e.number ≠ s.argNumber) ∧ s.denyList.length < 24 ∧ s.denyList = [⟨0x200, 7, 255⟩] ++ [] ∧
        (0x200 : StationNumber) < s.argNumber ∧ s.lookup s.argNumber = none) ∧
      (let s := commanded world 0x20 [0, 0, 1, 0, 9]
       s.denyList = [] ++ [⟨0x200, 7, 255⟩] ∧ s.argNumber < (0x200 : StationNumber) ∧
        s.lookup s.argNumber = some (0, station 0x100 0 1)) ∧
      (commanded world 0x21 []).Latched 0x21 ∧
      (let s := commanded world 0x21 [0, 0, 2, 0]
       s.denyList = [] ++ ⟨0x200, 7, 255⟩ :: [] ∧ (0x200 : StationNumber) = s.argNumber) ∧
      (∀ e ∈ world.denyList, e.number ≠ (commanded world 0x21 [0, 0, 2, 1]).argNumber) := by decide +kernel

theorem witness_EvictionsAndQuotas :
    world.station 2 = some relay ∧ world.station 3 = some behind ∧ (commanded world 0x22 []).Latched 0x22 ∧
      (let s := commanded world 0x22 [0, 0, 1, 2]
       s.lookup s.argNumber = some (2, relay)) ∧
      (let s := commanded world 0x22 [0, 0, 9, 9]
       s.lookup s.argNumber = none) ∧
      (commanded world 0x23 []).Latched 0x23 ∧ (commanded world 0x23 [0, 0, 1, 0, 0]).argNat 4 < 1 ∧
      16 < (commanded world 0x23 [0, 0, 1, 0, 17]).argNat 4 ∧ (commanded world 0x23 [0, 0, 1, 0, 16]).argNat 4 ≤ 16 ∧
      1 ≤ (commanded world 0x23 [0, 0, 1, 0, 1]).argNat 4 ∧
      (commanded world 0x23 [0, 0, 1, 0, 1]).lookup (commanded world 0x23 [0, 0, 1, 0, 1]).argNumber =
        some (0, station 0x100 0 1) := by decide +kernel

/-- PIN between H0 and H1 in class 3, over a number of slots. -/
def pinning (s : State) (cls : Byte) (slots : List Byte) : State :=
  commanded s 0x24 ([0, 0, 1, 0, 0, 0, 1, 1, cls, BitVec.ofNat 8 slots.length] ++ slots)

theorem witness_PinMakesAPinnedConnection :
    (pinning world 3 [9]).Latched 0x24 ∧ 3 < (pinning world 4 [9]).argNat 8 ∧ (pinning world 3 []).argNat 9 < 1 ∧
      8 < (pinning world 3 [9, 10, 11, 12, 13, 14, 15, 16, 17]).argNat 9 ∧
      (∃ n ∈ (pinning world 3 [64]).argSlots, 63 < n) ∧ (∃ n ∈ (pinning world 3 [1]).argSlots, n < 2) ∧
      ¬ (pinning world 3 [9, 9]).argSlots.Nodup ∧
      (let s := pinning world 3 [63, 9]
       ¬ (3 < s.argNat 8 ∨ s.argNat 9 < 1 ∨ 8 < s.argNat 9 ∨ (∃ n ∈ s.argSlots, n < 2 ∨ 63 < n) ∨ ¬ s.argSlots.Nodup ∨
          s.argNumber = s.argNumber4) ∧
        s.highway = .opened ∧ s.lookup s.argNumber = some (0, station 0x100 0 1) ∧
        s.lookup s.argNumber4 = some (1, station 0x101 1 0) ∧ (station 0x100 0 1).state = .admitted ∧
        (station 0x101 1 0).state = .admitted ∧ s.partyCount 0 < 8 ∧ s.partyCount 1 < 8 ∧ s.connection 4 = none ∧
        (∀ j : Index, j < 4 → s.connection j ≠ none) ∧ (3 : ClassNo).val = s.argNat 8 ∧
        ∀ n ∈ s.argSlots, s.slot n = some .free) ∧
      (∃ n ∈ (pinning world 3 [9, 8]).argSlots, (pinning world 3 [9, 8]).slot n ≠ some .free) ∧
      { pinning world 3 [9] with highway := .draining }.highway ≠ .opened ∧
      (let s := commanded world 0x24 [0, 0, 9, 9, 0, 0, 1, 1, 3, 1, 9]
       s.lookup s.argNumber = none) ∧
      (let s := commanded world 0x24 [0, 0, 1, 0, 0, 0, 1, 4, 3, 1, 9]
       s.lookup s.argNumber4 = some (4, newRelay) ∧ newRelay.state ≠ .admitted) ∧
      8 ≤ (pinning (fullTable 1) 3 [40]).partyCount 1 := by decide +kernel

/-- The table full, yet H0 and H2 party to no connection. -/
theorem witness_PinMakesAPinnedConnection_tableFull :
    let s := commanded (fullTable 1) 0x24 [0, 0, 1, 0, 0, 0, 1, 2, 3, 1, 40]
    s.lookup s.argNumber = some (0, station 0x100 0 1) ∧ s.lookup s.argNumber4 = some (2, relay) ∧ s.partyCount 0 < 8 ∧
      s.partyCount 2 < 8 ∧ ∀ i, s.connection i ≠ none := by decide +kernel

theorem witness_UnpinAndForceRelease :
    (commanded world 0x25 [3]).Latched 0x25 ∧ (commanded world 0x26 [0]).Latched 0x26 ∧
      (3 : Index).val = (commanded world 0x25 [0x23]).argNat 0 % 32 ∧
      (world.serial 3).toNat ≠ (commanded world 0x25 [0x23]).argNat 0 / 32 ∧ world.connection 10 = none ∧
      (3 : Index).val = (commanded world 0x25 [3]).argNat 0 % 32 ∧
      (world.serial 3).toNat = (commanded world 0x25 [3]).argNat 0 / 32 ∧ world.connection 3 = some pinned ∧
      pinned.pinned = true ∧ world.connection 0 = some active ∧ active.pinned = false ∧ active.state = .active ∧
      world.connection 1 = some offered ∧ offered.state = .offered ∧ world.connection 2 = some waiting ∧
      waiting.state = .pending ∧ world.station 0 = some (station 0x100 0 1) ∧
      world.station 1 = some (station 0x101 1 0) ∧ world.station 3 = some behind := by decide +kernel

theorem witness_PolicyAndTimingAreReplaced :
    (commanded world 0x27 []).Latched 0x27 ∧ (commanded world 0x28 []).Latched 0x28 ∧
      (let s := commanded world 0x27 [4, 0, 9, 17, 0, 2]
       3 < s.argNat 0 ∧ s.argNat 1 < 1 ∧ 8 < s.argNat 2 ∧ 16 < s.argNat 3 ∧ 1 < s.argNat 5) ∧
      (let s := commanded world 0x27 [3, 255, 8, 16, 255, 1]
       ¬ (3 < s.argNat 0 ∨ s.argNat 1 < 1 ∨ s.argNat 2 < 1 ∨ 8 < s.argNat 2 ∨ s.argNat 3 < 1 ∨ 16 < s.argNat 3 ∨
          1 < s.argNat 5) ∧ (3 : ClassNo).val = s.argNat 0) ∧
      (let s := commanded world 0x28 [16, 0]
       15 < s.argNat 0 ∧ s.argNat 1 < 1) ∧
      (let s := commanded world 0x28 [15, 255]
       ¬ (s.argNat 0 < 1 ∨ 15 < s.argNat 0 ∨ s.argNat 1 < 1)) := by decide +kernel

/-! ### Witnesses: the laws -/

theorem world_denyLaw : world.DenyLaw := by constructor <;> decide +kernel

theorem world_queueLaw : world.QueueLaw := by constructor <;> decide +kernel

theorem world_downlinkLaw : world.DownlinkLaw := by
  unfold State.DownlinkLaw
  decide +kernel

theorem world_rangeLaw : world.RangeLaw where
  lease := by decide +kernel
  maxWidth := by decide +kernel
  defaultQuota := by decide +kernel
  queuePeriod := by decide +kernel
  answer := by decide +kernel
  roster := by decide +kernel
  connectionWidth := by
    have h : ∀ i, ∀ c ∈ world.connection i, 1 ≤ c.width ∧ c.width ≤ 8 := by decide +kernel
    exact h
  entryWidth := by decide +kernel
  quota := by
    have h : ∀ k, ∀ r ∈ world.station k, 1 ≤ r.quota ∧ r.quota ≤ 16 := by decide +kernel
    exact h
  tier := by
    have h : ∀ k, ∀ r ∈ world.station k, r.tier ≤ 4 := by decide +kernel
    exact h

theorem slot_number_below_64 {s : State} {n : Nat} {r : SlotRecord} (h : s.slot n = some r) : n < 64 :=
  Nat.lt_succ_of_le ((State.slot_isSome_iff s n).mp (by rw [h]; rfl)).2

/-- The part in CLOSED after CLOSE. -/
def emptied : State := after .close (commanded world 0x03 [])

theorem emptied_closedLaw : emptied.highway = .closed ∧ emptied.ClosedLaw := by
  refine ⟨by decide +kernel, fun _ => by decide +kernel, fun _ => by decide +kernel, fun _ => by decide +kernel,
    fun _ => by decide +kernel, fun _ n r h => ?_⟩
  have low := slot_number_below_64 h
  have all : ∀ n : Fin 64, ∀ r ∈ emptied.slot n, r = .free := by decide +kernel
  exact all ⟨n, low⟩ r h

/-- The part in DRAINING after DRAIN. -/
def drained : State := after (.drain true) (commanded world 0x02 [])

theorem drained_drainingLaw : drained.highway = .draining ∧ drained.DrainingLaw := by
  have all : ∀ i, ∀ c ∈ drained.connection i, c.state = .active := by decide +kernel
  exact ⟨by decide +kernel, fun _ => by decide +kernel, fun _ => all⟩

theorem held_heldLaw : (after .rstLow world).hold ≠ .running ∧ (after .rstLow world).HeldLaw :=
  ⟨by decide +kernel, fun _ => by decide +kernel, fun _ x h => by cases h⟩

theorem witness_LinesCloseWindows_held :
    (after .rstLow world).hold ≠ .running ∧ (after .rstLow world).HeldLaw := held_heldLaw

theorem world_directoryLaw : world.DirectoryLaw where
  oneRecord := by
    have h : ∀ h k, ∀ r ∈ world.station h, ∀ q ∈ world.station k, r.number = q.number → h = k := by decide +kernel
    exact fun a b r q hr hq => h a b r hr q hq
  notListed := by
    have h : ∀ h, ∀ r ∈ world.station h, world.listed r.number = false := by decide +kernel
    exact h
  viaRelay := by
    have h : ∀ h, ∀ r ∈ world.station h, ∀ v ∈ r.via,
        world.station v = some relay ∧ relay.topRelay = true ∧ relay.state = .admitted ∧ relay.drop = r.drop := by
      decide +kernel
    exact fun a r v hr hv => ⟨relay, h a r hr v hv⟩
  oneTopStation := by
    have h : ∀ h k, ∀ r ∈ world.station h, ∀ q ∈ world.station k,
        r.via = none → q.via = none → r.drop = q.drop → h = k := by decide +kernel
    exact fun a b r q hr hq => h a b r hr q hq
  atMost15 := by decide +kernel
  declared := by
    have h : ∀ h, ∀ a ∈ world.assembly h, a.declaredCount ≤ 15 := by decide +kernel
    exact h

theorem world_slotLaw : world.SlotLaw where
  owners n i := by
    have owned : ∀ n : Fin 64, ∀ r ∈ world.slot n, ∀ i ∈ r.owner,
        ((world.connection i).any fun c => c.slotList.contains n.val) = true := by decide +kernel
    have listed : ∀ i, ∀ c ∈ world.connection i, ∀ n ∈ c.slotList,
        ((world.slot n).any fun r => r.owner = some i) = true := by decide +kernel
    constructor
    · rintro ⟨r, hr, ho⟩
      simpa [Option.any_eq_true] using owned ⟨n, slot_number_below_64 hr⟩ r hr i ho
    · rintro ⟨c, hc, hn⟩
      simpa [State.ownedBy, Option.any_eq_true] using listed i c hc n hn
  states i c hc := by
    have h : ∀ i, ∀ c ∈ world.connection i,
        (c.state = .active → ∀ n ∈ c.slotList, world.slot n = some (.held i)) ∧
        (c.state = .offered → ∀ n ∈ c.slotList, world.slot n = some (.reserved i)) ∧
        (c.state = .pending → ∃ p, (∀ n ∈ c.slotList,
            world.slot n = some (.reserved i) ∨ world.slot n = some (.guard (some i) p)) ∧
          ∃ n ∈ c.slotList, world.slot n = some (.guard (some i) p)) := by decide +kernel
    obtain ⟨active, offered, pending⟩ := h i c hc
    unfold State.slotsInState
    split
    · exact active ‹_›
    · exact offered ‹_›
    · exact pending ‹_›
  ascending := by
    have h : ∀ i, ∀ c ∈ world.connection i, c.slotList.Pairwise (· < ·) := by decide +kernel
    exact h
  widths := by
    have h : ∀ i, ∀ c ∈ world.connection i, c.slotList.length = c.width := by decide +kernel
    exact h

theorem world_partyLaw : world.PartyLaw := by
  have admitted : ∀ h, ((world.station h).any fun r => r.state = .admitted) = true → world.admittedAt h := by
    intro h e
    simpa [State.admittedAt, Option.any_eq_true] using e
  have parties : ∀ i, ∀ c ∈ world.connection i, c.originator ≠ c.answerer ∧
      ((world.station c.originator).any fun r => r.state = .admitted) = true ∧
      ((world.station c.answerer).any fun r => r.state = .admitted) = true := by decide +kernel
  have entries : ∀ e ∈ world.waitQueue, e.source ≠ e.peer ∧
      ((world.station e.source).any fun r => r.state = .admitted) = true ∧
      ((world.station e.peer).any fun r => r.state = .admitted) = true := by decide +kernel
  have pinnedActive : ∀ i, ∀ c ∈ world.connection i, c.pinned = true → c.state = .active := by decide +kernel
  exact
    { parties := fun i c h => ⟨(parties i c h).1, admitted _ (parties i c h).2.1, admitted _ (parties i c h).2.2⟩
      entries := fun e h => ⟨(entries e h).1, admitted _ (entries e h).2.1, admitted _ (entries e h).2.2⟩
      atMost8 := by decide +kernel
      pinnedActive := pinnedActive }

theorem witness_TablesStayInBounds :
    world.DenyLaw ∧ world.QueueLaw ∧ world.DownlinkLaw ∧ world.RangeLaw :=
  ⟨world_denyLaw, world_queueLaw, world_downlinkLaw, world_rangeLaw⟩

theorem witness_HighwayStatesHold : emptied.ClosedLaw ∧ drained.DrainingLaw ∧ (after .rstLow world).HeldLaw :=
  ⟨emptied_closedLaw.2, drained_drainingLaw.2, held_heldLaw.2⟩

theorem witness_DirectoryLawsHold : world.DirectoryLaw := world_directoryLaw

theorem witness_SlotsAgreeWithConnections : world.SlotLaw := world_slotLaw

theorem witness_PartiesAreAdmitted : world.PartyLaw := world_partyLaw

/-- The ATTACH of a restart, and a message of another station, are handed on. -/
def restarting : State := { world with handedOn := [.query 1 0x101, .attach 0 0x100 .endStation 1] }

theorem restarting_directoryLaw : restarting.DirectoryLaw :=
  { oneRecord := world_directoryLaw.oneRecord
    notListed := world_directoryLaw.notListed
    viaRelay := world_directoryLaw.viaRelay
    oneTopStation := world_directoryLaw.oneTopStation
    atMost15 := world_directoryLaw.atMost15
    declared := world_directoryLaw.declared }

theorem witness_RestartReplacesTheRecord :
    restarting.Quiet ∧ restarting.DirectoryLaw ∧ Instr.detach 0 0x100 ∉ restarting.handedOn ∧
      restarting.highway = .opened ∧ validNumber 0x100 = true ∧ restarting.station 0 = some (station 0x100 0 1) ∧
      (station 0x100 0 1).number = 0x100 ∧ (station 0x100 0 1).drop = 0 ∧ (station 0x100 0 1).via = none ∧
      exec (.detach 0 0x100) restarting = .next (after (.detach 0 0x100) restarting) :=
  ⟨by decide +kernel, restarting_directoryLaw, by decide +kernel, by decide +kernel, by decide +kernel, by decide +kernel,
    by decide +kernel, by decide +kernel, by decide +kernel, rfl⟩

theorem assembled_directoryLaw : (assembled goodRun).DirectoryLaw :=
  { oneRecord := world_directoryLaw.oneRecord
    notListed := world_directoryLaw.notListed
    viaRelay := world_directoryLaw.viaRelay
    oneTopStation := world_directoryLaw.oneTopStation
    atMost15 := world_directoryLaw.atMost15
    declared := by
      have h : ∀ h, ∀ a ∈ (assembled goodRun).assembly h, a.declaredCount ≤ 15 := by decide +kernel
      exact h }

theorem witness_AcceptanceReplacesTheRoster :
    (assembled goodRun).DirectoryLaw ∧ (assembled goodRun).station 2 = some relay ∧ relay.kind = .relay ∧
      relay.via = none ∧ (assembled goodRun).assembly 2 = some goodRun ∧
      (assembled goodRun).rosterRefusal 2 relay goodRun = none :=
  ⟨assembled_directoryLaw, by decide +kernel, by decide +kernel, by decide +kernel, by decide +kernel, by decide +kernel⟩

theorem witness_RejectionFaultsTheRelay : world.station 2 = some relay ∧ relay.via = none := by decide +kernel

/-! ### The worked examples of the spec, one command each -/

/-- Section 1.4, "searching the same map". -/
def searched : State :=
  { State.reset with
    slots := Vector.ofFn fun n =>
      let a := n.val + 2
      if a ≤ 5 ∨ 16 ≤ a then .held 0 else if a = 7 then .guard none false else if a = 11 then .reserved 9 else .free }

theorem test_searches_of_one_map :
    searched.searchSlots false 4 = some [6, 8, 9, 10] ∧ searched.searchSlots false 8 = some [6, 8, 9, 10, 12, 13, 14, 15] ∧
      searched.searchSlots true 3 = some [8, 9, 10] ∧ searched.searchSlots true 4 = some [12, 13, 14, 15] ∧
      searched.searchSlots true 5 = none := by decide +kernel

/-- Section 2.3, "a request placed and accepted"; the superframe is even. -/
def placing : State :=
  { State.reset with
    highway := .opened
    slots := Vector.ofFn fun n => if n.val < 4 then .held 0 else .free
    serials := (State.reset.serials.set 0 3).set 1 4
    connections := State.reset.connections.set 0
      (some ⟨.active, false, 8, 9, 2, 4, false, 0, [2, 3, 4, 5], some ⟨9, false⟩⟩)
    stations := (State.reset.stations.set 3 (some { station 0x0004A1C2 2 1 with quota := 8 })).set 7
      (some (station 0x0004A1D0 3 2)) }

def placed : State := after (.request 2 0x0004A1C2 0x0004A1D0 2 false 2 9) placing

theorem test_request_placed :
    placed.connection 1 = some ⟨.offered, false, 3, 7, 2, 2, false, 9, [6, 7], some ⟨4, false⟩⟩ ∧ placed.serial 1 = 5 ∧
      placed.slot 6 = some (.reserved 1) ∧ placed.slot 7 = some (.reserved 1) ∧ placed.usage 3 = 2 := by decide +kernel

theorem test_accept_activates :
    let t := after (.accept 3 0x0004A1D0 ⟨1, 5⟩) placed
    (t.connection 1).map (fun c => (c.state, c.remaining)) = some (.active, 120) ∧ t.slot 6 = some (.held 1) ∧
      t.pendingFlag .lease = true := by decide +kernel

/-- Section 11.6, "reading connection C1.5". -/
theorem test_read_connection :
    let t := after .readConnection (commanded (after (.accept 3 0x0004A1D0 ⟨1, 5⟩) placed) 0x11 [1])
    t.port.mailbox = .done .ok (readoutOf [0xA1, 0x02, 0x00, 0x03, 0x00, 0x04, 0xA1, 0xC2, 0x07, 0x00, 0x04, 0xA1, 0xD0,
      0x02, 0x02, 0x09, 0x78, 0x06, 0x07]) := by decide +kernel

/-- Section 3.6, "a class-0 request pre-empting two connections"; records not named are free. -/
def preempting : State :=
  { State.reset with
    highway := .opened
    slots := Vector.ofFn fun n =>
      let a := n.val + 2
      if a = 9 ∨ a = 10 then .free
      else if a = 11 then .held 9
      else if a = 12 then .held 2
      else if a = 14 ∨ a = 15 ∨ a = 40 then .held 5
      else if a = 20 ∨ a = 21 then .held 11
      else .held 7
    serials := ((State.reset.serials.set 4 2).set 5 4).set 9 1
    connections := (((((State.reset.connections.set 0 (some { pinned with slotList := [] })).set 1
        (some { pinned with slotList := [] })).set 2
      (some ⟨.active, false, 20, 21, 3, 1, false, 0, [12], some ⟨30, false⟩⟩)).set 3
      (some ⟨.active, true, 22, 23, 1, 1, false, 0, [25], none⟩)).set 5
      (some ⟨.active, false, 10, 11, 3, 3, false, 0, [14, 15, 40], some ⟨10, false⟩⟩)).set 9
      (some ⟨.active, false, 12, 13, 3, 1, false, 0, [11], some ⟨10, false⟩⟩) |>.set 11
      (some ⟨.active, false, 26, 27, 2, 2, false, 0, [20, 21], some ⟨5, false⟩⟩)
    stations := State.reset.stations.mapIdx fun k _ =>
      some { station (0x1000 + BitVec.ofNat 32 k) (Fin.ofNat 16 k) 0 with quota := 16 } }

theorem test_request_preempts :
    let t := after (.request 1 0x1001 0x1008 0 false 4 6) preempting
    t.connection 4 = some ⟨.pending, false, 1, 8, 0, 4, false, 6, [9, 10, 11, 14], none⟩ ∧
      [9, 11, 14, 15, 40].map t.slot = [some (.reserved 4), some (.guard (some 4) false), some (.guard (some 4) false),
        some (.guard none false), some (.guard none false)] ∧
      t.connectionChanges = 3 := by decide +kernel

/-- Section 3.6, "displacement at the tail": the classes of sixteen entries. -/
def crowdedQueue : State :=
  { fullMap with
    waitQueue := ([0, 0, 1, 1, 1, 1, 1, 2, 2, 2, 2, 2, 2, 3, 3, 3] : List ClassNo).map fun k => { entry with cls := k } }

theorem test_request_displaces_the_tail :
    let t := after (.request 0 0x100 0x101 2 true 4 4) crowdedQueue
    t.waitQueue.map (·.cls) = [0, 0, 1, 1, 1, 1, 1, 2, 2, 2, 2, 2, 2, 2, 3, 3] ∧
      (t.waitQueue[13]?).map (·.source) = some 0 ∧ t.pendingFlag .refusal = true := by decide +kernel

/-- Section 4.3, "five ATTACH messages on three drops". -/
def attaching : State :=
  { State.reset with
    highway := .opened
    stations := (((State.reset.stations.set 0 (some (station 0x70 2 1))).set 1 (some (station 0x71 5 1))).set 2
      (some (station 0x00073300 11 2))).set 3 (some (station 0x73 9 1)) }

theorem test_attach_of_a_relay :
    let t := after (.attach 12 0x00073310 .relay 1) attaching
    (t.station 4).map (fun r => (r.state, r.quota, r.deadline.map (·.remaining))) = some (.rosterPending, 8, some 16) ∧
      t.directoryChanges = 1 := by decide +kernel

theorem test_attach_restarts :
    let t := after (.attach 11 0x00073300 .endStation 3) attaching
    (t.station 2).map (fun r => (r.number, r.cls, r.quota)) = some (0x00073300, 3, 4) ∧ t.directoryChanges = 2 := by
  decide +kernel

/-- Section 5.4, "a roster replaced", before the ROSTER_END. -/
def rostered : State :=
  let under (n : StationNumber) (kind : StationKind) (tier : Nat) : Station :=
    ⟨n, kind, 12, some 4, tier, 1, .admitted, 8, false, none, none, none⟩
  { State.reset with
    highway := .opened
    slots := State.reset.slots.set 15 (.held 2)
    serials := State.reset.serials.set 2 4
    connections := State.reset.connections.set 2 (some ⟨.active, false, 2, 5, 2, 1, false, 0, [17], some ⟨9, false⟩⟩)
    waitQueue := [⟨5, 0x78, 8, 1, 1, false, 3, ⟨9, false⟩⟩, ⟨7, 0x00074001, 5, 1, 1, false, 11, ⟨9, false⟩⟩]
    assemblies := State.reset.assemblies.set 4
      (some ⟨8, 4, 1, 2, [⟨0x00074002, .relay, 1⟩, ⟨0x00074003, .endStation, 1⟩, ⟨0x00074010, .endStation, 1⟩,
        ⟨0x00074011, .endStation, 2⟩]⟩)
    stations := (State.reset.stations.mapIdx fun k _ =>
        if k < 12 then some (station (0x70 + BitVec.ofNat 32 k) (Fin.ofNat 16 k) 1) else none).set 4
          (some ⟨0x00073310, .relay, 12, none, 0, 1, .admitted, 8, false, some [5, 6, 9], some 7, none⟩) |>.set 5
          (some (under 0x00074001 .endStation 1)) |>.set 6 (some (under 0x00074002 .relay 1)) |>.set 9
          (some (under 0x00074003 .endStation 2)) }

theorem test_roster_replaced :
    let t := after (.rosterEnd 12 0x00073310 8) rostered
    (t.station 4).bind (·.roster) = some [6, 9, 5, 12] ∧ (t.station 9).map (·.tier) = some 1 ∧ t.directoryChanges = 5 ∧
      t.connectionChanges = 1 ∧ t.waitQueue = [] ∧ t.slot 17 = some (.guard none false) := by decide +kernel

theorem test_roster_replaced_messages :
    (after (.rosterEnd 12 0x00073310 8) rostered).downlink.held.map (·.body) =
      [.resetAll, .released ⟨2, 4⟩ .departed, .refuse .peerGone (some 11) none, .rosterOk 8 2] := by decide +kernel

/-- Section 4.4, "a top relay evicted with its subtree"; the other slots are HELD. -/
def evicting : State :=
  let under (n : StationNumber) : Station := ⟨n, .endStation, 12, some 4, 1, 1, .admitted, 8, false, none, none, none⟩
  { State.reset with
    highway := .opened
    slots := Vector.ofFn fun n =>
      if n.val = 0 then .held 0 else if n.val = 8 ∨ n.val = 9 then .reserved 3 else if n.val = 10 then .free else .held 9
    serials := (State.reset.serials.set 0 2).set 3 1
    connections := (State.reset.connections.set 0
      (some ⟨.active, false, 8, 4, 1, 1, false, 5, [2], some ⟨9, false⟩⟩)).set 3
      (some ⟨.offered, false, 2, 6, 3, 2, false, 4, [10, 11], some ⟨4, false⟩⟩)
    waitQueue := [⟨5, 0x00020040, 8, 1, 1, false, 3, ⟨9, false⟩⟩, ⟨8, 0x74002, 6, 2, 2, false, 9, ⟨9, false⟩⟩,
      ⟨2, 0x00020040, 8, 3, 1, false, 1, ⟨9, false⟩⟩]
    stations := ((((State.reset.stations.set 2 (some (station 0x00073300 11 3))).set 4
      (some ⟨0x00073310, .relay, 12, none, 0, 1, .admitted, 8, false, some [5, 6], some 7, none⟩)).set 5
        (some (under 0x00074001))).set 6 (some (under 0x00074002))).set 8 (some (station 0x00020040 3 1)) }

theorem test_evict_takes_the_subtree :
    let t := after .evict (commanded evicting 0x22 [0x00, 0x07, 0x33, 0x10])
    t.connection 0 = some ⟨.offered, false, 2, 8, 3, 1, false, 1, [10], some ⟨4, false⟩⟩ ∧ t.serial 0 = 3 ∧
      t.directoryChanges = 3 ∧ t.connectionChanges = 3 := by decide +kernel

theorem test_evict_messages_in_order :
    (after .evict (commanded evicting 0x22 [0x00, 0x07, 0x33, 0x10])).downlink.held.drop 1 =
      [⟨0x00020040, .released ⟨0, 2⟩ .evicted⟩, ⟨0x00073300, .refuse .evicted (some 4) none⟩,
        ⟨0x00020040, .refuse .peerGone (some 9) none⟩, ⟨0x00073310, .evicted .host⟩,
        ⟨0x00020040, .offer ⟨0, 3⟩ 0x00073300 3 1 false [10] 4⟩] := by decide +kernel

/-- Section 12.3, the DRAIN of superframe 200. -/
def draining : State :=
  { State.reset with
    highway := .opened
    slots := ((State.reset.slots.set 8 (.held 1)).set 9 (.reserved 2)).set 10 (.reserved 2)
    serials := Vector.replicate 32 1
    connections := (State.reset.connections.set 1
      (some ⟨.active, false, 1, 2, 2, 1, false, 5, [10], some ⟨2, false⟩⟩)).set 2
      (some ⟨.offered, false, 2, 0, 2, 2, false, 7, [11, 12], some ⟨3, false⟩⟩)
    waitQueue := [⟨3, 0x00400011, 1, 2, 2, false, 4, ⟨20, false⟩⟩]
    stations := (((State.reset.stations.set 0 (some (station 0x00400010 0 0))).set 1 (some (station 0x00400011 1 1))).set
      2 (some (station 0x00400012 2 2))).set 3 (some (station 0x00400013 3 2)) }

theorem test_drain_messages_in_order :
    (after (.drain false) (commanded draining 0x02 [])).downlink.held.drop 1 =
      [⟨0xFFFFFFFF, .highwayState .draining⟩, ⟨0x00400012, .refuse .drained (some 7) none⟩,
        ⟨0x00400010, .released ⟨2, 1⟩ .drained⟩, ⟨0x00400013, .refuse .highwayDraining (some 4) none⟩] := by
  decide +kernel

/-- Section 6.7: the entry of a barred number takes position 2, and the readout says so. -/
theorem test_deny_add_inserts_in_order :
    let s := { State.reset with denyList := [⟨0x00012000, 3, 5⟩, ⟨0x00060010, 0x40, 255⟩, ⟨0x00A00001, 3, 0⟩] }
    let t := after .denyAdd (commanded s 0x20 [0x00, 0x05, 0x77, 0x00, 0x08])
    t.denyList.map (·.number) = [0x00012000, 0x00057700, 0x00060010, 0x00A00001] ∧
      t.port.mailbox = .done .ok (readoutOf [2, 4, 0x00, 0x05, 0x77, 0x00, 0x08, 0]) := by decide +kernel

/-- Section 10.7, "a collision in the mailbox": the command byte is written while EVICT is in progress. -/
theorem test_collision_keeps_the_latched_command :
    let t := after (.commandCollision 0x24) (commanded world 0x22 [])
    t.port.collided = true ∧ t.port.command = 0x22 ∧ t.port.mailbox = .latched := by decide +kernel

/-- Section 1.6, "guard across three superframes": slots of the superframe that ends go FREE, the others stay. -/
theorem test_guard_end :
    let s := { bounded State.reset with
      timer := ⟨0, true, false, 0⟩
      slots := (State.reset.slots.set 18 (.guard none false)).set 28 (.guard none true) }
    (after .guardEnd s).slot 20 = some .free ∧ (after .guardEnd s).slot 30 = some (.guard none true) := by
  decide +kernel

/-- Section 8.3, "one window, and the same window cut short". -/
theorem test_grant_wraps_round :
    let s := { filled world 10 with arbiter := ⟨4, .idle, true, false⟩, pins := ⟨0x0012, 0⟩ }
    (after (.uplinkGrant 0x0002) s).arbiter.window = .granted 1 := by decide +kernel

theorem test_window_cut_short :
    let s := { windowed (.receiving 4 7 [0x0DC0, 0x0004, 0xA1C2, 0x0004]) with downlink := ⟨[], none, none⟩ }
    (after (.drqFall 4) s).downlink.held = [⟨0x00000004, .nak .truncated 0x03⟩] := by decide +kernel

/-- The window after full reset: FREE SLOTS 3Eh and DOWNLINK FREE 27h (R189, section 11.5). -/
theorem test_reset_window :
    (after (.spiReadCapture 0x8D 2) State.reset).spi.sdo = [0x3E, 0x27] := by decide +kernel

/-- R166: the part is in full reset while RST is low, and from power-up until the supply is stable. -/
theorem test_reset_is_held_while_a_cause_lasts :
    (after .resetRelease (after .powerUp (after .rstLow world))).hold ≠ .running ∧
      (after .rstHigh (after .rstLow (after .powerUp world))).hold ≠ .running ∧
      (after .resetRelease (after .rstHigh (after .rstLow (after .powerUp world)))).hold = .running := by decide +kernel

/-- R189: a write transaction whose address byte came during the hold is discarded to its end. -/
theorem test_transaction_begun_under_reset_is_discarded :
    let begun := after (.registerWrite .address 0x20) (after (.registerWrite .select 0) (after .rstLow world))
    let t := after (.registerWrite .data 0x77) (after .rstHigh begun)
    t.hold = .running ∧ t.port.arguments[0] = 0 ∧ t.spi.transaction = some (.writing 0x21 true) := by decide +kernel

end Sys2Proof.Tests
end

section
/-! The Slot Map's searches (R6 to R8). -/

namespace Sys2Proof.Machine

/-! ### The bearer slots and the FREE ones (R5, R6) -/

theorem pairwise_bearerSlots : bearerSlots.Pairwise (· < ·) := List.pairwise_lt_range' 1

theorem mem_bearerSlots_iff (n : Nat) : n ∈ bearerSlots ↔ 2 ≤ n ∧ n ≤ 63 := by
  simp only [bearerSlots, List.mem_range'_1]
  omega

theorem mem_bearerSlots_of_slot {s : State} {n : Nat} {r : SlotRecord} (slot : s.slot n = some r) : n ∈ bearerSlots :=
  (mem_bearerSlots_iff n).mpr ((s.slot_isSome_iff n).mp (by simp [slot]))

@[simp] theorem State.slotFree_eq_true_iff (s : State) (n : Nat) : s.slotFree n = true ↔ s.slot n = some .free := by
  simp [State.slotFree]

theorem State.pairwise_freeSlots (s : State) : s.freeSlots.Pairwise (· < ·) :=
  pairwise_bearerSlots.sublist List.filter_sublist

/-! ### The searches (R7, R8) -/

/-- The first entries of an ascending list are its lowest. -/
theorem mem_take_of_lt {list : List Nat} (ascending : list.Pairwise (· < ·)) {w n m : Nat} (taken : n ∈ list.take w)
    (lower : m < n) (there : m ∈ list) : m ∈ list.take w := by
  rw [← List.take_append_drop w list] at ascending there
  obtain here | beyond := List.mem_append.mp there
  · exact here
  · have := (List.pairwise_append.mp ascending).2.2 n taken m beyond
    omega

theorem State.scatteredSearch_eq_some_iff (s : State) (w : Nat) (list : List Nat) :
    s.scatteredSearch w = some list ↔ w ≤ s.freeSlots.length ∧ s.freeSlots.take w = list := by
  simp [State.scatteredSearch]

theorem State.scatteredSearch_eq_none_iff (s : State) (w : Nat) :
    s.scatteredSearch w = none ↔ s.freeSlots.length < w := by
  simp [State.scatteredSearch]

/-- No list of different FREE slots is longer than the list of them all. -/
theorem State.length_le_freeSlots (s : State) (list : List Nat) (nodup : list.Nodup)
    (free : ∀ n ∈ list, s.slot n = some .free) : list.length ≤ s.freeSlots.length :=
  (nodup.subperm fun n here => (s.mem_freeSlots_iff n).mpr (free n here)).length_le

/-- A run of `w` FREE bearer slots from `a` on (R8). -/
def State.FreeRun (s : State) (w a : Nat) : Prop := 2 ≤ a ∧ a + w ≤ 64 ∧ ∀ n, a ≤ n → n < a + w → s.slot n = some .free

theorem State.all_slotRun_iff (s : State) (a w : Nat) :
    (slotRun a w).all s.slotFree = true ↔ ∀ n, a ≤ n → n < a + w → s.slot n = some .free := by
  simp [slotRun, List.mem_range'_1]

/-- The contiguous search finds the lowest run (R8). -/
theorem State.runSearch_eq_some_iff (s : State) (w : Nat) (wide : 1 ≤ w) (list : List Nat) :
    s.runSearch w = some list ↔ ∃ a, s.FreeRun w a ∧ (∀ b, b < a → ¬ s.FreeRun w b) ∧ list = List.range' a w := by
  simp only [State.runSearch, Option.map_eq_some_iff, bearerSlots, List.find?_range'_eq_some, List.mem_range'_1,
    Bool.and_eq_true, decide_eq_true_eq, State.all_slotRun_iff, Bool.not_eq_true', Bool.and_eq_false_iff,
    decide_eq_false_iff_not]
  refine exists_congr fun a => ?_
  constructor
  · rintro ⟨⟨⟨fits, free⟩, ⟨low, -⟩, first⟩, rfl⟩
    refine ⟨⟨low, fits, free⟩, fun b before run => ?_, rfl⟩
    obtain ⟨lowb, fitsb, freeb⟩ := run
    obtain wrong | wrong := first b lowb before
    · exact wrong fitsb
    · exact absurd ((s.all_slotRun_iff b w).mpr freeb) (by simp [wrong])
  · rintro ⟨⟨low, fits, free⟩, first, rfl⟩
    refine ⟨⟨⟨fits, free⟩, ⟨low, by omega⟩, fun b lowb before => ?_⟩, rfl⟩
    by_contra both
    obtain ⟨fitsb, freeb⟩ := not_or.mp both
    exact first b before ⟨lowb, not_not.mp fitsb, (s.all_slotRun_iff b w).mp (by simpa using freeb)⟩

theorem State.runSearch_eq_none_iff (s : State) (w : Nat) (wide : 1 ≤ w) :
    s.runSearch w = none ↔ ∀ a, ¬ s.FreeRun w a := by
  simp only [State.runSearch, Option.map_eq_none_iff, List.find?_eq_none, mem_bearerSlots_iff, Bool.and_eq_true,
    decide_eq_true_eq, State.all_slotRun_iff, State.FreeRun]
  constructor
  · rintro none a ⟨low, fits, free⟩
    exact none a ⟨low, by omega⟩ ⟨fits, free⟩
  · rintro none a ⟨low, -⟩ ⟨fits, free⟩
    exact none a ⟨low, fits, free⟩

/-- Settles O23, by what the two searches find and when they find nothing. -/
theorem searchesFindTheLowest : Obligations.SearchesFindTheLowest := by
  intro s w wide _
  refine ⟨fun list found => ?_, ?_, s.runSearch_eq_some_iff w wide, s.runSearch_eq_none_iff w wide⟩
  · obtain ⟨enough, rfl⟩ := (s.scatteredSearch_eq_some_iff w list).mp found
    refine ⟨List.length_take_of_le enough, s.pairwise_freeSlots.sublist (List.take_sublist ..), fun n taken => ?_,
      fun n taken m lower free => ?_⟩
    · exact (s.mem_freeSlots_iff n).mp (List.mem_of_mem_take taken)
    · exact mem_take_of_lt s.pairwise_freeSlots taken lower ((s.mem_freeSlots_iff m).mpr free)
  · refine (s.scatteredSearch_eq_none_iff w).trans ⟨fun few list nodup free => ?_, fun short => ?_⟩
    · exact (s.length_le_freeSlots list nodup free).trans_lt few
    · exact short s.freeSlots (s.pairwise_freeSlots.imp Nat.ne_of_lt) fun n => (s.mem_freeSlots_iff n).mp

/-- What either search finds: different FREE slots, ascending, as many as asked for (R7, R8). -/
theorem State.searchSlots_found {s : State} {contiguous : Bool} {w : Nat} {list : List Nat}
    (found : s.searchSlots contiguous w = some list) :
    (∀ n ∈ list, s.slot n = some .free) ∧ list.Pairwise (· < ·) ∧ list.length = w := by
  cases contiguous
  · obtain ⟨enough, rfl⟩ := (s.scatteredSearch_eq_some_iff w list).mp found
    exact ⟨fun n taken => (s.mem_freeSlots_iff n).mp (List.mem_of_mem_take taken),
      s.pairwise_freeSlots.sublist (List.take_sublist ..), List.length_take_of_le enough⟩
  · obtain ⟨a, first, rfl⟩ := Option.map_eq_some_iff.mp found
    have run := List.find?_some first
    simp only [Bool.and_eq_true, s.all_slotRun_iff] at run
    refine ⟨fun n here => ?_, List.pairwise_lt_range' 1, List.length_range'⟩
    obtain ⟨low, high⟩ := List.mem_range'_1.mp here
    exact run.2 n low high

end Sys2Proof.Machine
end

section
/-! The slot law of one index, and what it needs of two parts to pass from one to the other (R5, R20). -/

namespace Sys2Proof.Machine

/-! ### The law of one index -/

/-- What the slot law says of one index (R5, R20). -/
structure State.SlotLawAt (s : State) (i : Index) : Prop where
  owners : ∀ n, s.ownedBy n i ↔ ∃ c, s.connection i = some c ∧ n ∈ c.slotList
  states : ∀ c, s.connection i = some c → s.slotsInState i c
  ascending : ∀ c, s.connection i = some c → c.slotList.Pairwise (· < ·)
  widths : ∀ c, s.connection i = some c → c.slotList.length = c.width

theorem State.slotLaw_iff_forall_at (s : State) : s.SlotLaw ↔ ∀ i, s.SlotLawAt i :=
  ⟨fun law i => ⟨(law.owners · i), law.states i, law.ascending i, law.widths i⟩,
    fun law => ⟨fun n i => (law i).owners n, fun i => (law i).states, fun i => (law i).ascending,
      fun i => (law i).widths⟩⟩

/-- Two parts agree on an index: they have the same record there, and the same slots are owned by it in the same states. -/
structure State.SameAt (s t : State) (i : Index) : Prop where
  connection : t.connection i = s.connection i
  owned : ∀ n r, r.owner = some i → (t.slot n = some r ↔ s.slot n = some r)

/-- The slots of a record are told apart by the records the index owns alone. -/
theorem State.SameAt.slotsInState_iff {s t : State} {i : Index} (same : s.SameAt t i) (c : Connection) :
    t.slotsInState i c ↔ s.slotsInState i c := by
  have held (n : Nat) := same.owned n (.held i) rfl
  have reserved (n : Nat) := same.owned n (.reserved i) rfl
  have earmarked (n : Nat) (p : Parity) := same.owned n (.guard (some i) p) rfl
  unfold State.slotsInState
  cases c.state <;> simp only [held, reserved, earmarked]

theorem State.SameAt.slotLawAt {s t : State} {i : Index} (same : s.SameAt t i) (law : s.SlotLawAt i) :
    t.SlotLawAt i where
  owners n := by
    have owned : t.ownedBy n i ↔ s.ownedBy n i :=
      exists_congr fun r => and_congr_left fun owner => same.owned n r owner
    rw [owned, same.connection, law.owners]
  states c here := (same.slotsInState_iff c).mpr (law.states c (same.connection ▸ here))
  ascending c here := law.ascending c (same.connection ▸ here)
  widths c here := law.widths c (same.connection ▸ here)

/-- A slot in the list of a record is owned by the record's index. -/
theorem State.ownedBy_of_slotsInState {s : State} {i : Index} {c : Connection} (states : s.slotsInState i c) {n : Nat}
    (listed : n ∈ c.slotList) : s.ownedBy n i := by
  unfold State.slotsInState at states
  split at states
  · exact ⟨_, states n listed, rfl⟩
  · exact ⟨_, states n listed, rfl⟩
  · obtain ⟨p, all, -⟩ := states
    obtain here | here := all n listed
    · exact ⟨_, here, rfl⟩
    · exact ⟨_, here, rfl⟩

/-- An unused index owns no slot. -/
theorem State.slotLawAt_of_none {s : State} {i : Index} (unused : s.connection i = none) (unowned : ∀ n, ¬ s.ownedBy n i) :
    s.SlotLawAt i where
  owners n := by simp [unused, unowned n]
  states c here := by simp [unused] at here
  ascending c here := by simp [unused] at here
  widths c here := by simp [unused] at here

/-- The law of an index in use, from what its record says and from what owns no more than its list. -/
theorem State.slotLawAt_of_some {s : State} {i : Index} {c : Connection} (here : s.connection i = some c)
    (states : s.slotsInState i c) (owned : ∀ n, s.ownedBy n i → n ∈ c.slotList)
    (ascending : c.slotList.Pairwise (· < ·)) (width : c.slotList.length = c.width) : s.SlotLawAt i where
  owners n := by
    simp only [here, Option.some.injEq, exists_eq_left']
    exact ⟨owned n, State.ownedBy_of_slotsInState states⟩
  states _ used := by cases here ▸ used; exact states
  ascending _ used := by cases here ▸ used; exact ascending
  widths _ used := by cases here ▸ used; exact width

/-! ### Reading the law -/

/-- A slot that is owned stands in the list of a record. -/
theorem State.SlotLaw.mem_of_owner {s : State} (law : s.SlotLaw) {n : Nat} {r : SlotRecord} {i : Index}
    (slot : s.slot n = some r) (owner : r.owner = some i) : ∃ c, s.connection i = some c ∧ n ∈ c.slotList :=
  (law.owners n i).mp ⟨r, slot, owner⟩

theorem State.SlotLaw.mem_slotList_of_owner {s : State} (law : s.SlotLaw) {n : Nat} {r : SlotRecord} {i : Index}
    {c : Connection} (here : s.connection i = some c) (slot : s.slot n = some r) (owner : r.owner = some i) :
    n ∈ c.slotList := by
  obtain ⟨d, used, listed⟩ := law.mem_of_owner slot owner
  cases here ▸ used
  exact listed

/-- The slots an ACTIVE record owns are HELD. -/
theorem State.SlotLaw.eq_held {s : State} (law : s.SlotLaw) {n : Nat} {r : SlotRecord} {i : Index} {c : Connection}
    (here : s.connection i = some c) (active : c.state = .active) (slot : s.slot n = some r) (owner : r.owner = some i) :
    r = .held i := by
  have states := law.states i c here
  simp only [State.slotsInState, active] at states
  exact Option.some.inj (slot ▸ states n (law.mem_slotList_of_owner here slot owner))

/-- The slots an OFFERED record owns are RESERVED. -/
theorem State.SlotLaw.eq_reserved {s : State} (law : s.SlotLaw) {n : Nat} {r : SlotRecord} {i : Index} {c : Connection}
    (here : s.connection i = some c) (offered : c.state = .offered) (slot : s.slot n = some r)
    (owner : r.owner = some i) : r = .reserved i := by
  have states := law.states i c here
  simp only [State.slotsInState, offered] at states
  exact Option.some.inj (slot ▸ states n (law.mem_slotList_of_owner here slot owner))

/-- The slots a PENDING record owns are RESERVED or GUARD, and the guards end together. -/
theorem State.SlotLaw.pending_records {s : State} (law : s.SlotLaw) {i : Index} {c : Connection}
    (here : s.connection i = some c) (pending : c.state = .pending) :
    ∃ p, (∀ n r, s.slot n = some r → r.owner = some i → r = .reserved i ∨ r = .guard (some i) p) ∧
      ∃ n ∈ c.slotList, s.slot n = some (.guard (some i) p) := by
  have states := law.states i c here
  simp only [State.slotsInState, pending] at states
  obtain ⟨p, all, some⟩ := states
  refine ⟨p, fun n r slot owner => ?_, some⟩
  have either := all n (law.mem_slotList_of_owner here slot owner)
  simpa only [slot, Option.some.injEq] using either

/-- An unused index owns no slot. -/
theorem State.SlotLaw.not_owned {s : State} (law : s.SlotLaw) {i : Index} (unused : s.connection i = none) (n : Nat) :
    ¬ s.ownedBy n i := by
  simp [law.owners, unused]

/-! ### Parts with the same map -/

/-- Two parts have the same Slot Map and the same Connection Table. -/
structure State.SameMap (s t : State) : Prop where
  slots : t.slots = s.slots
  connections : t.connections = s.connections

theorem State.SameMap.refl (s : State) : s.SameMap s := ⟨rfl, rfl⟩

theorem State.SameMap.trans {s t u : State} (first : s.SameMap t) (second : t.SameMap u) : s.SameMap u :=
  ⟨second.slots.trans first.slots, second.connections.trans first.connections⟩

theorem State.SameMap.slot {s t : State} (same : s.SameMap t) (n : Nat) : t.slot n = s.slot n := by
  simp only [State.slot, same.slots]

theorem State.SameMap.connection {s t : State} (same : s.SameMap t) (i : Index) : t.connection i = s.connection i := by
  simp only [State.connection, same.connections]

theorem State.SameMap.sameAt {s t : State} (same : s.SameMap t) (i : Index) : s.SameAt t i :=
  ⟨same.connection i, fun n r _ => by rw [same.slot n]⟩

/-- The slot law reads the map and the table alone. -/
theorem State.SlotLaw.of_sameMap {s t : State} (law : s.SlotLaw) (same : s.SameMap t) : t.SlotLaw := by
  rw [State.slotLaw_iff_forall_at] at law ⊢
  exact fun i => (same.sameAt i).slotLawAt (law i)

/-- An index is as it was where its record stands and each slot is as it was or was and is owned by another or by none. -/
theorem State.sameAt_of_slots {s t : State} {i : Index} (connection : t.connection i = s.connection i)
    (slots : ∀ n, t.slot n = s.slot n ∨ ¬ s.ownedBy n i ∧ ¬ t.ownedBy n i) : s.SameAt t i where
  connection := connection
  owned n r owner := by
    obtain same | ⟨before, after⟩ := slots n
    · rw [same]
    · exact ⟨fun slot => absurd ⟨r, slot, owner⟩ after, fun slot => absurd ⟨r, slot, owner⟩ before⟩

/-- The record of a slot is the owned one. -/
theorem State.ownedBy_iff_of_slot {s : State} {n : Nat} {r : SlotRecord} (slot : s.slot n = some r) (i : Index) :
    s.ownedBy n i ↔ r.owner = some i := by
  simp [State.ownedBy, slot]

theorem State.not_ownedBy_of_slot_none {s : State} {n : Nat} (slot : s.slot n = none) (i : Index) : ¬ s.ownedBy n i := by
  simp [State.ownedBy, slot]

/-- A change at one index keeps the law when the other indices are as they were and the law holds of the one. -/
theorem State.SlotLaw.of_changeAt {s t : State} (law : s.SlotLaw) (i : Index) (others : ∀ j, j ≠ i → s.SameAt t j)
    (here : t.SlotLawAt i) : t.SlotLaw := by
  rw [State.slotLaw_iff_forall_at] at law ⊢
  intro j
  by_cases same : j = i
  · exact same ▸ here
  · exact (others j same).slotLawAt (law j)

end Sys2Proof.Machine
end

section
/-! Removal, change and creation of a record under the slot law. -/

namespace Sys2Proof.Machine

/-! ### Removal under the slot law -/

/-- What a withdrawal (R14) or an end (R12) does to one record. -/
def SlotRecord.dropped (state : ConnectionState) (i : Index) (p : Parity) (r : SlotRecord) : SlotRecord :=
  if state = .active then if r = .held i then .guard none p else r else r.withdrawn i

theorem State.slot_dropConnection (s : State) (i : Index) (c : Connection) (n : Nat) :
    (s.dropConnection i c).slot n = (s.slot n).map (SlotRecord.dropped c.state i s.timer.parity) := by
  rw [State.dropConnection_slot]
  unfold SlotRecord.dropped
  split <;> rfl

/-- A record that the index does not own is not touched. -/
theorem SlotRecord.dropped_of_owner_ne (state : ConnectionState) (i : Index) (p : Parity) (r : SlotRecord)
    (other : r.owner ≠ some i) : r.dropped state i p = r := by
  unfold SlotRecord.dropped
  split
  · rw [if_neg]
    rintro rfl
    exact other rfl
  · cases r with
    | free => rfl
    | guard o _ => cases o <;> simp_all [SlotRecord.owner, SlotRecord.withdrawn]
    | reserved j => simp_all [SlotRecord.owner, SlotRecord.withdrawn]
    | held j => rfl

/-- Under the slot law a removal frees every slot the index owns. -/
theorem State.SlotLaw.owner_dropped {s : State} (law : s.SlotLaw) {i : Index} {c : Connection}
    (here : s.connection i = some c) {n : Nat} {r : SlotRecord} (slot : s.slot n = some r) (owner : r.owner = some i)
    (p : Parity) : (r.dropped c.state i p).owner = none := by
  cases state : c.state with
  | active => simp [law.eq_held here state slot owner, SlotRecord.dropped, SlotRecord.owner]
  | offered => simp [law.eq_reserved here state slot owner, SlotRecord.dropped, SlotRecord.withdrawn, SlotRecord.owner]
  | pending =>
    obtain ⟨q, records, -⟩ := law.pending_records here state
    obtain rfl | rfl := records n r slot owner <;> simp [SlotRecord.dropped, SlotRecord.withdrawn, SlotRecord.owner]

/-- A removal leaves each slot as it was, or frees a slot that the index owned. -/
theorem State.SlotLaw.slot_dropConnection_cases {s : State} (law : s.SlotLaw) {i : Index} {c : Connection}
    (here : s.connection i = some c) (n : Nat) :
    (¬ s.ownedBy n i ∧ (s.dropConnection i c).slot n = s.slot n) ∨
      (s.ownedBy n i ∧ ∀ j, ¬ (s.dropConnection i c).ownedBy n j) := by
  rw [s.slot_dropConnection i c n]
  cases slot : s.slot n with
  | none => exact .inl ⟨State.not_ownedBy_of_slot_none slot i, rfl⟩
  | some r =>
    rw [State.ownedBy_iff_of_slot slot]
    by_cases owner : r.owner = some i
    · refine .inr ⟨owner, fun j => ?_⟩
      rw [State.ownedBy_iff_of_slot (r := r.dropped c.state i s.timer.parity) (by simp [s.slot_dropConnection, slot]),
        law.owner_dropped here slot owner]
      simp
    · exact .inl ⟨owner, by simp [r.dropped_of_owner_ne _ _ _ owner]⟩

/-- A withdrawal or an end keeps the slot law (R12, R14, R25). -/
theorem State.SlotLaw.dropConnection {s : State} (law : s.SlotLaw) {i : Index} {c : Connection}
    (here : s.connection i = some c) : (s.dropConnection i c).SlotLaw := by
  refine law.of_changeAt i (fun j other => State.sameAt_of_slots (by simp [Ne.symm other]) fun n => ?_)
    (State.slotLawAt_of_none (by simp) fun n owned => ?_)
  · obtain ⟨-, same⟩ | ⟨owned, freed⟩ := law.slot_dropConnection_cases here n
    · exact .inl same
    · refine .inr ⟨fun before => other ?_, freed j⟩
      obtain ⟨r, slot, owner⟩ := owned
      exact Option.some.inj (((State.ownedBy_iff_of_slot slot j).mp before).symm.trans owner)
  · obtain ⟨unowned, same⟩ | ⟨-, freed⟩ := law.slot_dropConnection_cases here n
    · exact unowned (by simpa only [State.ownedBy, same] using owned)
    · exact freed i owned

/-! ### A change of a record under the slot law -/

/-- A record may change in what the slot law does not read. -/
theorem State.SlotLaw.setConnection {s : State} (law : s.SlotLaw) {i : Index} {c d : Connection}
    (here : s.connection i = some c) (state : d.state = c.state) (list : d.slotList = c.slotList)
    (width : d.width = c.width) : (s.setConnection i (some d)).SlotLaw := by
  refine law.of_changeAt i (fun j other => State.sameAt_of_slots (by simp [Ne.symm other]) fun n => .inl rfl)
    (State.slotLawAt_of_some (c := d) (by simp) ?_ (fun n owned => ?_) ?_ ?_)
  · simpa only [State.slotsInState, state, list, State.setConnection_slot] using law.states i c here
  · obtain ⟨r, slot, owner⟩ := owned
    exact list ▸ law.mem_slotList_of_owner here slot owner
  · exact list ▸ law.ascending i c here
  · rw [list, width]
    exact law.widths i c here

/-! ### A new record under the slot law -/

/-- A record in an unused index on slots that were FREE keeps the slot law, where its slots have taken the states R20 gives
them and no other slot has changed. -/
theorem State.SlotLaw.of_created {s t : State} (law : s.SlotLaw) {i : Index} {c : Connection}
    (unused : s.connection i = none) (table : ∀ j, t.connection j = if i = j then some c else s.connection j)
    (free : ∀ n ∈ c.slotList, s.slot n = some .free) (states : t.slotsInState i c)
    (others : ∀ n, n ∉ c.slotList → t.slot n = s.slot n) (ascending : c.slotList.Pairwise (· < ·))
    (width : c.slotList.length = c.width) : t.SlotLaw := by
  refine law.of_changeAt i
    (fun j other => State.sameAt_of_slots ((table j).trans (if_neg (Ne.symm other))) fun n => ?_)
    (State.slotLawAt_of_some ((table i).trans (if_pos rfl)) states (fun n owned => ?_) ascending width)
  · by_cases listed : n ∈ c.slotList
    · obtain ⟨r, slot, owner⟩ := State.ownedBy_of_slotsInState states listed
      rw [State.ownedBy_iff_of_slot (free n listed), State.ownedBy_iff_of_slot slot, owner]
      exact .inr ⟨by simp [SlotRecord.owner], fun same => other (Option.some.inj same).symm⟩
    · exact .inl (others n listed)
  · by_contra listed
    exact law.not_owned unused n (by simpa only [State.ownedBy, others n listed] using owned)

/-- Placement keeps the slot law (R10, R27). -/
theorem State.SlotLaw.place {s : State} (law : s.SlotLaw) {i : Index} {c : Connection} (unused : s.connection i = none)
    (free : ∀ n ∈ c.slotList, s.slot n = some .free) (ascending : c.slotList.Pairwise (· < ·))
    (width : c.slotList.length = c.width) (offered : c.state = .offered) : (s.place i c).SlotLaw := by
  refine law.of_created unused (fun j => s.place_connection i j c) free ?_ (fun n unlisted => ?_) ascending width
  · simp only [State.slotsInState, offered]
    intro n listed
    simp [s.place_slot, free n listed, listed]
  · simp [s.place_slot, unlisted]

end Sys2Proof.Machine
end

section
/-! ACCEPT and PIN under the slot law. -/

namespace Sys2Proof.Machine

/-! ### Messages leave the map alone -/

theorem State.sameMap_tell (s : State) (h : Handle) (body : DownBody) : s.SameMap (s.tell h body) := ⟨by simp, by simp⟩

theorem State.sameMap_tellOpt (s : State) (h : Handle) (body : Option DownBody) : s.SameMap (s.tellOpt h body) :=
  ⟨by simp, by simp⟩

theorem State.sameMap_offer (s : State) (m : DownMessage) : s.SameMap (s.offer m) := ⟨by simp, by simp⟩

theorem State.sameMap_raise (s : State) (f : Flag) : s.SameMap (s.raise f) := ⟨rfl, rfl⟩

theorem State.sameMap_bumpConnections (s : State) (n : Nat) : s.SameMap (s.bumpConnections n) := ⟨rfl, rfl⟩

theorem State.sameMap_sendGrants (s : State) (i : Index) (c : Connection) : s.SameMap (s.sendGrants i c) :=
  (s.sameMap_tell ..).trans (State.sameMap_tell ..)

/-- A removal with its notices keeps the slot law (R25). -/
theorem State.SlotLaw.removeConnection {s : State} (law : s.SlotLaw) {i : Index} {c : Connection}
    (here : s.connection i = some c) (toOriginator toAnswerer : Option DownBody) :
    (s.removeConnection i c toOriginator toAnswerer).SlotLaw :=
  (law.dropConnection here).of_sameMap ((State.sameMap_tellOpt ..).trans (State.sameMap_tellOpt ..))

/-- The slots of an OFFERED record go HELD while the record goes ACTIVE (R11). -/
theorem State.SlotLaw.holdClaim_setConnection {s : State} (law : s.SlotLaw) {i : Index} {c d : Connection}
    (here : s.connection i = some c) (offered : c.state = .offered) (active : d.state = .active)
    (list : d.slotList = c.slotList) (width : d.width = c.width) :
    ((s.holdClaim i).setConnection i (some d)).SlotLaw := by
  have states := law.states i c here
  simp only [State.slotsInState, offered] at states
  refine law.of_changeAt i
    (fun j other => State.sameAt_of_slots ?_ fun n => ?_)
    (State.slotLawAt_of_some (c := d) (by simp) ?_ ?_ (list ▸ law.ascending i c here) ?_)
  · rw [State.connection_setConnection, if_neg (Ne.symm other), State.holdClaim_connection]
  · by_cases listed : n ∈ c.slotList
    · right
      rw [State.ownedBy_iff_of_slot (states n listed), State.ownedBy_iff_of_slot (r := .held i) (by simp [states n listed])]
      simp [SlotRecord.owner, Ne.symm other]
    · left
      rw [State.setConnection_slot, State.slot_holdClaim]
      cases slot : s.slot n with
      | none => rfl
      | some r =>
        have unowned : r ≠ .reserved i := by
          rintro rfl
          exact listed (law.mem_slotList_of_owner here slot rfl)
        simp [unowned]
  · simp only [State.slotsInState, active, list]
    intro n listed
    simp [states n listed]
  · rintro n ⟨x, slot, owner⟩
    rw [State.setConnection_slot, State.slot_holdClaim] at slot
    obtain ⟨r, before, rfl⟩ := Option.map_eq_some_iff.mp slot
    rw [list]
    refine law.mem_slotList_of_owner here before ?_
    split at owner
    · simp_all [SlotRecord.owner]
    · exact owner
  · rw [list, width]
    exact law.widths i c here

/-- An ACCEPT keeps the slot law (R11, R30). -/
theorem State.SlotLaw.activate {s : State} (law : s.SlotLaw) {i : Index} {c : Connection}
    (here : s.connection i = some c) (offered : c.state = .offered) : (s.activate i c).SlotLaw := by
  have held := law.holdClaim_setConnection here offered rfl rfl rfl
    (d := { c with state := .active, countdown := some (s.countdownOf (s.classPolicy c.cls).leasePeriod) })
  exact held.of_sameMap (((State.sameMap_bumpConnections _ 1).trans (State.sameMap_raise _ .lease)).trans
    (State.sameMap_sendGrants ..))

/-- A PIN keeps the slot law: FREE slots go HELD for a new ACTIVE record (R39). -/
theorem State.SlotLaw.makePinned {s : State} (law : s.SlotLaw) {i : Index} {c : Connection}
    (unused : s.connection i = none) (free : ∀ n ∈ c.slotList, s.slot n = some .free)
    (ascending : c.slotList.Pairwise (· < ·)) (width : c.slotList.length = c.width) (active : c.state = .active) :
    (s.makePinned i c).SlotLaw := by
  refine State.SlotLaw.of_sameMap (s := ((s.reserveClaim i c.slotList).holdClaim i).createConnection i c) ?_
    ((State.sameMap_raise ..).trans (State.sameMap_sendGrants ..))
  refine law.of_created unused (fun j => by simp) free ?_ (fun n unlisted => ?_) ascending width
  · simp only [State.slotsInState, active]
    intro n listed
    simp [free n listed, listed]
  · cases slot : s.slot n with
    | none => simp [slot]
    | some r =>
      have unowned : r ≠ .reserved i := by
        rintro rfl
        exact law.not_owned unused n ⟨_, slot, rfl⟩
      simp [slot, unlisted, unowned]
end Sys2Proof.Machine
end

section
/-! The victims of a pre-emption (R63 to R66). -/

namespace Sys2Proof.Machine

/-! ### The victims of a pre-emption (R63 to R65) -/

/-- The pairs are ACTIVE records of the table, each with its own index. -/
structure State.Victims (s : State) (victims : List (Index × Connection)) : Prop where
  records : ∀ v ∈ victims, s.connection v.1 = some v.2 ∧ v.2.state = .active
  distinct : (victims.map (·.1)).Nodup

theorem State.mem_candidates {s : State} {cls : ClassNo} {v : Index × Connection} (candidate : v ∈ s.candidates cls) :
    s.connection v.1 = some v.2 ∧ v.2.state = .active := by
  obtain ⟨i, -, found⟩ := List.mem_filterMap.mp candidate
  obtain ⟨c, here, taken⟩ := Option.bind_eq_some_iff.mp found
  simp only [Option.ite_none_right_eq_some, Option.some.injEq] at taken
  obtain ⟨passed, rfl⟩ := taken
  simp only [Connection.candidateFor, Bool.and_eq_true, decide_eq_true_eq] at passed
  obtain ⟨⟨active, -⟩, -⟩ := passed
  exact ⟨here, active⟩

theorem State.nodup_candidates (s : State) (cls : ClassNo) : (s.candidates cls).Nodup := by
  refine (List.nodup_finRange 32).filterMap fun i j v first second => ?_
  obtain ⟨c, -, first⟩ := Option.bind_eq_some_iff.mp first
  obtain ⟨d, -, second⟩ := Option.bind_eq_some_iff.mp second
  simp only [Option.ite_none_right_eq_some, Option.some.injEq] at first second
  exact congrArg Prod.fst (first.2.trans second.2.symm)

/-- The ranking holds the candidates, each once. -/
theorem State.victims_ranking (s : State) (cls : ClassNo) : s.Victims (s.ranking cls) := by
  have same : (s.ranking cls).Perm (s.candidates cls) := List.perm_insertionSort _ _
  have records : ∀ v ∈ s.ranking cls, s.connection v.1 = some v.2 ∧ v.2.state = .active :=
    fun v ranked => State.mem_candidates (same.mem_iff.mp ranked)
  refine ⟨records, List.Nodup.map_on (fun v ranked w ranked' index => ?_) (same.nodup_iff.mpr (s.nodup_candidates cls))⟩
  refine Prod.ext index (Option.some.inj ?_)
  rw [← (records v ranked).1, ← (records w ranked').1, index]

theorem State.Victims.sublist {s : State} {all victims : List (Index × Connection)} (law : s.Victims all)
    (part : victims.Sublist all) : s.Victims victims :=
  ⟨fun v taken => law.records v (part.subset taken), law.distinct.sublist (part.map _)⟩

theorem victimsSuffice_iff (width covered : Nat) (needOne : Bool) (taken : List (Index × Connection)) :
    victimsSuffice width needOne covered taken = true ↔ width ≤ covered ∧ (needOne = true → taken ≠ []) := by
  cases needOne <;> simp [victimsSuffice]

/-- Taking victims takes from the head of the ranking until they cover the width and, where one is needed, there is one
(R65). -/
theorem takeVictims_eq_some {width covered : Nat} {needOne : Bool} {ranking taken victims : List (Index × Connection)}
    (found : takeVictims width needOne ranking covered taken = some victims) :
    ∃ more, more <+: ranking ∧ victims = taken ++ more ∧ width ≤ covered + (more.map (·.2.width)).sum ∧
      (needOne = true → victims ≠ []) := by
  induction ranking generalizing covered taken with
  | nil =>
    simp only [takeVictims, Option.ite_none_right_eq_some, victimsSuffice_iff, Option.some.injEq] at found
    obtain ⟨⟨wide, one⟩, rfl⟩ := found
    exact ⟨[], List.prefix_refl _, by simp, by simpa using wide, one⟩
  | cons v rest ih =>
    rw [takeVictims] at found
    split at found
    · rename_i enough
      obtain ⟨wide, one⟩ := (victimsSuffice_iff ..).mp enough
      cases found
      exact ⟨[], List.nil_prefix, by simp, by simpa using wide, one⟩
    · obtain ⟨more, head, rfl, wide, one⟩ := ih found
      refine ⟨v :: more, List.cons_prefix_cons.mpr ⟨rfl, head⟩, by simp, ?_, one⟩
      simp only [List.map_cons, List.sum_cons]
      omega

/-- What the victims found for a request are (R65). -/
theorem State.victimsFor_found {s : State} {cls : ClassNo} {width : Nat} {victims : List (Index × Connection)}
    (found : s.victimsFor cls width = some victims) :
    s.Victims victims ∧ width ≤ s.freeSlots.length + (victims.map (·.2.width)).sum ∧
      (s.unusedIndex = none → victims ≠ []) := by
  obtain ⟨more, head, rfl, wide, one⟩ := takeVictims_eq_some found
  exact ⟨(s.victims_ranking cls).sublist head.sublist, wide, by simpa using one⟩

/-- With too few FREE slots, or with every index in use, there is a victim. -/
theorem State.victimsFor_ne_nil {s : State} {cls : ClassNo} {width : Nat} {victims : List (Index × Connection)}
    (found : s.victimsFor cls width = some victims)
    (noRoom : s.unusedIndex = none ∨ s.searchSlots false width = none) : victims ≠ [] := by
  obtain ⟨-, wide, one⟩ := State.victimsFor_found found
  obtain full | short := noRoom
  · exact one full
  · rintro rfl
    have few := (s.scatteredSearch_eq_none_iff width).mp short
    simp only [List.map_nil, List.sum_nil] at wide
    omega

/-! ### The records of the victims go (R66) -/

/-- The victims' records go, each with LEASE raised (R66). -/
def State.endVictims (victims : List (Index × Connection)) (s : State) : State :=
  victims.foldl (fun s v => (s.forgetConnection v.1).raise .lease) s

@[simp] theorem State.connection_endVictims (s : State) (victims : List (Index × Connection)) (j : Index) :
    (s.endVictims victims).connection j = if j ∈ victims.map (·.1) then none else s.connection j := by
  unfold State.endVictims
  induction victims generalizing s with
  | nil => simp
  | cons v rest ih =>
    rw [List.foldl_cons, ih, State.raise_connection, State.connection_forgetConnection]
    by_cases same : v.1 = j
    · simp [same]
    · simp only [same, if_false, List.map_cons, List.mem_cons, Ne.symm same, false_or]

/-- The end of the victims' records changes the table, CONNECTION CHANGES and the flags alone. -/
theorem State.endVictims_frame (s : State) (victims : List (Index × Connection)) :
    s.endVictims victims =
      { s with
        connections := (s.endVictims victims).connections
        connectionChanges := s.connectionChanges + BitVec.ofNat 16 victims.length
        flags := if victims = [] then s.flags else s.flags ||| Flag.lease.mask } := by
  unfold State.endVictims
  induction victims generalizing s with
  | nil => simp
  | cons v rest ih =>
    rw [List.foldl_cons, ih]
    have count : s.connectionChanges + 1#16 + BitVec.ofNat 16 rest.length =
        s.connectionChanges + BitVec.ofNat 16 (rest.length + 1) := by
      rw [Nat.add_comm, BitVec.ofNat_add, BitVec.add_assoc]
    have flags (f : BitVec 10) : (if rest = [] then f ||| Flag.lease.mask else f ||| Flag.lease.mask ||| Flag.lease.mask) =
        f ||| Flag.lease.mask := by
      split <;> simp [BitVec.or_assoc]
    simp [count, flags, State.raise, State.forgetConnection, State.bumpConnections, State.setConnection]

end Sys2Proof.Machine
end

section
/-! The slots of a pre-emption (R13, R66). -/

namespace Sys2Proof.Machine

/-! ### The slots of a pre-emption (R13, R66) -/

theorem SlotRecord.victims_iff (victims : List Index) (r : SlotRecord) :
    r.victims victims = true ↔ ∃ j ∈ victims, r = .held j := by
  cases r <;> simp [SlotRecord.victims]

/-- A slot that a pre-emption may take: FREE, or HELD by a victim (R66). -/
def State.Takeable (s : State) (victims : List Index) (n : Nat) : Prop :=
  s.slot n = some .free ∨ ∃ j ∈ victims, s.slot n = some (.held j)

/-- The slots a pre-emption may take, ascending. -/
def State.takeable (s : State) (victims : List Index) : List Nat :=
  bearerSlots.filter fun n => s.slotFree n || (s.slot n).any (·.victims victims)

theorem State.preemptList_eq (s : State) (victims : List Index) (width : Nat) :
    s.preemptList victims width = (s.takeable victims).take width := rfl

theorem State.mem_takeable_iff (s : State) (victims : List Index) (n : Nat) :
    n ∈ s.takeable victims ↔ s.Takeable victims n := by
  simp only [State.takeable, List.mem_filter, Bool.or_eq_true, State.slotFree_eq_true_iff, Option.any_eq_true,
    SlotRecord.victims_iff, State.Takeable]
  constructor
  · rintro ⟨-, free | ⟨r, slot, j, victim, rfl⟩⟩
    · exact .inl free
    · exact .inr ⟨j, victim, slot⟩
  · rintro (free | ⟨j, victim, slot⟩)
    · exact ⟨mem_bearerSlots_of_slot free, .inl free⟩
    · exact ⟨mem_bearerSlots_of_slot slot, .inr ⟨_, slot, j, victim, rfl⟩⟩

theorem State.pairwise_takeable (s : State) (victims : List Index) : (s.takeable victims).Pairwise (· < ·) :=
  pairwise_bearerSlots.sublist List.filter_sublist

/-- There are as many takeable slots as FREE slots and slots in the victims' lists: no two of these lists share a slot. -/
theorem State.SlotLaw.length_le_takeable {s : State} (law : s.SlotLaw) {victims : List (Index × Connection)}
    (good : s.Victims victims) :
    s.freeSlots.length + (victims.map (·.2.width)).sum ≤ (s.takeable (victims.map (·.1))).length := by
  have held (v) (victim : v ∈ victims) (n) (listed : n ∈ v.2.slotList) : s.slot n = some (.held v.1) := by
    obtain ⟨here, active⟩ := good.records v victim
    have states := law.states v.1 v.2 here
    simp only [State.slotsInState, active] at states
    exact states n listed
  have widths : (victims.map (·.2.width)).sum = (victims.flatMap (·.2.slotList)).length := by
    rw [List.length_flatMap]
    exact congrArg List.sum (List.map_congr_left fun v victim => (law.widths _ _ (good.records v victim).1).symm)
  have apart : (victims.flatMap (·.2.slotList)).Nodup := by
    refine List.nodup_flatMap.mpr ⟨fun v victim => ?_, (List.pairwise_map.mp good.distinct).imp_of_mem ?_⟩
    · exact (law.ascending _ _ (good.records v victim).1).imp Nat.ne_of_lt
    · intro v w first second differ n here there
      have := (held v first n here).symm.trans (held w second n there)
      exact differ (SlotRecord.held.inj (Option.some.inj this))
  rw [widths, ← List.length_append]
  refine (List.Nodup.subperm (List.nodup_append.mpr ⟨?_, apart, ?_⟩) fun n here => ?_).length_le
  · exact s.pairwise_freeSlots.imp Nat.ne_of_lt
  · rintro n free m listed rfl
    obtain ⟨v, victim, listed⟩ := List.mem_flatMap.mp listed
    simpa using ((s.mem_freeSlots_iff n).mp free).symm.trans (held v victim n listed)
  · rw [State.mem_takeable_iff]
    obtain free | listed := List.mem_append.mp here
    · exact .inl ((s.mem_freeSlots_iff n).mp free)
    · obtain ⟨v, victim, listed⟩ := List.mem_flatMap.mp listed
      exact .inr ⟨v.1, List.mem_map_of_mem victim, held v victim n listed⟩

/-- The new list of a pre-emption: takeable slots, ascending, as many as the width (R66). -/
theorem State.SlotLaw.preemptList_good {s : State} (law : s.SlotLaw) {victims : List (Index × Connection)}
    {cls : ClassNo} {width : Nat} (found : s.victimsFor cls width = some victims) :
    (∀ n ∈ s.preemptList (victims.map (·.1)) width, s.Takeable (victims.map (·.1)) n) ∧
      (s.preemptList (victims.map (·.1)) width).Pairwise (· < ·) ∧
      (s.preemptList (victims.map (·.1)) width).length = width := by
  obtain ⟨good, wide, -⟩ := State.victimsFor_found found
  rw [State.preemptList_eq]
  refine ⟨fun n here => (s.mem_takeable_iff _ n).mp (List.mem_of_mem_take here),
    (s.pairwise_takeable _).sublist (List.take_sublist ..),
    List.length_take_of_le (wide.trans (law.length_le_takeable good))⟩

/-- A takeable slot is owned by the new index after the claim where it is chosen, and by none where it is not (R13). -/
theorem SlotRecord.owner_preempted_of_takeable {victims : List Index} {r : SlotRecord}
    (takeable : r = .free ∨ ∃ j ∈ victims, r = .held j) (i : Index) (chosen : Bool) (p : Parity) :
    (r.preempted victims i chosen p).owner = if chosen then some i else none := by
  obtain rfl | ⟨j, victim, rfl⟩ := takeable
  · cases chosen <;> rfl
  · simp [SlotRecord.preempted, victim, SlotRecord.owner]

/-- Any other slot is not touched by the claim (R13). -/
theorem SlotRecord.preempted_of_not_takeable {victims : List Index} {r : SlotRecord}
    (other : ¬ (r = .free ∨ ∃ j ∈ victims, r = .held j)) (i : Index) (chosen : Bool) (p : Parity) :
    r.preempted victims i chosen p = r := by
  cases r <;> simp_all [SlotRecord.preempted]

@[simp] theorem State.slot_preemptClaim (s : State) (victims : List Index) (i : Index) (list : List Nat) (n : Nat) :
    (s.preemptClaim victims i list).slot n =
      (s.slot n).map fun r => r.preempted victims i (n ∈ list) s.timer.parity := by
  simp [State.preemptClaim]

end Sys2Proof.Machine
end

section
/-! The new record of a pre-emption under the slot law. -/

namespace Sys2Proof.Machine

/-! ### Pre-emption under the slot law (R13, R66) -/

/-- The claim and the new record of a pre-emption, its messages still to come (R66). -/
def State.preemptMade (victims : List (Index × Connection)) (i : Index) (c : Connection) (s : State) : State :=
  ((s.endVictims victims).preemptClaim (victims.map (·.1)) i c.slotList).createConnection i c

theorem State.slot_preemptMade (s : State) (victims : List (Index × Connection)) (i : Index) (c : Connection) (n : Nat) :
    (s.preemptMade victims i c).slot n =
      (s.slot n).map fun r => r.preempted (victims.map (·.1)) i (n ∈ c.slotList) s.timer.parity := by
  have slots : (s.endVictims victims).slot n = s.slot n := by rw [State.endVictims_frame]; rfl
  have timer : (s.endVictims victims).timer = s.timer := by rw [State.endVictims_frame]
  simp only [State.preemptMade, State.createConnection_slot, State.slot_preemptClaim, slots, timer]

theorem State.connection_preemptMade (s : State) (victims : List (Index × Connection)) (i j : Index) (c : Connection) :
    (s.preemptMade victims i c).connection j =
      if i = j then some c else if j ∈ victims.map (·.1) then none else s.connection j := by
  simp [State.preemptMade]

/-- What a pre-emption makes of a slot: a takeable slot is owned by the new index or by none, any other is as it was, not
chosen, and of no victim. -/
theorem State.SlotLaw.slot_preemptMade_cases {s : State} (law : s.SlotLaw) {victims : List (Index × Connection)}
    (good : s.Victims victims) {i : Index} {c : Connection}
    (chosen : ∀ n ∈ c.slotList, s.Takeable (victims.map (·.1)) n) (n : Nat) :
    (s.Takeable (victims.map (·.1)) n ∧
        ∀ j, (s.preemptMade victims i c).ownedBy n j ↔ n ∈ c.slotList ∧ j = i) ∨
      (n ∉ c.slotList ∧ (s.preemptMade victims i c).slot n = s.slot n ∧
        ∀ j ∈ victims.map (·.1), ¬ s.ownedBy n j) := by
  cases slot : s.slot n with
  | none =>
    refine .inr ⟨fun listed => ?_, by simp [State.slot_preemptMade, slot], fun j _ => State.not_ownedBy_of_slot_none slot j⟩
    obtain free | ⟨j, -, held⟩ := chosen n listed <;> simp_all
  | some r =>
    by_cases takeable : r = .free ∨ ∃ j ∈ victims.map (·.1), r = .held j
    · refine .inl ⟨by simpa only [State.Takeable, slot, Option.some.injEq] using takeable, fun j => ?_⟩
      rw [State.ownedBy_iff_of_slot (r := r.preempted (victims.map (·.1)) i (n ∈ c.slotList) s.timer.parity)
        (by simp [State.slot_preemptMade, slot]), SlotRecord.owner_preempted_of_takeable takeable]
      by_cases listed : n ∈ c.slotList <;> simp [listed, eq_comm]
    · refine .inr ⟨fun listed => takeable ?_, ?_, fun j victim owned => takeable (.inr ⟨j, victim, ?_⟩)⟩
      · simpa only [State.Takeable, slot, Option.some.injEq] using chosen n listed
      · simp [State.slot_preemptMade, slot, SlotRecord.preempted_of_not_takeable takeable]
      · obtain ⟨v, taken, rfl⟩ := List.mem_map.mp victim
        obtain ⟨here, active⟩ := good.records v taken
        exact law.eq_held here active slot ((State.ownedBy_iff_of_slot slot _).mp owned)

/-- The states of the new record's slots: RESERVED where they were FREE, earmarked GUARD where a victim held them (R13). -/
theorem State.slot_preemptMade_of_chosen {s : State} {victims : List (Index × Connection)} {i : Index} {c : Connection}
    {n : Nat} (listed : n ∈ c.slotList) (takeable : s.Takeable (victims.map (·.1)) n) :
    (s.preemptMade victims i c).slot n =
      some (if s.slot n = some .free then .reserved i else .guard (some i) s.timer.parity) := by
  rw [State.slot_preemptMade]
  obtain free | ⟨j, victim, held⟩ := takeable
  · simp [free, SlotRecord.preempted, listed]
  · simp only [held, Option.map_some, SlotRecord.preempted, victim, if_true, listed, decide_true]
    simp

/-- The new record's slots stand as R20 has them for its state. -/
theorem State.slotsInState_preemptMade {s : State} {victims : List (Index × Connection)} {i : Index} {c : Connection}
    (chosen : ∀ n ∈ c.slotList, s.Takeable (victims.map (·.1)) n)
    (state : c.state = if c.slotList.all s.slotFree then .offered else .pending) :
    (s.preemptMade victims i c).slotsInState i c := by
  have slots (n) (listed : n ∈ c.slotList) := State.slot_preemptMade_of_chosen (i := i) listed (chosen n listed)
  by_cases all : c.slotList.all s.slotFree = true
  · rw [if_pos all] at state
    simp only [List.all_eq_true, State.slotFree_eq_true_iff] at all
    simp only [State.slotsInState, state]
    intro n listed
    rw [slots n listed, if_pos (all n listed)]
  · rw [if_neg all] at state
    simp only [List.all_eq_true, State.slotFree_eq_true_iff, not_forall] at all
    obtain ⟨n, listed, taken⟩ := all
    simp only [State.slotsInState, state]
    refine ⟨s.timer.parity, fun m here => ?_, n, listed, by rw [slots n listed, if_neg taken]⟩
    rw [slots m here]
    split
    · exact .inl rfl
    · exact .inr rfl

/-- A pre-emption keeps the slot law. -/
theorem State.SlotLaw.preemptMade {s : State} (law : s.SlotLaw) {victims : List (Index × Connection)}
    (good : s.Victims victims) {i : Index} {c : Connection}
    (unused : s.connection i = none ∨ i ∈ victims.map (·.1))
    (chosen : ∀ n ∈ c.slotList, s.Takeable (victims.map (·.1)) n)
    (state : c.state = if c.slotList.all s.slotFree then .offered else .pending)
    (ascending : c.slotList.Pairwise (· < ·)) (width : c.slotList.length = c.width) :
    (s.preemptMade victims i c).SlotLaw := by
  have cases (n : Nat) := law.slot_preemptMade_cases (i := i) good chosen n
  rw [State.slotLaw_iff_forall_at]
  intro j
  by_cases new : i = j
  · subst new
    refine State.slotLawAt_of_some (c := c) (by simp [State.connection_preemptMade]) ?_ (fun n owned => ?_) ascending width
    · exact State.slotsInState_preemptMade chosen state
    · obtain ⟨-, owners⟩ | ⟨-, same, notVictims⟩ := cases n
      · exact ((owners i).mp owned).1
      · have before : s.ownedBy n i := by simpa only [State.ownedBy, same] using owned
        exact unused.elim (fun none => absurd before (law.not_owned none n)) fun victim => absurd before (notVictims i victim)
  · by_cases victim : j ∈ victims.map (·.1)
    · refine State.slotLawAt_of_none
        (by simp only [State.connection_preemptMade, new, victim, if_true, if_false]) fun n owned => ?_
      obtain ⟨-, owners⟩ | ⟨-, same, notVictims⟩ := cases n
      · exact new ((owners j).mp owned).2.symm
      · exact notVictims j victim (by simpa only [State.ownedBy, same] using owned)
    · refine (State.sameAt_of_slots
        (by simp only [State.connection_preemptMade, new, victim, if_false]) fun n => ?_).slotLawAt
        (s.slotLaw_iff_forall_at.mp law j)
      obtain ⟨takeable, owners⟩ | ⟨-, same, -⟩ := cases n
      · refine .inr ⟨?_, fun owned => new ((owners j).mp owned).2.symm⟩
        obtain free | ⟨k, taken, held⟩ := takeable
        · simp [State.ownedBy_iff_of_slot free, SlotRecord.owner]
        · rw [State.ownedBy_iff_of_slot held]
          rintro owner
          exact victim (Option.some.inj owner ▸ taken)
      · exact .inl same

end Sys2Proof.Machine
end

section
/-! Runs of messages to the Downlink Queue. -/

namespace Sys2Proof.Machine

/-! ### Runs of messages -/

/-- Messages are offered one after another. -/
def State.offerAll (messages : List DownMessage) (s : State) : State := messages.foldl (fun t m => t.offer m) s

@[simp] theorem State.offerAll_nil (s : State) : s.offerAll [] = s := rfl

theorem State.offerAll_cons (s : State) (m : DownMessage) (rest : List DownMessage) :
    s.offerAll (m :: rest) = (s.offer m).offerAll rest := rfl

theorem State.offerAll_append (s : State) (first second : List DownMessage) :
    s.offerAll (first ++ second) = (s.offerAll first).offerAll second := List.foldl_append

theorem State.offerAll_keeps (s : State) (P : State → Prop) (offered : ∀ t m, P t → P (t.offer m))
    (messages : List DownMessage) (start : P s) : P (s.offerAll messages) :=
  foldl_keeps s P _ offered messages start

theorem State.sameMap_offerAll (s : State) (messages : List DownMessage) : s.SameMap (s.offerAll messages) :=
  s.offerAll_keeps s.SameMap (fun t m same => same.trans (t.sameMap_offer m)) messages (State.SameMap.refl s)

@[simp] theorem State.offerAll_serial (s : State) (messages : List DownMessage) (i : Index) :
    (s.offerAll messages).serial i = s.serial i :=
  s.offerAll_keeps (fun t => t.serial i = s.serial i)
    (fun t m same => by simpa only [State.serial, State.offer_serials] using same) messages rfl

@[simp] theorem State.offerAll_timer (s : State) (messages : List DownMessage) : (s.offerAll messages).timer = s.timer :=
  s.offerAll_keeps (fun t => t.timer = s.timer) (fun t m same => by simpa using same) messages rfl

@[simp] theorem State.offerAll_answerPeriod (s : State) (messages : List DownMessage) :
    (s.offerAll messages).answerPeriod = s.answerPeriod :=
  s.offerAll_keeps (fun t => t.answerPeriod = s.answerPeriod) (fun t m same => by simpa using same) messages rfl

@[simp] theorem State.offerAll_connectionChanges (s : State) (messages : List DownMessage) :
    (s.offerAll messages).connectionChanges = s.connectionChanges :=
  s.offerAll_keeps (fun t => t.connectionChanges = s.connectionChanges) (fun t m same => by simpa using same) messages rfl

/-- The messages that carry a body to the station of a handle: one, or none where the handle is free. -/
def State.messagesTo (s : State) (h : Handle) (body : DownBody) : List DownMessage :=
  (s.station h).toList.map fun r => ⟨r.number, body⟩

theorem State.messagesTo_of_station {s : State} {h : Handle} {r : Station} (here : s.station h = some r) (body : DownBody) :
    s.messagesTo h body = [⟨r.number, body⟩] := by
  simp [State.messagesTo, here]

theorem State.tell_eq_offerAll (s : State) (h : Handle) (body : DownBody) :
    s.tell h body = s.offerAll (s.messagesTo h body) := by
  unfold State.tell State.messagesTo
  cases s.station h <;> rfl

theorem State.tell_of_station {s : State} {h : Handle} {r : Station} (here : s.station h = some r) (body : DownBody) :
    s.tell h body = s.offer ⟨r.number, body⟩ := by
  simp only [State.tell, here]

/-- An offer leaves the station numbers alone (R147). -/
theorem State.station_number_offer (s : State) (m : DownMessage) (h : Handle) :
    ((s.offer m).station h).map Station.number = (s.station h).map Station.number := by
  have settled := congrArg (Option.map Station.number) (s.settledFields_offer m h)
  rwa [Option.map_map, Option.map_map] at settled

theorem State.station_number_offerAll (s : State) (messages : List DownMessage) (h : Handle) :
    ((s.offerAll messages).station h).map Station.number = (s.station h).map Station.number :=
  s.offerAll_keeps (fun t => (t.station h).map Station.number = (s.station h).map Station.number)
    (fun t m same => (t.station_number_offer m h).trans same) messages rfl

@[simp] theorem State.numberOf_offerAll (s : State) (messages : List DownMessage) (h : Handle) :
    (s.offerAll messages).numberOf h = s.numberOf h :=
  congrArg (Option.getD · 0) (s.station_number_offerAll messages h)

@[simp] theorem State.messagesTo_offerAll (s : State) (messages : List DownMessage) (h : Handle) (body : DownBody) :
    (s.offerAll messages).messagesTo h body = s.messagesTo h body := by
  have same := congrArg (fun o => o.toList.map fun n => (⟨n, body⟩ : DownMessage)) (s.station_number_offerAll messages h)
  simpa only [State.messagesTo, Option.toList_map, List.map_map, Function.comp_def] using same

/-- OFFER of a connection to its answerer, as messages. -/
def State.offerMessages (s : State) (i : Index) (c : Connection) : List DownMessage :=
  s.messagesTo c.answerer
    (.offer (s.referenceOf i) (s.numberOf c.originator) c.cls c.width c.contiguous c.slotList c.remaining)

theorem State.sendOffer_eq_offerAll (s : State) (i : Index) (c : Connection) :
    s.sendOffer i c = s.offerAll (s.offerMessages i c) := s.tell_eq_offerAll ..

@[simp] theorem State.offerMessages_offerAll (s : State) (messages : List DownMessage) (i : Index) (c : Connection) :
    (s.offerAll messages).offerMessages i c = s.offerMessages i c := by
  simp [State.offerMessages, State.referenceOf]

/-! ### A change of the Connection Table and an offer do not meet -/

/-- The Connection Table and its change counter are replaced. -/
def State.withTable (connections : Vector (Option Connection) 32) (changes : BitVec 16) (s : State) : State :=
  { s with connections := connections, connectionChanges := changes }

theorem State.offer_withTable (s : State) (connections : Vector (Option Connection) 32) (changes : BitVec 16)
    (m : DownMessage) : (s.withTable connections changes).offer m = (s.offer m).withTable connections changes := by
  have room : (s.withTable connections changes).downlinkFree = s.downlinkFree := rfl
  have found : ((s.withTable connections changes).raise .sync).lookup m.destination =
    (s.raise .sync).lookup m.destination := rfl
  unfold State.offer State.oweSync
  rw [room, found]
  split
  · rfl
  · split
    · split <;> rfl
    · rfl

theorem State.offerAll_withTable (s : State) (connections : Vector (Option Connection) 32) (changes : BitVec 16)
    (messages : List DownMessage) :
    (s.withTable connections changes).offerAll messages = (s.offerAll messages).withTable connections changes := by
  induction messages generalizing s with
  | nil => rfl
  | cons m rest ih => rw [State.offerAll_cons, State.offer_withTable, ih, State.offerAll_cons]

end Sys2Proof.Machine
end

section
/-! Earmark completion (R16, R29). -/

namespace Sys2Proof.Machine

/-! ### Earmark completion (R16, R29) -/

/-- The index has a PENDING record. -/
def State.pendingAt (s : State) (i : Index) : Bool := (s.connection i).any fun c => c.state = .pending

theorem State.pendingAt_iff (s : State) (i : Index) :
    s.pendingAt i = true ↔ ∃ c, s.connection i = some c ∧ c.state = .pending := by
  simp [State.pendingAt, Option.any_eq_true]

/-- The record that earmark completion makes of a PENDING one (R29). -/
def State.completedRecord (s : State) (c : Connection) : Connection :=
  { c with state := .offered, countdown := some (s.countdownOf s.answerPeriod) }

theorem State.completeEarmark_of_pending {s : State} {i : Index} {c : Connection} (here : s.connection i = some c)
    (pending : c.state = .pending) :
    s.completeEarmark i =
      (s.withTable (s.connections.set i (some (s.completedRecord c))) (s.connectionChanges + 1)).offerAll
        (s.offerMessages i (s.completedRecord c)) := by
  have offered : s.completeEarmark i =
      ((s.setConnection i (some (s.completedRecord c))).bumpConnections 1).sendOffer i (s.completedRecord c) := by
    simp only [State.completeEarmark, here, pending, if_true, State.completedRecord]
  rw [offered, State.sendOffer_eq_offerAll]
  rfl

theorem State.completeEarmark_of_not_pending {s : State} {i : Index} (other : s.pendingAt i = false) :
    s.completeEarmark i = s := by
  unfold State.completeEarmark
  cases here : s.connection i with
  | none => rfl
  | some c =>
    refine if_neg fun pending => ?_
    simp [State.pendingAt, here, pending] at other

theorem State.connection_completeEarmark_of_ne (s : State) {i j : Index} (other : i ≠ j) :
    (s.completeEarmark i).connection j = s.connection j := by
  cases pending : s.pendingAt i with
  | false => rw [State.completeEarmark_of_not_pending pending]
  | true =>
    obtain ⟨c, here, state⟩ := (s.pendingAt_iff i).mp pending
    rw [State.completeEarmark_of_pending here state, (State.sameMap_offerAll ..).connection]
    exact (s.connection_setConnection i j _).trans (if_neg other)

theorem State.connection_completeEarmark_self {s : State} {i : Index} {c : Connection} (here : s.connection i = some c)
    (pending : c.state = .pending) : (s.completeEarmark i).connection i = some (s.completedRecord c) := by
  rw [State.completeEarmark_of_pending here pending, (State.sameMap_offerAll ..).connection]
  exact (s.connection_setConnection i i _).trans (if_pos rfl)

/-- Completions of indices whose record is not PENDING do nothing. -/
theorem State.foldl_completeEarmark_filter (s : State) (list : List Index) (nodup : list.Nodup) :
    list.foldl State.completeEarmark s = (list.filter s.pendingAt).foldl State.completeEarmark s := by
  induction list generalizing s with
  | nil => rfl
  | cons i rest ih =>
    obtain ⟨fresh, nodup⟩ := List.nodup_cons.mp nodup
    have same : rest.filter (s.completeEarmark i).pendingAt = rest.filter s.pendingAt :=
      List.filter_congr fun j there => by
        have other : i ≠ j := fun same => fresh (by rwa [same])
        simp only [State.pendingAt, s.connection_completeEarmark_of_ne other]
    rw [List.foldl_cons, ih _ nodup, same]
    cases pending : s.pendingAt i with
    | false => rw [State.completeEarmark_of_not_pending pending, List.filter_cons_of_neg (by simp [pending])]
    | true => rw [List.filter_cons_of_pos pending, List.foldl_cons]

/-- The table after earmark completion of the indices of a list. -/
def State.completedTable (s : State) (list : List Index) : Vector (Option Connection) 32 :=
  s.connections.mapIdx fun j c => if ∃ i ∈ list, i.val = j then c.map s.completedRecord else c

/-- Two Connection Tables are one where they have the same record at every index. -/
theorem connections_ext {x y : Vector (Option Connection) 32} (same : ∀ i : Index, x[i] = y[i]) : x = y :=
  Vector.ext fun k bound => same ⟨k, bound⟩

theorem State.getElem_completedTable (s : State) (list : List Index) (j : Index) :
    (s.completedTable list)[j] = if j ∈ list then (s.connection j).map s.completedRecord else s.connection j := by
  simp [State.completedTable, State.connection, Fin.val_inj]

@[simp] theorem State.completedRecord_completeEarmark (s : State) (i : Index) :
    (s.completeEarmark i).completedRecord = s.completedRecord := by
  cases pending : s.pendingAt i with
  | false => rw [State.completeEarmark_of_not_pending pending]
  | true =>
    obtain ⟨c, here, state⟩ := (s.pendingAt_iff i).mp pending
    rw [State.completeEarmark_of_pending here state]
    funext d
    simp [State.completedRecord, State.countdownOf, State.withTable]

/-- The OFFERs of earmark completion of an index (R29). -/
def State.earmarkOffers (s : State) (i : Index) : List DownMessage :=
  (s.connection i).toList.flatMap fun c => s.offerMessages i (s.completedRecord c)

theorem State.earmarkOffers_completeEarmark (s : State) {i j : Index} (other : i ≠ j) :
    (s.completeEarmark i).earmarkOffers j = s.earmarkOffers j := by
  have offers (c : Connection) : (s.completeEarmark i).offerMessages j c = s.offerMessages j c := by
    cases pending : s.pendingAt i with
    | false => rw [State.completeEarmark_of_not_pending pending]
    | true =>
      obtain ⟨c, here, state⟩ := (s.pendingAt_iff i).mp pending
      rw [State.completeEarmark_of_pending here state, State.offerMessages_offerAll]
      rfl
  simp only [State.earmarkOffers, s.connection_completeEarmark_of_ne other, offers,
    State.completedRecord_completeEarmark]

/-- Earmark completion of PENDING records: all of them change, and then the OFFERs go in the order of the list. -/
theorem State.foldl_completeEarmark_eq (s : State) (list : List Index) (nodup : list.Nodup)
    (pending : ∀ i ∈ list, s.pendingAt i = true) :
    list.foldl State.completeEarmark s =
      (s.withTable (s.completedTable list) (s.connectionChanges + BitVec.ofNat 16 list.length)).offerAll
        (list.flatMap s.earmarkOffers) := by
  induction list generalizing s with
  | nil =>
    have table : s.completedTable [] = s.connections := connections_ext fun j => by
      rw [State.getElem_completedTable, if_neg List.not_mem_nil]
      rfl
    simp [table, State.withTable]
  | cons i rest ih =>
    obtain ⟨fresh, nodup⟩ := List.nodup_cons.mp nodup
    obtain ⟨c, here, state⟩ := (s.pendingAt_iff i).mp (pending i (List.mem_cons_self ..))
    have other (j) (there : j ∈ rest) : i ≠ j := fun same => fresh (by rwa [same])
    have table : (s.completeEarmark i).completedTable rest = s.completedTable (i :: rest) := by
      refine connections_ext fun j => ?_
      rw [State.getElem_completedTable, State.getElem_completedTable]
      by_cases same : i = j
      · subst same
        rw [if_neg fresh, if_pos (List.mem_cons_self ..), here, State.connection_completeEarmark_self here state]
        rfl
      · simp [s.connection_completeEarmark_of_ne same, Ne.symm same]
    have count : (s.completeEarmark i).connectionChanges + BitVec.ofNat 16 rest.length =
        s.connectionChanges + BitVec.ofNat 16 (i :: rest).length := by
      rw [State.completeEarmark_of_pending here state, State.offerAll_connectionChanges, List.length_cons, Nat.add_comm,
        BitVec.ofNat_add, ← BitVec.add_assoc]
      rfl
    have offers : rest.flatMap (s.completeEarmark i).earmarkOffers = rest.flatMap s.earmarkOffers :=
      List.flatMap_congr fun j there => s.earmarkOffers_completeEarmark (other j there)
    have pending' (j) (there : j ∈ rest) : (s.completeEarmark i).pendingAt j = true := by
      simpa only [State.pendingAt, s.connection_completeEarmark_of_ne (other j there)] using
        pending j (List.mem_cons_of_mem _ there)
    rw [List.foldl_cons, ih _ nodup pending', table, count, offers, List.flatMap_cons, State.offerAll_append]
    congr 1
    rw [State.completeEarmark_of_pending here state, ← State.offerAll_withTable]
    simp only [State.earmarkOffers, here, Option.toList_some, List.flatMap_singleton]
    rfl

end Sys2Proof.Machine
end

section
/-! Guard end (R15, R16). -/

namespace Sys2Proof.Machine

/-! ### Guard end (R15, R16, R29) -/

theorem State.anySlot_iff (s : State) (p : SlotRecord → Bool) :
    s.anySlot p = true ↔ ∃ n r, s.slot n = some r ∧ p r = true := by
  simp only [State.anySlot, List.any_eq_true, Option.any_eq_true]
  constructor
  · rintro ⟨n, -, r, slot, holds⟩
    exact ⟨n, r, slot, holds⟩
  · rintro ⟨n, r, slot, holds⟩
    exact ⟨n, mem_bearerSlots_of_slot slot, r, slot, holds⟩

/-- The PENDING indices whose earmarks this guard end turns RESERVED, ascending (R16). -/
def State.completions (s : State) : List Index := (s.completing (!s.timer.parity)).filter s.pendingAt

theorem State.mem_completions_iff (s : State) (i : Index) :
    i ∈ s.completions ↔ (∃ n, s.slot n = some (.guard (some i) (!s.timer.parity))) ∧ s.pendingAt i = true := by
  simp only [State.completions, State.completing, List.mem_filter, allIndices, List.mem_finRange, true_and,
    State.anySlot_iff, SlotRecord.completes, decide_eq_true_eq, exists_eq_right]

/-- Guard end before its service pass: the slot records, the completed records, then their OFFERs. -/
def State.guardsEnded (s : State) : State :=
  ((s.mapSlots fun _ r => r.guardEnded (!s.timer.parity)).withTable (s.completedTable s.completions)
    (s.connectionChanges + BitVec.ofNat 16 s.completions.length)).offerAll (s.completions.flatMap s.earmarkOffers)

theorem State.takeGuardEnd_eq (s : State) :
    s.takeGuardEnd =
      if s.anySlot (· = .guard none (!s.timer.parity)) then s.guardsEnded.servicePass else s.guardsEnded := by
  have nodup : (s.completing (!s.timer.parity)).Nodup := (List.nodup_finRange 32).filter _
  have completed : (s.completing (!s.timer.parity)).foldl State.completeEarmark
      (s.mapSlots fun _ r => r.guardEnded (!s.timer.parity)) = s.guardsEnded := by
    rw [State.foldl_completeEarmark_filter _ _ nodup]
    exact State.foldl_completeEarmark_eq _ _ (nodup.filter _) fun i there => (List.mem_filter.mp there).2
  simp only [State.takeGuardEnd, completed]

/-- The OFFER of a completed record is the message to its answerer that O38 writes out. -/
theorem State.earmarkOffers_eq (s : State) (i : Index) :
    s.earmarkOffers i =
      match s.connection i with
      | none => []
      | some k => (s.station k.answerer).toList.map fun y =>
        ⟨y.number, .offer ⟨i, s.serial i⟩ (s.numberOf k.originator) k.cls k.width k.contiguous k.slotList
          s.answerPeriod⟩ := by
  unfold State.earmarkOffers
  cases s.connection i with
  | none => rfl
  | some k => exact List.flatMap_singleton ..

theorem SlotRecord.guardEnded_eq (ending : Parity) (x : SlotRecord) :
    x.guardEnded ending =
      match x with
      | .guard none p => if p = ending then .free else x
      | .guard (some i) p => if p = ending then .reserved i else x
      | .free => x
      | .reserved _ => x
      | .held _ => x := by
  cases x with
  | guard owner p => cases owner <;> rfl
  | _ => rfl

/-- Settles O38, by what guard end makes of the slots, the table and the messages. -/
theorem guardEndFreesAndCompletes : Obligations.GuardEndFreesAndCompletes := by
  intro s quiet ending stands completed offers ended
  have event : exec .guardEnd s = .next s.takeOwedGuardEnd := congrArg _ (quiet.event_eq _)
  have standing (x : SlotRecord) : s.anySlot (· = x) = true ↔ stands x := by
    simp only [State.anySlot, List.any_eq_true, Option.any_eq_true, decide_eq_true_eq, exists_eq_right]
    rfl
  have completions : s.completions = completed := by
    rw [State.completions, State.completing, List.filter_filter]
    refine List.filter_congr fun i _ => Bool.eq_iff_iff.mpr ?_
    have : s.anySlot (·.completes ending i) = true ↔ stands (.guard (some i) ending) := standing _
    simp only [Bool.and_eq_true, decide_eq_true_eq]
    rw [and_comm, this]
    rfl
  have done : State.guardsEnded { s with owed := { s.owed with guardEnd := false } } = ended := by
    have messages : completed.flatMap s.earmarkOffers = offers :=
      congrArg (completed.flatMap ·) (funext s.earmarkOffers_eq)
    have mapped : (s.slots.mapIdx fun _ r => r.guardEnded ending) = s.slots.map (SlotRecord.guardEnded ending) :=
      Vector.ext fun k bound => by simp
    have slots := mapped.trans (congrArg s.slots.map (funext (SlotRecord.guardEnded_eq ending)))
    have start : ((State.mapSlots (fun _ r => r.guardEnded ending)
          { s with owed := { s.owed with guardEnd := false } }).withTable (s.completedTable completed)
        (s.connectionChanges + BitVec.ofNat 16 completed.length)).offerAll (completed.flatMap s.earmarkOffers) = ended := by
      rw [messages]
      simp only [State.mapSlots, State.withTable]
      rw [slots]
      rfl
    rw [← start, ← completions]
    rfl
  refine ⟨fun taken => ?_, fun owed => ⟨fun freed => ?_, fun none => ?_⟩⟩
  · rw [event, State.takeOwedGuardEnd, if_neg (by simp [taken])]
  · rw [event, State.takeOwedGuardEnd, if_pos owed, State.takeGuardEnd_eq, done, if_pos]
    exact (standing _).mpr freed
  · rw [event, State.takeOwedGuardEnd, if_pos owed, State.takeGuardEnd_eq, done, if_neg]
    exact fun freed => none ((standing _).mp freed)

end Sys2Proof.Machine
end

section
/-! Guard end under the slot law. -/

namespace Sys2Proof.Machine

/-! ### Guard end under the slot law (R15, R16) -/

@[simp] theorem SlotRecord.owner_guardEnded (ending : Parity) (r : SlotRecord) : (r.guardEnded ending).owner = r.owner := by
  cases r with
  | guard o p => cases o <;> simp only [SlotRecord.guardEnded] <;> split <;> rfl
  | _ => rfl

theorem State.slot_guardsEnded (s : State) (n : Nat) :
    s.guardsEnded.slot n = (s.slot n).map (·.guardEnded (!s.timer.parity)) := by
  rw [State.guardsEnded, (State.sameMap_offerAll ..).slot]
  exact s.slot_mapSlots (fun _ r => r.guardEnded (!s.timer.parity)) n

theorem State.connection_guardsEnded (s : State) (i : Index) :
    s.guardsEnded.connection i = if i ∈ s.completions then (s.connection i).map s.completedRecord else s.connection i := by
  rw [State.guardsEnded, (State.sameMap_offerAll ..).connection]
  exact s.getElem_completedTable ..

/-- Guard end changes no owner. -/
theorem State.ownedBy_guardsEnded_iff (s : State) (n : Nat) (i : Index) : s.guardsEnded.ownedBy n i ↔ s.ownedBy n i := by
  simp [State.ownedBy, State.slot_guardsEnded]

/-- The slots of an index stand after guard end as the state of its record asks: the guards of a PENDING record end
together, and then it is OFFERED (R16, R20). -/
theorem State.SlotLaw.slotsInState_guardsEnded {s : State} (law : s.SlotLaw) {i : Index} {c : Connection}
    (here : s.connection i = some c) :
    ∃ d, s.guardsEnded.connection i = some d ∧ d.slotList = c.slotList ∧ d.width = c.width ∧
      s.guardsEnded.slotsInState i d := by
  have states := law.states i c here
  have stays (other : i ∉ s.completions) : s.guardsEnded.connection i = some c := by
    rw [State.connection_guardsEnded, if_neg other, here]
  cases state : c.state with
  | active =>
    simp only [State.slotsInState, state] at states
    refine ⟨c, stays fun completes => ?_, rfl, rfl, ?_⟩
    · simp [State.mem_completions_iff, State.pendingAt, here, state] at completes
    · simp only [State.slotsInState, state]
      intro n listed
      simp [State.slot_guardsEnded, states n listed, SlotRecord.guardEnded]
  | offered =>
    simp only [State.slotsInState, state] at states
    refine ⟨c, stays fun completes => ?_, rfl, rfl, ?_⟩
    · simp [State.mem_completions_iff, State.pendingAt, here, state] at completes
    · simp only [State.slotsInState, state]
      intro n listed
      simp [State.slot_guardsEnded, states n listed, SlotRecord.guardEnded]
  | pending =>
    simp only [State.slotsInState, state] at states
    obtain ⟨p, all, m, earmarked, guarded⟩ := states
    by_cases ends : p = !s.timer.parity
    · refine ⟨s.completedRecord c, ?_, rfl, rfl, ?_⟩
      · rw [State.connection_guardsEnded, if_pos, here]
        · rfl
        · exact (s.mem_completions_iff i).mpr ⟨⟨m, ends ▸ guarded⟩, (s.pendingAt_iff i).mpr ⟨c, here, state⟩⟩
      · simp only [State.slotsInState, State.completedRecord]
        intro n listed
        obtain reserved | guarded := all n listed
        · simp [State.slot_guardsEnded, reserved, SlotRecord.guardEnded]
        · simp [State.slot_guardsEnded, guarded, SlotRecord.guardEnded, ends]
    · refine ⟨c, stays fun completes => ?_, rfl, rfl, ?_⟩
      · obtain ⟨⟨n, ending⟩, -⟩ := (s.mem_completions_iff i).mp completes
        have listed := law.mem_slotList_of_owner here ending rfl
        have other := all n listed
        rw [ending] at other
        simp [Ne.symm ends] at other
      · simp only [State.slotsInState, state]
        refine ⟨p, fun n listed => ?_, m, earmarked, by simp [State.slot_guardsEnded, guarded, SlotRecord.guardEnded, ends]⟩
        obtain reserved | guarded := all n listed
        · simp [State.slot_guardsEnded, reserved, SlotRecord.guardEnded]
        · simp [State.slot_guardsEnded, guarded, SlotRecord.guardEnded, ends]

/-- Guard end keeps the slot law, its service pass apart. -/
theorem State.SlotLaw.guardsEnded {s : State} (law : s.SlotLaw) : s.guardsEnded.SlotLaw := by
  rw [State.slotLaw_iff_forall_at]
  intro i
  cases here : s.connection i with
  | none =>
    refine State.slotLawAt_of_none ?_ fun n owned => law.not_owned here n ((s.ownedBy_guardsEnded_iff n i).mp owned)
    simp [State.connection_guardsEnded, here]
  | some c =>
    obtain ⟨d, there, list, width, states⟩ := law.slotsInState_guardsEnded here
    refine State.slotLawAt_of_some there states (fun n owned => ?_) (list ▸ law.ascending i c here) ?_
    · obtain ⟨r, slot, owner⟩ := (s.ownedBy_guardsEnded_iff n i).mp owned
      exact list ▸ law.mem_slotList_of_owner here slot owner
    · rw [list, width]
      exact law.widths i c here

end Sys2Proof.Machine
end

section
/-! How an event carries a property; the Lease Engine and the removal cascade under the slot law. -/

namespace Sys2Proof.Machine

/-! ### How an event carries a property -/

/-- A property that the taking of an expiry and the block's work keep is kept by the event. -/
theorem State.event_keeps (s : State) (P : State → Prop) (taken : ∀ t : State, P t → P t.takeDue) (f : State → State)
    (work : ∀ t, P t → P (f t)) (start : P s) : P (s.event f) := by
  unfold State.event
  split
  · exact work _ (s.settled_keeps P taken start)
  · exact start

theorem State.message_keeps (s : State) (P : State → Prop) (taken : ∀ t : State, P t → P t.takeDue)
    (ignores : ∀ t list, P t → P { t with handedOn := list }) (command : Instr) (f : State → State)
    (work : ∀ t, P t → P (f t)) (start : P s) : P (s.message command f) :=
  s.event_keeps P taken _ (fun t holds => work _ (ignores t _ holds)) start

theorem State.lineEvent_keeps (s : State) (P : State → Prop) (taken : ∀ t : State, P t → P t.takeDue)
    (ignores : ∀ t pins, P t → P { t with pins := pins }) (change : Pins → Pins) (f : State → State)
    (work : ∀ t, P t → P (f t)) (start : P s) : P (s.lineEvent change f) := by
  have changed := ignores s.settled (change s.settled.pins) (s.settled_keeps P taken start)
  simp only [State.lineEvent]
  split
  · exact work _ changed
  · exact changed

/-- A property that a refusal to the drop address and the owner's work keep is kept by source resolution (R74). -/
theorem State.resolve_keeps (s : State) (P : State → Prop) (offered : ∀ t m, P t → P (t.offer m)) (drop : Drop)
    (source : StationNumber) (tag : Option Tag) (reference : Option Reference) (owner : Handle → Station → State → State)
    (work : ∀ h r t, P t → P (owner h r t)) (start : P s) : P (s.resolve drop source tag reference owner) := by
  unfold State.resolve
  split
  · exact offered _ _ start
  · split
    · exact work _ _ _ start
    · exact offered _ _ start

/-- A property that a refusal and the owner's work on the named record keep is kept by a message that names a reference
(R24). -/
theorem State.onReference_keeps (s : State) (P : State → Prop) (told : ∀ t h body, P t → P (State.tell h body t))
    (reference : Reference) (f : Connection → Role → Handle → State → State)
    (work : ∀ c role h, s.connection reference.index = some c → P (f c role h s)) (h : Handle) (r : Station)
    (start : P s) : P (s.onReference reference f h r) := by
  unfold State.onReference
  split
  · exact told _ _ _ start
  · rename_i c role found
    refine work c role h ?_
    unfold State.named at found
    split at found
    · cases found
    · rename_i c' here
      split at found
      · cases found
      split at found
      · cases found
        exact here
      split at found
      · cases found
        exact here
      · cases found

/-- A property that the write of a command code and the taking of the command keep is kept by a host command. -/
theorem State.hostCommand_keeps (s : State) (P : State → Prop) (taken : ∀ t : State, P t → P t.takeDue)
    (written : ∀ t address value, P t → P (State.firstByte address value t)) (code : Byte) (take : State → State)
    (work : ∀ t, P t → P (take t)) (start : P s) : P (s.hostCommand code take) := by
  have settled := s.settled_keeps P taken start
  simp only [State.hostCommand]
  split
  · exact work _ settled
  · split
    · exact work _ (written _ _ _ settled)
    · exact written _ _ _ settled

/-! ### What leaves the map alone -/

/-- The start of a change may differ from another part in what the map does not show. -/
theorem State.SameMap.of_start {s t u : State} (same : t.SameMap u) (slots : t.slots = s.slots)
    (connections : t.connections = s.connections) : s.SameMap u :=
  State.SameMap.trans ⟨slots, connections⟩ same

/-- A run of operations that leave the map alone leaves it alone. -/
theorem State.sameMap_foldl {α : Type} (s : State) (f : State → α → State) (same : ∀ (t : State) (a : α), t.SameMap (f t a))
    (list : List α) : s.SameMap (list.foldl f s) :=
  foldl_keeps s s.SameMap f (fun t a before => before.trans (same t a)) list (State.SameMap.refl s)

theorem State.sameMap_broadcast (s : State) (body : DownBody) : s.SameMap (s.broadcast body) := ⟨by simp, by simp⟩

theorem State.sameMap_refuseEntry (s : State) (e : Entry) (reason : Reason) : s.SameMap (s.refuseEntry e reason) :=
  s.sameMap_tell ..

theorem State.sameMap_removeEntry (s : State) (e : Entry) : s.SameMap (s.removeEntry e) := ⟨rfl, rfl⟩

theorem State.sameMap_refuseNoSlots (s : State) (e : Entry) : s.SameMap (s.refuseNoSlots e) :=
  (s.sameMap_refuseEntry ..).trans (State.sameMap_raise ..)

theorem State.sameMap_insertAndTell (s : State) (e : Entry) : s.SameMap (s.insertAndTell e) :=
  (State.sameMap_tell ..).of_start rfl rfl

theorem State.sameMap_joinQueue (s : State) (e : Entry) : s.SameMap (s.joinQueue e) := by
  unfold State.joinQueue
  split
  · exact s.sameMap_refuseNoSlots e
  split
  · exact s.sameMap_insertAndTell e
  split
  · exact s.sameMap_refuseNoSlots e
  split
  · refine State.SameMap.trans ?_ (State.sameMap_insertAndTell ..)
    refine State.SameMap.trans ?_ (State.sameMap_raise ..)
    exact (State.sameMap_refuseEntry ..).of_start rfl rfl
  · exact s.sameMap_refuseNoSlots e

theorem State.sameMap_cutEntry (s : State) (set : List Handle) (e : Entry) : s.SameMap (s.cutEntry set e) := by
  unfold State.cutEntry
  split
  · exact s.sameMap_removeEntry e
  split
  · exact (s.sameMap_removeEntry e).trans (State.sameMap_refuseEntry ..)
  · exact State.SameMap.refl s

theorem State.sameMap_shortenRoster (s : State) (h : Handle) (r : Station) : s.SameMap (s.shortenRoster h r) := by
  unfold State.shortenRoster
  split
  · exact State.SameMap.refl s
  · exact ⟨rfl, rfl⟩

theorem State.sameMap_walkEntries (s : State) (list : List Entry) (position : Nat) :
    s.SameMap (s.walkEntries list position) := by
  induction list generalizing s position with
  | nil => exact ⟨rfl, rfl⟩
  | cons e rest ih =>
    simp only [State.walkEntries]
    split
    · split
      · exact ⟨rfl, rfl⟩
      · exact (ih ..).of_start rfl rfl
    · exact ih ..

theorem State.sameMap_timeOutEntry (s : State) (position : Nat) : s.SameMap (s.timeOutEntry position) := by
  unfold State.timeOutEntry
  split
  · exact State.SameMap.refl s
  · refine State.SameMap.trans ?_ (State.sameMap_raise ..)
    exact (State.sameMap_refuseEntry ..).of_start rfl rfl

theorem State.sameMap_takeEntryTimeout (s : State) (position : Nat) : s.SameMap (s.takeEntryTimeout position) :=
  (s.sameMap_timeOutEntry position).trans (State.sameMap_walkEntries ..)

theorem State.sameMap_walkRelays (s : State) (list : List Handle) : s.SameMap (s.walkRelays list) := by
  induction list generalizing s with
  | nil => exact ⟨rfl, rfl⟩
  | cons h rest ih =>
    simp only [State.walkRelays]
    split
    · exact ih s
    split
    · exact ih s
    split
    · split
      · exact ⟨rfl, rfl⟩
      · exact (ih _).of_start rfl rfl
    · exact ih s

/-! ### The Lease Engine and the cascade under the slot law -/

theorem State.SlotLaw.examine {s : State} (law : s.SlotLaw) (e : Entry) : (s.examine e).SlotLaw := by
  obtain same | same | ⟨i, slots, room, -, -, same⟩ := s.examine_cases e <;> rw [same]
  · exact law
  · exact law.of_sameMap ((s.sameMap_removeEntry e).trans (State.sameMap_refuseEntry ..))
  · obtain ⟨unused, found⟩ := (s.room_eq_some_iff ..).mp room
    obtain ⟨free, ascending, width⟩ := State.searchSlots_found found
    exact (law.of_sameMap (s.sameMap_removeEntry e)).place ((s.unusedIndex_eq_some_iff i).mp unused).1 free ascending width rfl

theorem State.SlotLaw.servicePass {s : State} (law : s.SlotLaw) : s.servicePass.SlotLaw :=
  s.servicePass_keeps State.SlotLaw (fun _ _ kept => kept.examine _) law

theorem State.SlotLaw.servicePasses {s : State} (law : s.SlotLaw) (n : Nat) : (s.servicePasses n).SlotLaw :=
  s.servicePasses_keeps State.SlotLaw (fun _ => State.SlotLaw.servicePass) n law

theorem State.SlotLaw.cutConnection {s : State} (law : s.SlotLaw) (set : List Handle) (reason : Reason) (i : Index) :
    (s.cutConnection set reason i).SlotLaw := by
  unfold State.cutConnection
  split
  · exact law
  · rename_i here
    exact law.removeConnection here ..

/-- The removal cascade keeps the slot law where what the cause does keeps it (R83). -/
theorem State.SlotLaw.cascade {s : State} (law : s.SlotLaw) (set deleted : List Handle) (reason : Reason)
    (after : State → State) (cause : ∀ t : State, t.SlotLaw → (after t).SlotLaw) :
    (s.cascade set deleted reason after).SlotLaw :=
  s.cascade_keeps State.SlotLaw set deleted reason after (fun _ i kept => kept.cutConnection set reason i)
    (fun _ _ kept => kept.of_sameMap (State.sameMap_cutEntry ..)) (fun _ _ kept => kept.of_sameMap ⟨rfl, rfl⟩) cause
    (fun _ => State.SlotLaw.servicePass) law

theorem State.SlotLaw.evictStation {s : State} (law : s.SlotLaw) (h : Handle) (r : Station) (reason : Reason) :
    (s.evictStation h r reason).SlotLaw :=
  law.cascade _ _ _ _ fun t kept => kept.of_sameMap ((t.sameMap_shortenRoster h r).trans (State.sameMap_offer ..))

theorem State.SlotLaw.walkConnections {s : State} (law : s.SlotLaw) (list : List Index) :
    (s.walkConnections list).SlotLaw := by
  induction list generalizing s with
  | nil => exact law.of_sameMap ⟨rfl, rfl⟩
  | cons i rest ih =>
    simp only [State.walkConnections]
    split
    · exact ih law
    rename_i c here
    split
    · exact ih law
    rename_i d _
    have lowered := law.setConnection (d := { c with countdown := some (s.lowered d) }) here rfl rfl rfl
    split
    · split
      · exact lowered.of_sameMap ⟨rfl, rfl⟩
      · exact ih lowered
    · exact ih law

theorem State.SlotLaw.expireConnection {s : State} (law : s.SlotLaw) (i : Index) : (s.expireConnection i).SlotLaw := by
  unfold State.expireConnection
  split
  · exact law
  rename_i c here
  split
  · exact (law.removeConnection here ..).servicePass
  · exact (law.removeConnection here ..).servicePass
  · exact law

theorem State.SlotLaw.expireRelay {s : State} (law : s.SlotLaw) (h : Handle) : (s.expireRelay h).SlotLaw := by
  unfold State.expireRelay
  split
  · exact law
  · exact law.evictStation ..

/-- The taking of an expiry keeps the slot law. -/
theorem State.SlotLaw.takeDue {s : State} (law : s.SlotLaw) : s.takeDue.SlotLaw := by
  unfold State.takeDue
  split
  · exact law
  · exact (law.expireConnection _).walkConnections _
  · exact law.of_sameMap (State.sameMap_takeEntryTimeout ..)
  · exact (law.expireRelay _).of_sameMap (State.sameMap_walkRelays ..)

theorem State.SlotLaw.settled {s : State} (law : s.SlotLaw) : s.settled.SlotLaw :=
  s.settled_keeps State.SlotLaw (fun _ => State.SlotLaw.takeDue) law

theorem State.SlotLaw.takeGuardEnd {s : State} (law : s.SlotLaw) : s.takeGuardEnd.SlotLaw := by
  rw [State.takeGuardEnd_eq]
  split
  · exact law.guardsEnded.servicePass
  · exact law.guardsEnded

end Sys2Proof.Machine
end

section
/-! Station messages under the slot law. -/

namespace Sys2Proof.Machine

/-! ### Requests and messages that name a reference, under the slot law -/

theorem State.sameMap_tellVictim (s : State) (reference : Reference) (c : Connection) : s.SameMap (s.tellVictim reference c) :=
  (s.sameMap_tell ..).trans (State.sameMap_tell ..)

theorem State.sameMap_preemptMessages (s : State) (references : List (Reference × Connection)) (i : Index)
    (c : Connection) : s.SameMap (s.preemptMessages references i c) := by
  refine s.sameMap_foldl _ (fun t j => ?_) _
  have told : t.SameMap ((references.filter fun v => v.1.index = j).foldl (fun s v => s.tellVictim v.1 v.2) t) :=
    t.sameMap_foldl _ (fun u (v : Reference × Connection) => u.sameMap_tellVictim v.1 v.2) _
  dsimp only
  split
  · exact told.trans (State.sameMap_tell ..)
  · exact told

@[simp] theorem State.slotList_preemptRecord (s : State) (source peer : Handle) (cls : ClassNo) (width : Nat) (tag : Tag)
    (slots : List Nat) : (s.preemptRecord source peer cls width tag slots).slotList = slots := by
  simp only [State.preemptRecord, State.offeredRecord]
  split <;> rfl

@[simp] theorem State.width_preemptRecord (s : State) (source peer : Handle) (cls : ClassNo) (width : Nat) (tag : Tag)
    (slots : List Nat) : (s.preemptRecord source peer cls width tag slots).width = width := by
  simp only [State.preemptRecord, State.offeredRecord]
  split <;> rfl

theorem State.state_preemptRecord (s : State) (source peer : Handle) (cls : ClassNo) (width : Nat) (tag : Tag)
    (slots : List Nat) :
    (s.preemptRecord source peer cls width tag slots).state = if slots.all s.slotFree then .offered else .pending := by
  simp only [State.preemptRecord, State.offeredRecord]
  split <;> rfl

/-- A pre-emption is its new record on its claim, and then its messages (R66). -/
theorem State.preempt_of_unused {s : State} {victims : List (Index × Connection)} {i : Index}
    (unused : (s.endVictims victims).unusedIndex = some i) (source peer : Handle) (cls : ClassNo) (width : Nat) (tag : Tag) :
    s.preempt victims source peer cls width tag =
      (s.preemptMade victims i (s.preemptRecord source peer cls width tag
        (s.preemptList (victims.map (·.1)) width))).preemptMessages (victims.map fun v => (s.referenceOf v.1, v.2)) i
        (s.preemptRecord source peer cls width tag (s.preemptList (victims.map (·.1)) width)) := by
  have found : (victims.foldl (fun s v => (s.forgetConnection v.1).raise .lease) s).unusedIndex = some i := unused
  simp only [State.preempt, found, State.preemptMade, State.endVictims, State.slotList_preemptRecord]

theorem State.preempt_of_full {s : State} {victims : List (Index × Connection)}
    (full : (s.endVictims victims).unusedIndex = none) (source peer : Handle) (cls : ClassNo) (width : Nat) (tag : Tag) :
    s.preempt victims source peer cls width tag = s := by
  have found : (victims.foldl (fun s v => (s.forgetConnection v.1).raise .lease) s).unusedIndex = none := full
  simp only [State.preempt, found]

/-- The index a pre-emption takes is unused or a victim's (R66). -/
theorem State.connection_of_unusedIndex_endVictims {s : State} {victims : List (Index × Connection)} {i : Index}
    (unused : (s.endVictims victims).unusedIndex = some i) : s.connection i = none ∨ i ∈ victims.map (·.1) := by
  have free := ((State.unusedIndex_eq_some_iff _ i).mp unused).1
  by_cases victim : i ∈ victims.map (·.1)
  · exact .inr victim
  · exact .inl (by simpa only [State.connection_endVictims, if_neg victim] using free)

/-- A pre-emption keeps the slot law (R13, R66). -/
theorem State.SlotLaw.preempt {s : State} (law : s.SlotLaw) {victims : List (Index × Connection)} {cls : ClassNo}
    {width : Nat} (found : s.victimsFor cls width = some victims) (source peer : Handle) (tag : Tag) :
    (s.preempt victims source peer cls width tag).SlotLaw := by
  cases unused : (s.endVictims victims).unusedIndex with
  | none => rwa [State.preempt_of_full unused]
  | some i =>
    rw [State.preempt_of_unused unused]
    obtain ⟨good, -⟩ := State.victimsFor_found found
    obtain ⟨takeable, ascending, long⟩ := law.preemptList_good found
    refine State.SlotLaw.of_sameMap ?_ (State.sameMap_preemptMessages ..)
    refine law.preemptMade good (State.connection_of_unusedIndex_endVictims unused) ?_ ?_ ?_ ?_
    · rwa [State.slotList_preemptRecord]
    · rw [State.slotList_preemptRecord, State.state_preemptRecord]
    · rwa [State.slotList_preemptRecord]
    · rwa [State.slotList_preemptRecord, State.width_preemptRecord]

theorem State.SlotLaw.takeRequest {s : State} (law : s.SlotLaw) (peer : StationNumber) (cls : ClassNo)
    (contiguous : Bool) (width : Nat) (tag : Tag) (h : Handle) (r : Station) :
    (s.takeRequest peer cls contiguous width tag h r).SlotLaw := by
  unfold State.takeRequest
  split
  · exact law.of_sameMap (s.sameMap_tell ..)
  split
  · exact law
  unfold State.serveRequest
  split
  · rename_i i slots room
    obtain ⟨unused, found⟩ := (s.room_eq_some_iff ..).mp room
    obtain ⟨free, ascending, long⟩ := State.searchSlots_found found
    exact law.place ((s.unusedIndex_eq_some_iff i).mp unused).1 free ascending long rfl
  · simp only [State.handOn]
    split
    · split
      · rename_i found
        exact (law.preempt found ..).servicePasses _
      · exact law.of_sameMap (s.sameMap_joinQueue _)
    · exact law.of_sameMap (s.sameMap_joinQueue _)

theorem State.SlotLaw.refuseNamed {s : State} (law : s.SlotLaw) (h : Handle) (reference : Reference) (reason : Reason) :
    (s.refuseNamed h reference reason).SlotLaw := law.of_sameMap (s.sameMap_tell ..)

theorem State.SlotLaw.takeAccept {s : State} (law : s.SlotLaw) (reference : Reference) (c : Connection) (role : Role)
    (h : Handle) (here : s.connection reference.index = some c) : (s.takeAccept reference c role h).SlotLaw := by
  unfold State.takeAccept
  split
  · exact law.refuseNamed ..
  · rename_i offered
    exact law.activate here offered
  · exact law.refuseNamed ..
  · exact law.refuseNamed ..

theorem State.SlotLaw.turnDown {s : State} (law : s.SlotLaw) {i : Index} {c : Connection}
    (here : s.connection i = some c) : (s.turnDown i c).SlotLaw := (law.removeConnection here ..).servicePass

theorem State.SlotLaw.takeDecline {s : State} (law : s.SlotLaw) (reference : Reference) (c : Connection) (role : Role)
    (h : Handle) (here : s.connection reference.index = some c) : (s.takeDecline reference c role h).SlotLaw := by
  unfold State.takeDecline
  split
  · exact law.refuseNamed ..
  · exact law.turnDown here
  · exact law.refuseNamed ..
  · exact law.refuseNamed ..

theorem State.SlotLaw.grantLease {s : State} (law : s.SlotLaw) {i : Index} {c d : Connection}
    (here : s.connection i = some c) (state : d.state = c.state) (list : d.slotList = c.slotList)
    (width : d.width = c.width) : (s.grantLease i d).SlotLaw := by
  simp only [State.grantLease]
  refine State.SlotLaw.of_sameMap ?_ (State.sameMap_tell ..)
  refine State.SlotLaw.of_sameMap ?_ (State.sameMap_bumpConnections ..)
  refine law.setConnection here ?_ ?_ ?_
  · exact state
  · exact list
  · exact width

theorem State.SlotLaw.takeRenew {s : State} (law : s.SlotLaw) (reference : Reference) (c : Connection) (role : Role)
    (h : Handle) (here : s.connection reference.index = some c) : (s.takeRenew reference c role h).SlotLaw := by
  unfold State.takeRenew
  split
  · exact law.refuseNamed ..
  · exact law.grantLease here rfl rfl rfl

theorem State.SlotLaw.takeRelease {s : State} (law : s.SlotLaw) (reference : Reference) (c : Connection) (role : Role)
    (h : Handle) (here : s.connection reference.index = some c) : (s.takeRelease reference c role h).SlotLaw := by
  have removed (a b : Option DownBody) := (law.removeConnection here a b).servicePass
  have refused (reason : Reason) := law.refuseNamed h reference reason
  simp only [State.takeRelease]
  split
  · exact removed ..
  · exact refused _
  · exact removed ..
  · exact law.turnDown here
  · split
    · exact refused _
    · exact removed ..
  · split
    · exact refused _
    · exact removed ..

theorem State.sameMap_takeQuery (s : State) (h : Handle) (r : Station) : s.SameMap (s.takeQuery h r) :=
  (s.sameMap_foldl _ (fun t body => t.sameMap_tell h body) _).trans (State.sameMap_tell ..)

theorem State.sameMap_takeCancel (s : State) (tag : Tag) (h : Handle) (r : Station) : s.SameMap (s.takeCancel tag h r) := by
  unfold State.takeCancel
  split
  · exact s.sameMap_tell ..
  split
  · exact s.sameMap_tell ..
  split
  · exact (s.sameMap_removeEntry _).trans (State.sameMap_tell ..)
  · exact s.sameMap_tell ..

/-! ### The Directory and the Roster Checker under the slot law -/

theorem State.sameMap_admitByAttach (s : State) (drop : Drop) (number : StationNumber) (kind : StationKind)
    (cls : ClassNo) : s.SameMap (s.admitByAttach drop number kind cls) := by
  unfold State.admitByAttach
  split
  · exact State.SameMap.refl s
  · exact (State.sameMap_offer ..).of_start rfl rfl

theorem State.SlotLaw.takeAttach {s : State} (law : s.SlotLaw) (drop : Drop) (number : StationNumber)
    (kind : StationKind) (cls : ClassNo) : (s.takeAttach drop number kind cls).SlotLaw := by
  unfold State.takeAttach
  split
  · refine State.SlotLaw.of_sameMap ?_ (State.sameMap_offer ..)
    split
    · exact law.of_sameMap ⟨rfl, rfl⟩
    · exact law
  split
  · exact (law.cascade _ _ _ _ fun _ kept => kept).of_sameMap (State.sameMap_admitByAttach ..)
  · exact law.of_sameMap (s.sameMap_admitByAttach ..)

theorem State.SlotLaw.takeDetach {s : State} (law : s.SlotLaw) (h : Handle) (r : Station) : (s.takeDetach h r).SlotLaw := by
  unfold State.takeDetach
  split
  · exact law.cascade _ _ _ _ fun _ kept => kept
  · exact law.of_sameMap (s.sameMap_tell ..)

theorem State.SlotLaw.fromTopRelay {s : State} (law : s.SlotLaw) (f : Handle → Station → State → State)
    (work : ∀ h r (t : State), t.SlotLaw → (f h r t).SlotLaw) (h : Handle) (r : Station) :
    (s.fromTopRelay f h r).SlotLaw := by
  unfold State.fromTopRelay
  split
  · exact work h r s law
  · exact law.of_sameMap (s.sameMap_tell ..)

theorem State.sameMap_rejectRoster (s : State) (h : Handle) (generation : Byte) (reason : Reason) :
    s.SameMap (s.rejectRoster h generation reason) := (s.sameMap_tell ..).trans (State.sameMap_raise ..)

theorem State.sameMap_faultRelay (s : State) (h : Handle) (r : Station) (generation : Byte) (reason : Reason) :
    s.SameMap (s.faultRelay h r generation reason) := (State.sameMap_rejectRoster ..).of_start rfl rfl

theorem State.SlotLaw.rejectContent {s : State} (law : s.SlotLaw) (h : Handle) (r : Station) (generation : Byte)
    (reason : Reason) : (s.rejectContent h r generation reason).SlotLaw := by
  have closed : (s.setAssembly h none).SlotLaw := law.of_sameMap ⟨rfl, rfl⟩
  unfold State.rejectContent
  exact closed.cascade _ _ _ _ fun t kept => kept.of_sameMap (t.sameMap_faultRelay ..)

theorem State.SlotLaw.beginRoster {s : State} (law : s.SlotLaw) (generation : Byte) (count depth : Nat)
    (depthExceeded countExceeded : Bool) (h : Handle) (r : Station) :
    (s.beginRoster generation count depth depthExceeded countExceeded h r).SlotLaw := by
  unfold State.beginRoster
  split
  · exact law.rejectContent ..
  split
  · exact law.rejectContent ..
  · exact law.of_sameMap ⟨rfl, rfl⟩

theorem State.SlotLaw.partRoster {s : State} (law : s.SlotLaw) (partIndex : Nat) (entries : List RosterEntry)
    (h : Handle) (r : Station) : (s.partRoster partIndex entries h r).SlotLaw := by
  unfold State.partRoster
  split
  · exact law.of_sameMap (s.sameMap_tell ..)
  split
  · exact law.of_sameMap ((State.sameMap_rejectRoster ..).of_start rfl rfl)
  split
  · exact law.rejectContent ..
  · exact law.of_sameMap ⟨rfl, rfl⟩

theorem State.sameMap_keepEntry (s : State) (relay : Handle) (e : RosterEntry) : s.SameMap (s.keepEntry relay e) := by
  unfold State.keepEntry
  split
  · exact State.SameMap.refl s
  · split
    · exact ⟨rfl, rfl⟩
    · exact State.SameMap.refl s

theorem State.sameMap_admitEntry (s : State) (relay : Handle) (r : Station) (e : RosterEntry) :
    s.SameMap (s.admitEntry relay r e) := by
  unfold State.admitEntry
  split
  · exact State.SameMap.refl s
  · exact ⟨rfl, rfl⟩

theorem State.SlotLaw.acceptRoster {s : State} (law : s.SlotLaw) (h : Handle) (r : Station) (a : Assembly) :
    (s.acceptRoster h r a).SlotLaw := by
  unfold State.acceptRoster
  refine law.cascade _ _ _ _ fun t kept => ?_
  have keptMap := t.sameMap_foldl (State.keepEntry h) (fun u e => u.sameMap_keepEntry h e) a.entries
  have admitted := keptMap.trans (State.sameMap_foldl _ (State.admitEntry h r) (fun u e => u.sameMap_admitEntry h r e)
    (s.newEntries a.entries))
  refine (kept.of_sameMap admitted).of_sameMap ?_
  exact ((State.sameMap_tell ..).trans (State.sameMap_raise ..)).of_start rfl rfl

theorem State.sameMap_hitEntries (s : State) (entries : List RosterEntry) : s.SameMap (s.hitEntries entries) :=
  (s.sameMap_foldl (fun s (e : RosterEntry) => s.hit e.number) (fun _ _ => ⟨rfl, rfl⟩) _).trans (State.sameMap_raise ..)

theorem State.SlotLaw.endRoster {s : State} (law : s.SlotLaw) (generation : Byte) (h : Handle) (r : Station) :
    (s.endRoster generation h r).SlotLaw := by
  unfold State.endRoster
  split
  · exact law.of_sameMap (s.sameMap_rejectRoster ..)
  split
  · exact law.of_sameMap ((State.sameMap_rejectRoster ..).of_start rfl rfl)
  split
  · exact law.acceptRoster ..
  · refine State.SlotLaw.rejectContent ?_ ..
    split
    · exact law.of_sameMap (s.sameMap_hitEntries _)
    · exact law

end Sys2Proof.Machine
end

section
/-! Host commands under the slot law. -/

namespace Sys2Proof.Machine

/-! ### The signalling channel and the Host Port leave the map alone -/

theorem State.sameMap_considerGrant (s : State) : s.SameMap s.considerGrant := by
  unfold State.considerGrant
  split <;> exact ⟨rfl, rfl⟩

theorem State.sameMap_closeWindow (s : State) : s.SameMap s.closeWindow := ⟨rfl, rfl⟩

theorem State.sameMap_makeNak (s : State) (d : Drop) (reason : Reason) (kind : BitVec 6) :
    s.SameMap (s.makeNak d reason kind) := (s.sameMap_offer _).trans (State.sameMap_raise ..)

theorem State.sameMap_judgeHeader (s : State) (d : Drop) (word : Word) : s.SameMap (s.judgeHeader d word) := by
  simp only [State.judgeHeader]
  split
  · exact s.sameMap_closeWindow
  split
  · exact ⟨rfl, rfl⟩
  · exact s.sameMap_closeWindow.trans (State.sameMap_makeNak ..)

theorem State.sameMap_judgeMessage (s : State) (d : Drop) (words : List Word) : s.SameMap (s.judgeMessage d words) := by
  simp only [State.judgeMessage]
  split
  · split
    · exact ⟨rfl, rfl⟩
    · exact s.sameMap_closeWindow.trans (State.sameMap_makeNak ..)
  · exact s.sameMap_closeWindow.trans (State.sameMap_makeNak ..)

theorem State.sameMap_takeWord (s : State) (d : Drop) (expected : Nat) (words : List Word) (word : Word) :
    s.SameMap (s.takeWord d expected words word) := by
  simp only [State.takeWord]
  split
  · exact s.sameMap_judgeMessage ..
  · exact ⟨rfl, rfl⟩

theorem State.sameMap_issueSync (s : State) : s.SameMap s.issueSync := by
  unfold State.issueSync
  split
  · split
    · exact ⟨rfl, rfl⟩
    · exact State.SameMap.refl s
  · exact State.SameMap.refl s

theorem State.sameMap_depart (s : State) : s.SameMap s.depart := (State.sameMap_issueSync _).of_start rfl rfl

theorem State.sameMap_chooseWord (s : State) : s.SameMap s.chooseWord := by
  unfold State.chooseWord
  split <;> exact ⟨rfl, rfl⟩

theorem State.sameMap_startFrame (s : State) : s.SameMap s.startFrame := (State.sameMap_chooseWord _).of_start rfl rfl

theorem State.sameMap_takeAddress (s : State) (byte : Byte) : s.SameMap (s.takeAddress byte) := by
  obtain ⟨-, same⟩ | ⟨-, _, -, same⟩ | ⟨-, same⟩ := s.takeAddress_cases byte <;> rw [same] <;> exact ⟨rfl, rfl⟩

theorem State.sameMap_writeCommand (s : State) (code : Byte) : s.SameMap (s.writeCommand code) := by
  unfold State.writeCommand
  split
  · split <;> exact ⟨rfl, rfl⟩
  · exact ⟨rfl, rfl⟩

theorem State.sameMap_writeLocation (s : State) (a : BitVec 6) (value : Byte) : s.SameMap (s.writeLocation a value) := by
  unfold State.writeLocation
  split
  · exact s.sameMap_writeCommand value
  · repeat' split
    all_goals exact ⟨rfl, rfl⟩

theorem State.sameMap_dataByte (s : State) (value : Byte) : s.SameMap (s.dataByte value) := by
  obtain ⟨a, -, same⟩ | ⟨a, -, same⟩ | ⟨a, -, same⟩ | ⟨-, -, same⟩ := s.dataByte_cases value <;> rw [same]
  · exact (State.sameMap_writeLocation ..).of_start rfl rfl
  · exact ⟨rfl, rfl⟩
  · exact ⟨rfl, rfl⟩
  · exact State.SameMap.refl s

theorem State.sameMap_firstByte (s : State) (address value : Byte) : s.SameMap (s.firstByte address value) :=
  ((State.sameMap_takeAddress ..).trans (State.sameMap_dataByte ..)).of_start rfl rfl

/-! ### Host commands under the slot law -/

theorem State.SlotLaw.openWork {s : State} (law : s.SlotLaw) : s.openWork.part.SlotLaw := by
  unfold State.openWork
  split
  · exact law
  · exact law.of_sameMap ((State.sameMap_broadcast ..).of_start rfl rfl)
  · exact law.of_sameMap ((State.sameMap_broadcast ..).of_start rfl rfl)

theorem State.SlotLaw.drainConnection {s : State} (law : s.SlotLaw) (i : Index) : (s.drainConnection i).SlotLaw := by
  unfold State.drainConnection
  split
  · exact law
  rename_i here
  split
  · exact law
  · exact law.removeConnection here ..

theorem State.SlotLaw.drainConnections {s : State} (law : s.SlotLaw) : s.drainConnections.SlotLaw := by
  unfold State.drainConnections
  split
  · refine law.of_sameMap ?_
    rw [State.reportIfEmpty, State.raiseIf_eq]
    exact ⟨rfl, rfl⟩
  · exact foldl_keeps s State.SlotLaw _ (fun _ i kept => kept.drainConnection i) _ law

theorem State.sameMap_drainEntries (s : State) : s.SameMap s.drainEntries :=
  s.sameMap_foldl _ (fun t e => (t.sameMap_removeEntry e).trans (State.sameMap_refuseEntry ..)) _

theorem State.SlotLaw.drainWork {s : State} (law : s.SlotLaw) (waitQueueFirst : Bool) :
    (s.drainWork waitQueueFirst).part.SlotLaw := by
  unfold State.drainWork
  split
  · exact law
  · exact law
  · have told : (State.broadcast (.highwayState .draining) { s with highway := .draining }).SlotLaw :=
      law.of_sameMap ((State.sameMap_broadcast ..).of_start rfl rfl)
    cases waitQueueFirst
    · exact told.drainConnections.of_sameMap (State.sameMap_drainEntries _)
    · exact (told.of_sameMap (State.sameMap_drainEntries _)).drainConnections

theorem State.reset_connection (i : Index) : State.reset.connection i = none := by
  simp [State.reset, State.connection]

theorem State.reset_slot {n : Nat} {r : SlotRecord} (slot : State.reset.slot n = some r) : r = .free := by
  unfold State.slot at slot
  split at slot
  · simp only [State.reset, Vector.getElem?_replicate, Option.ite_none_right_eq_some, Option.some.injEq] at slot
    exact slot.2.symm
  · cases slot

/-- The tables of full reset meet the slot law: no record, and every slot FREE (R19, R189). -/
theorem State.slotLaw_reset : State.reset.SlotLaw := by
  rw [State.slotLaw_iff_forall_at]
  intro i
  refine State.slotLawAt_of_none (State.reset_connection i) ?_
  rintro n ⟨r, slot, owner⟩
  rw [State.reset_slot slot] at owner
  cases owner

/-- Tables that are those of full reset meet the slot law. -/
theorem State.slotLaw_of_reset {s : State} (slots : s.slots = State.reset.slots)
    (connections : s.connections = State.reset.connections) : s.SlotLaw :=
  State.slotLaw_reset.of_sameMap ⟨slots, connections⟩

theorem State.slotLaw_closeWork (s : State) : s.closeWork.part.SlotLaw := by
  refine State.slotLaw_of_reset ?_ ?_
  · simp only [State.closeWork, State.done, State.closeHighway]
    rw [State.raiseIf_eq, State.raiseIf_eq]
    rfl
  · simp only [State.closeWork, State.done, State.closeHighway]
    rw [State.raiseIf_eq, State.raiseIf_eq]
    rfl

theorem State.SlotLaw.evictNumber {s : State} (law : s.SlotLaw) (n : StationNumber) (reason : Reason) :
    (s.evictNumber n reason).SlotLaw := by
  unfold State.evictNumber
  split
  · exact law.evictStation ..
  · exact law

theorem State.SlotLaw.denyAddWork {s : State} (law : s.SlotLaw) : s.denyAddWork.part.SlotLaw := by
  have listed (list : List DenyEntry) : State.SlotLaw { s with denyList := list } := law.of_sameMap ⟨rfl, rfl⟩
  simp only [State.denyAddWork]
  split
  · exact law
  split
  · exact law
  split
  · exact law
  · exact (listed _).evictNumber ..

theorem State.SlotLaw.denyRemoveWork {s : State} (law : s.SlotLaw) : s.denyRemoveWork.part.SlotLaw := by
  simp only [State.denyRemoveWork]
  split
  · exact law
  · exact law.of_sameMap ⟨rfl, rfl⟩

theorem State.SlotLaw.evictWork {s : State} (law : s.SlotLaw) : s.evictWork.part.SlotLaw := by
  unfold State.evictWork
  split
  · exact law
  · exact law.evictStation ..

theorem State.SlotLaw.setQuotaWork {s : State} (law : s.SlotLaw) : s.setQuotaWork.part.SlotLaw := by
  simp only [State.setQuotaWork]
  split
  · exact law
  split
  · exact law
  · exact State.SlotLaw.servicePass (law.of_sameMap ⟨rfl, rfl⟩)

theorem State.SlotLaw.pinParties {s : State} (law : s.SlotLaw) (originator answerer : Handle × Station) (cls : ClassNo)
    (slots : List Nat) (ascending : slots.Pairwise (· < ·)) : (s.pinParties originator answerer cls slots).part.SlotLaw := by
  unfold State.pinParties
  split
  · exact law
  split
  · exact law
  split
  · exact law
  rename_i i unused
  split
  · rename_i free
    simp only [List.all_eq_true, State.slotFree_eq_true_iff] at free
    exact law.makePinned ((s.unusedIndex_eq_some_iff i).mp unused).1 free ascending rfl rfl
  · exact law

theorem State.SlotLaw.pinWork {s : State} (law : s.SlotLaw) : s.pinWork.part.SlotLaw := by
  unfold State.pinWork
  split
  · split
    · exact law
    split
    · exact law
    split
    · exact law.pinParties _ _ _ _ (pairwise_bearerSlots.sublist List.filter_sublist)
    · exact law
  · exact law

theorem State.connection_of_argConnection {s : State} {i : Index} {c : Connection}
    (named : s.argConnection = some (i, c)) : s.connection i = some c := by
  simp only [State.argConnection, Option.ite_none_right_eq_some, Option.map_eq_some_iff, Prod.mk.injEq] at named
  obtain ⟨-, d, here, rfl, rfl⟩ := named
  exact here

theorem State.SlotLaw.unpinWork {s : State} (law : s.SlotLaw) : s.unpinWork.part.SlotLaw := by
  unfold State.unpinWork
  split
  · exact law
  rename_i i c named
  split
  · exact law.grantLease (State.connection_of_argConnection named) rfl rfl rfl
  · exact law

theorem State.SlotLaw.forceReleaseWork {s : State} (law : s.SlotLaw) : s.forceReleaseWork.part.SlotLaw := by
  unfold State.forceReleaseWork
  split
  · exact law
  · rename_i named
    exact (law.removeConnection (State.connection_of_argConnection named) ..).servicePass

theorem State.SlotLaw.setPolicyWork {s : State} (law : s.SlotLaw) : s.setPolicyWork.part.SlotLaw := by
  unfold State.setPolicyWork
  split
  · split
    · exact State.SlotLaw.servicePass (law.of_sameMap ⟨rfl, rfl⟩)
    · exact law
  · exact law

theorem State.SlotLaw.setTimingWork {s : State} (law : s.SlotLaw) : s.setTimingWork.part.SlotLaw := by
  unfold State.setTimingWork
  split
  · exact law
  · exact law.of_sameMap ⟨rfl, rfl⟩

end Sys2Proof.Machine
end

section
/-! Every command keeps the slot law. -/

namespace Sys2Proof.Machine

/-! ### Every command keeps the slot law -/

theorem State.SlotLaw.event {s : State} (law : s.SlotLaw) (f : State → State)
    (work : ∀ t : State, t.SlotLaw → (f t).SlotLaw) : (s.event f).SlotLaw :=
  s.event_keeps State.SlotLaw (fun _ => State.SlotLaw.takeDue) f work law

theorem State.SlotLaw.lineEvent {s : State} (law : s.SlotLaw) (change : Pins → Pins) (f : State → State)
    (work : ∀ t : State, t.SlotLaw → (f t).SlotLaw) : (s.lineEvent change f).SlotLaw :=
  s.lineEvent_keeps State.SlotLaw (fun _ => State.SlotLaw.takeDue) (fun _ _ kept => kept.of_sameMap ⟨rfl, rfl⟩) change f
    work law

theorem State.SlotLaw.message {s : State} (law : s.SlotLaw) (command : Instr) (f : State → State)
    (work : ∀ t : State, t.SlotLaw → (f t).SlotLaw) : (s.message command f).SlotLaw :=
  s.message_keeps State.SlotLaw (fun _ => State.SlotLaw.takeDue) (fun _ _ kept => kept.of_sameMap ⟨rfl, rfl⟩) command f
    work law

/-- A station message other than ATTACH (R74). -/
theorem State.SlotLaw.sourcedMessage {s : State} (law : s.SlotLaw) (command : Instr) (drop : Drop)
    (source : StationNumber) (tag : Option Tag) (reference : Option Reference) (owner : Handle → Station → State → State)
    (work : ∀ h r (t : State), t.SlotLaw → (owner h r t).SlotLaw) :
    (s.message command fun t => t.resolve drop source tag reference owner).SlotLaw :=
  law.message _ _ fun t kept =>
    t.resolve_keeps State.SlotLaw (fun u m held => held.of_sameMap (u.sameMap_offer m)) drop source tag reference owner work
      kept

/-- A station message that names a reference (R24). -/
theorem State.SlotLaw.referenceMessage {s : State} (law : s.SlotLaw) (command : Instr) (drop : Drop)
    (source : StationNumber) (tag : Option Tag) (reference : Reference) (f : Connection → Role → Handle → State → State)
    (work : ∀ c role h (t : State), t.SlotLaw → t.connection reference.index = some c → (f c role h t).SlotLaw) :
    (s.message command fun t => t.resolve drop source tag (some reference) (State.onReference reference f)).SlotLaw :=
  law.sourcedMessage _ _ _ _ _ _ fun h r t kept =>
    t.onReference_keeps State.SlotLaw (fun u k body held => held.of_sameMap (u.sameMap_tell k body)) reference f
      (fun c role k here => work c role k t kept here) h r kept

theorem State.SlotLaw.hostCommand {s : State} (law : s.SlotLaw) (code : Byte) (take : State → State)
    (work : ∀ t : State, t.SlotLaw → (take t).SlotLaw) : (s.hostCommand code take).SlotLaw :=
  s.hostCommand_keeps State.SlotLaw (fun _ => State.SlotLaw.takeDue)
    (fun t _ _ kept => kept.of_sameMap (t.sameMap_firstByte ..)) code take work law

theorem State.SlotLaw.runCommand {s : State} (law : s.SlotLaw) (code : Byte) (work : State → Work)
    (done : ∀ t : State, t.SlotLaw → (work t).part.SlotLaw) : (s.hostCommand code (State.runCommand work)).SlotLaw :=
  law.hostCommand code _ fun t kept => (done t kept).of_sameMap ⟨rfl, rfl⟩

/-- A command that reads changes no record. -/
theorem State.SlotLaw.readCommand {s : State} (law : s.SlotLaw) (code : Byte) (work : State → Work)
    (reads : ∀ t, (work t).part = t) : (s.hostCommand code (State.runCommand work)).SlotLaw :=
  law.runCommand code work fun t kept => by rwa [reads t]

theorem State.slotLaw_enterReset (s : State) (h : Hold) : (s.enterReset h).SlotLaw := State.slotLaw_of_reset rfl rfl

theorem State.slotLaw_release_startFrame (s : State) : s.release.startFrame.SlotLaw := by
  have released : s.release.SlotLaw := State.slotLaw_of_reset rfl rfl
  exact released.of_sameMap (State.sameMap_startFrame _)

theorem State.SlotLaw.endCause {s : State} (law : s.SlotLaw) (left : Hold) : (s.endCause left).SlotLaw := by
  unfold State.endCause
  split
  · exact law.of_sameMap ⟨rfl, rfl⟩
  · exact s.slotLaw_release_startFrame

theorem State.SlotLaw.withOwed {s : State} (law : s.SlotLaw) (owed : Boundary) :
    State.SlotLaw { s with owed := owed } := law.of_sameMap ⟨rfl, rfl⟩

theorem State.SlotLaw.takeOwedGuardEnd {s : State} (law : s.SlotLaw) : s.takeOwedGuardEnd.SlotLaw := by
  unfold State.takeOwedGuardEnd
  split
  · exact (law.withOwed _).takeGuardEnd
  · exact law

theorem State.SlotLaw.takeOwedLeaseWalk {s : State} (law : s.SlotLaw) : s.takeOwedLeaseWalk.SlotLaw := by
  unfold State.takeOwedLeaseWalk
  split
  · exact (law.withOwed _).walkConnections _
  · exact law

theorem State.SlotLaw.takeOwedQueueWalk {s : State} (law : s.SlotLaw) : s.takeOwedQueueWalk.SlotLaw := by
  unfold State.takeOwedQueueWalk
  split
  · exact (law.withOwed _).of_sameMap (State.sameMap_walkEntries ..)
  · exact law

theorem State.SlotLaw.takeOwedRosterWalk {s : State} (law : s.SlotLaw) : s.takeOwedRosterWalk.SlotLaw := by
  unfold State.takeOwedRosterWalk
  split
  · exact (law.withOwed _).of_sameMap (State.sameMap_walkRelays ..)
  · exact law

theorem State.SlotLaw.finishFrame {s : State} (law : s.SlotLaw) : s.finishFrame.SlotLaw := by
  have departed : (if s.settled.departureDue then s.settled.depart else s.settled).SlotLaw := by
    split
    · exact law.settled.of_sameMap (State.sameMap_depart _)
    · exact law.settled
  exact departed.takeOwedGuardEnd.takeOwedLeaseWalk.settled.takeOwedQueueWalk.settled.takeOwedRosterWalk.settled

/-! ### Commands that read -/

theorem State.part_stationRead (s : State) (found : Option (Handle × Station)) : (s.stationRead found).part = s := by
  cases found <;> rfl

theorem State.part_readStationWork (s : State) : s.readStationWork.part = s := by
  unfold State.readStationWork
  split
  · exact s.part_stationRead _
  split
  · exact s.part_stationRead _
  · rfl

theorem State.part_readConnectionWork (s : State) : s.readConnectionWork.part = s := by
  unfold State.readConnectionWork
  split
  · split <;> rfl
  · rfl

theorem State.part_readSlotsWork (s : State) : s.readSlotsWork.part = s := by
  unfold State.readSlotsWork
  split <;> rfl

theorem State.part_readQueueWork (s : State) : s.readQueueWork.part = s := by
  unfold State.readQueueWork
  split
  · rfl
  · split <;> rfl

theorem State.part_readDenyWork (s : State) : s.readDenyWork.part = s := by
  unfold State.readDenyWork
  split
  · rfl
  · split <;> rfl

theorem State.part_readPolicyWork (s : State) : s.readPolicyWork.part = s := by
  unfold State.readPolicyWork
  split <;> rfl

/-! ### The law after every step -/

/-- Every command keeps the slot law. -/
theorem State.SlotLaw.exec {s t : State} (law : s.SlotLaw) (c : Instr) (answered : exec c s = .next t) : t.SlotLaw := by
  cases c <;> cases answered
  case powerUp => exact s.slotLaw_enterReset _
  case rstLow => exact s.slotLaw_enterReset _
  case rstHigh =>
    split
    · exact law.endCause _
    · exact law
  case resetRelease =>
    split
    · exact law.endCause _
    split
    · exact s.slotLaw_release_startFrame
    · exact law
  case frameStart =>
    split
    · exact law.finishFrame.of_sameMap (State.sameMap_startFrame _)
    split
    · exact law
    · exact s.slotLaw_release_startFrame
  case uplinkGrant drq =>
    refine law.lineEvent _ _ fun u kept => ?_
    split
    · exact kept.of_sameMap u.sameMap_considerGrant
    · exact kept
  case uplinkHeader word =>
    refine law.event _ fun u kept => ?_
    split
    · split
      · exact kept.of_sameMap (u.sameMap_judgeHeader ..)
      · exact kept
    · exact kept
    · exact kept
  case uplinkWord word =>
    refine law.event _ fun u kept => ?_
    split
    · split
      · exact kept.of_sameMap (u.sameMap_takeWord ..)
      · exact kept
    · exact kept
    · exact kept
  case drqFall drop =>
    refine law.lineEvent _ _ fun u kept => ?_
    split
    · exact kept.of_sameMap (u.sameMap_closeWindow.trans (State.sameMap_makeNak ..))
    · exact kept
  case dprFall drop =>
    refine law.lineEvent _ _ fun u kept => ?_
    split
    · exact kept.of_sameMap u.sameMap_closeWindow
    · exact kept
  case dprRise drop => exact law.lineEvent _ _ fun _ kept => kept
  case presenceLoss drop =>
    exact law.lineEvent _ _ fun _ kept => kept.cascade _ _ _ _ fun _ held => held
  case messageDeparture =>
    refine law.event _ fun u kept => ?_
    split
    · exact kept.of_sameMap u.sameMap_depart
    · exact kept
  case attach drop source kind cls => exact law.message _ _ fun _ kept => kept.takeAttach ..
  case detach drop source => exact law.sourcedMessage _ _ _ _ _ _ fun h r _ kept => kept.takeDetach h r
  case request drop source peer cls contiguous width tag =>
    exact law.sourcedMessage _ _ _ _ _ _ fun h r _ kept => kept.takeRequest _ _ _ _ _ h r
  case accept drop source reference =>
    exact law.referenceMessage _ _ _ _ _ _ fun c role h _ kept here => kept.takeAccept reference c role h here
  case decline drop source reference =>
    exact law.referenceMessage _ _ _ _ _ _ fun c role h _ kept here => kept.takeDecline reference c role h here
  case renew drop source reference =>
    exact law.referenceMessage _ _ _ _ _ _ fun c role h _ kept here => kept.takeRenew reference c role h here
  case release drop source reference =>
    exact law.referenceMessage _ _ _ _ _ _ fun c role h _ kept here => kept.takeRelease reference c role h here
  case query drop source =>
    exact law.sourcedMessage _ _ _ _ _ _ fun h r u kept => kept.of_sameMap (u.sameMap_takeQuery h r)
  case cancel drop source tag =>
    exact law.sourcedMessage _ _ _ _ _ _ fun h r u kept => kept.of_sameMap (u.sameMap_takeCancel tag h r)
  case rosterBegin drop source generation count depth depthExceeded countExceeded =>
    exact law.sourcedMessage _ _ _ _ _ _ fun h r _ kept =>
      kept.fromTopRelay _ (fun _ _ _ held => held.beginRoster ..) h r
  case rosterPart drop source partIndex entries =>
    exact law.sourcedMessage _ _ _ _ _ _ fun h r _ kept =>
      kept.fromTopRelay _ (fun _ _ _ held => held.partRoster ..) h r
  case rosterEnd drop source generation =>
    exact law.sourcedMessage _ _ _ _ _ _ fun h r _ kept =>
      kept.fromTopRelay _ (fun _ _ _ held => held.endRoster ..) h r
  case guardEnd => exact law.event _ fun _ => State.SlotLaw.takeOwedGuardEnd
  case leaseCountdownWalk => exact law.event _ fun _ => State.SlotLaw.takeOwedLeaseWalk
  case queueDeadlineWalk => exact law.event _ fun _ => State.SlotLaw.takeOwedQueueWalk
  case rosterDeadlineWalk => exact law.event _ fun _ => State.SlotLaw.takeOwedRosterWalk
  case leaseExpiry | answerExpiry | queueTimeout | rosterDeadlineExpiry =>
    split
    · exact law.takeDue
    · exact law
  case spiReadCapture address length =>
    have begun := (law.settled.of_sameMap (t := s.settled.select) ⟨rfl, rfl⟩).of_sameMap (State.sameMap_takeAddress _ address)
    dsimp only
    split
    · exact begun.of_sameMap ⟨rfl, rfl⟩
    · exact begun
  case registerWrite event value =>
    split
    · exact law.settled.of_sameMap ⟨rfl, rfl⟩
    · exact law.settled.of_sameMap (State.sameMap_takeAddress ..)
    · exact law.settled.of_sameMap (State.sameMap_dataByte ..)
    · exact law.settled.of_sameMap ⟨rfl, rfl⟩
    · exact law.settled.of_sameMap (State.sameMap_firstByte ..)
  case notifyPendingWrite | notifyEnableWrite | commandCollision | unknownCommand =>
    exact law.settled.of_sameMap (State.sameMap_firstByte ..)
  case commandCompletion =>
    refine law.event _ fun u kept => ?_
    split
    · exact kept.of_sameMap ⟨rfl, rfl⟩
    · exact kept
    · exact kept
  case openHighway => exact law.runCommand _ _ fun _ => State.SlotLaw.openWork
  case drain waitQueueFirst => exact law.runCommand _ _ fun _ kept => kept.drainWork waitQueueFirst
  case close => exact law.runCommand _ _ fun u _ => u.slotLaw_closeWork
  case reset => exact law.hostCommand _ _ fun u _ => u.slotLaw_enterReset _
  case denyAdd => exact law.runCommand _ _ fun _ => State.SlotLaw.denyAddWork
  case denyRemove => exact law.runCommand _ _ fun _ => State.SlotLaw.denyRemoveWork
  case evict => exact law.runCommand _ _ fun _ => State.SlotLaw.evictWork
  case setQuota => exact law.runCommand _ _ fun _ => State.SlotLaw.setQuotaWork
  case pin => exact law.runCommand _ _ fun _ => State.SlotLaw.pinWork
  case unpin => exact law.runCommand _ _ fun _ => State.SlotLaw.unpinWork
  case forceRelease => exact law.runCommand _ _ fun _ => State.SlotLaw.forceReleaseWork
  case setPolicy => exact law.runCommand _ _ fun _ => State.SlotLaw.setPolicyWork
  case setTiming => exact law.runCommand _ _ fun _ => State.SlotLaw.setTimingWork
  case readStation => exact law.readCommand _ _ State.part_readStationWork
  case readConnection => exact law.readCommand _ _ State.part_readConnectionWork
  case readSlots => exact law.readCommand _ _ State.part_readSlotsWork
  case readQueue => exact law.readCommand _ _ State.part_readQueueWork
  case readDeny => exact law.readCommand _ _ State.part_readDenyWork
  case readPolicy => exact law.readCommand _ _ State.part_readPolicyWork

/-- Settles O58: no command reads the queue of waiting commands into the law, and every command keeps it. -/
theorem slotsAgreeWithConnections : Obligations.SlotsAgreeWithConnections :=
  keptByStep_of_exec State.SlotLaw (fun _ _ law => law.of_sameMap ⟨rfl, rfl⟩) fun c _ _ law => law.exec c

end Sys2Proof.Machine
end

section
/-! Full reset and the frame start (R1, R2). -/

namespace Sys2Proof.Machine

/-! ### Full reset -/

/-- Under RST low or a supply not stable full reset stops the Frame Timer (R1, R166). -/
theorem State.enterReset_of_stopped (s : State) (h : Hold) (stopped : h.stopped = true) :
    s.enterReset h =
      { State.reset with
        pending := s.pending
        hold := h
        timer := ⟨0, false, false, s.timer.hfsPulses⟩
        downlink := ⟨[], none, none⟩
        spi := { s.spi with transaction := s.spi.transaction.map SpiTransaction.underReset }
        pins := s.pins } := by
  simp only [State.enterReset, stopped, if_true]

/-- Under a host RESET alone the Frame Timer runs on (R1, R177). -/
theorem State.enterReset_of_running (s : State) (h : Hold) (runs : h.stopped = false) :
    s.enterReset h =
      { State.reset with
        pending := s.pending
        hold := h
        timer := { s.timer with firstFrameDue := false }
        downlink := ⟨[], none, s.downlink.hdo⟩
        spi := { s.spi with transaction := s.spi.transaction.map SpiTransaction.underReset }
        pins := s.pins } := by
  simp only [State.enterReset, runs, Bool.false_eq_true, if_false]

/-- The release and its first frame: position 0, parity 0, the boundary owed to the four blocks, RESET_ALL's header in
slot 0 (R1, R2, R154, R189). -/
theorem State.release_startFrame (s : State) :
    s.release.startFrame =
      { State.reset with
        pending := s.pending
        timer := ⟨0, false, false, s.timer.hfsPulses + 1⟩
        owed := ⟨true, true, true, true⟩
        arbiter := ⟨15, .idle, true, false⟩
        downlink := ⟨[⟨0xFFFFFFFF, .resetAll⟩], some 1, some 0xB900⟩
        spi := s.spi
        pins := s.pins } := rfl

/-- Settles O5, by the rows that take full reset and then those that end a cause of it. -/
theorem fullResetIsTakenAndReleased : Obligations.FullResetIsTakenAndReleased := by
  refine ⟨fun s => ⟨?_, ?_, fun ready => ?_⟩, fun s => ⟨fun rst supply => ?_, fun rst supply => ?_, fun rst => ?_,
    fun supply rst => ?_, fun rst cause => ?_, fun supply cause => ?_, fun host supply rst => ?_, fun stopped => ?_⟩⟩
  · exact congrArg Host.Outcome.next (s.enterReset_of_stopped _ rfl)
  · exact congrArg Host.Outcome.next (s.enterReset_of_stopped _ (Bool.or_true _))
  · exact congrArg Host.Outcome.next ((ready.hostCommand_eq _).trans (s.enterReset_of_running _ rfl))
  · have free : Hold.stopped { s.hold with rst := false } = false := by simp [Hold.stopped, supply]
    simp only [exec, execRstHigh, rst, if_true, s.endCause_of_free _ free, s.release_startFrame]
  · have stopped : Hold.stopped { s.hold with rst := false } = true := by simp [Hold.stopped, supply]
    simp only [exec, execRstHigh, rst, if_true, s.endCause_of_stopped _ stopped]
  · simp only [exec, execRstHigh, rst, Bool.false_eq_true, if_false]
  · have stopped : Hold.stopped { s.hold with supply := false } = true := by simp [Hold.stopped, rst]
    simp only [exec, execResetRelease, supply, if_true, s.endCause_of_stopped _ stopped]
  · have free : Hold.stopped { s.hold with supply := false } = false := by simp [Hold.stopped, rst]
    cases supply : s.hold.supply
    · have host : s.hold.host = true := by simpa [supply] using cause
      simp only [exec, execResetRelease, supply, host, rst, s.release_startFrame]
      rfl
    · simp only [exec, execResetRelease, supply, if_true, s.endCause_of_free _ free, s.release_startFrame]
  · have none : (s.hold.host && !s.hold.rst) = false := by
      obtain rst | host := cause
      · simp [rst]
      · simp [host]
    simp only [exec, execResetRelease, supply, none, Bool.false_eq_true, if_false]
  · have held : s.hold ≠ .running := fun running => by simp [running] at host
    have free : s.hold.stopped = false := by simp [Hold.stopped, supply, rst]
    simp only [exec, execFrameStart, if_neg held, free, Bool.false_eq_true, if_false, s.release_startFrame]
  · have held : s.hold ≠ .running := fun running => by simp [running] at stopped
    have stops : s.hold.stopped = true := by simpa [Hold.stopped] using stopped
    simp only [exec, execFrameStart, if_neg held, stops, if_true]

/-! ### The frame start -/

/-- The frame that ends has nothing left: no departure, and every block has taken its boundary. -/
theorem State.nextLeft_eq_none_iff (s : State) :
    s.nextLeft = none ↔ s.departureDue = false ∧ s.owed.guardEnd = false ∧ s.owed.leaseWalk = false ∧
      s.owed.queueWalk = false ∧ s.owed.rosterWalk = false := by
  unfold State.nextLeft
  repeat' split
  all_goals simp_all

/-! A boundary already taken is not taken again (R2). -/

theorem State.takeOwedGuardEnd_of_taken {s : State} (taken : s.owed.guardEnd = false) : s.takeOwedGuardEnd = s := by
  simp only [State.takeOwedGuardEnd, taken, Bool.false_eq_true, if_false]

theorem State.takeOwedLeaseWalk_of_taken {s : State} (taken : s.owed.leaseWalk = false) : s.takeOwedLeaseWalk = s := by
  simp only [State.takeOwedLeaseWalk, taken, Bool.false_eq_true, if_false]

theorem State.takeOwedQueueWalk_of_taken {s : State} (taken : s.owed.queueWalk = false) : s.takeOwedQueueWalk = s := by
  simp only [State.takeOwedQueueWalk, taken, Bool.false_eq_true, if_false]

theorem State.takeOwedRosterWalk_of_taken {s : State} (taken : s.owed.rosterWalk = false) : s.takeOwedRosterWalk = s := by
  simp only [State.takeOwedRosterWalk, taken, Bool.false_eq_true, if_false]

theorem State.finishFrame_of_nothing_left {s : State} (quiet : s.Quiet) (nothing : s.nextLeft = none) :
    s.finishFrame = s := by
  obtain ⟨departed, guard, lease, queue, roster⟩ := s.nextLeft_eq_none_iff.mp nothing
  simp only [State.finishFrame, quiet.settled_eq, departed, Bool.false_eq_true, if_false,
    State.takeOwedGuardEnd_of_taken guard, State.takeOwedLeaseWalk_of_taken lease,
    State.takeOwedQueueWalk_of_taken queue, State.takeOwedRosterWalk_of_taken roster]

theorem execFrameStart_of_running {s : State} (running : s.hold = .running) :
    exec .frameStart s = .next s.finishFrame.startFrame := by
  simp only [exec, execFrameStart, running, if_true]

/-- The Downlink Queue once the word of slot 0 is chosen (R149, R150). -/
def Downlink.wordChosen (d : Downlink) : Downlink :=
  match d.held with
  | [] => ⟨[], none, some 0⟩
  | m :: rest => ⟨m :: rest, some (d.wordsSent.getD 0 + 1), m.words[d.wordsSent.getD 0]?⟩

theorem State.chooseWord_eq (s : State) : s.chooseWord = { s with downlink := s.downlink.wordChosen } := by
  unfold State.chooseWord Downlink.wordChosen
  cases held : s.downlink.held <;> simp only [held]

/-- The part at the start of a frame, for its position, its parity and what the blocks are owed. -/
def State.frameAt (position : Fin 64) (parity : Parity) (owed : Boundary) (s : State) : State :=
  { s with
    timer := ⟨position, parity, false, s.timer.hfsPulses + 1⟩
    owed := owed
    arbiter := { s.arbiter with grantDue := s.arbiter.window = .idle, wordDue := decide (s.arbiter.window ≠ .idle) }
    downlink := s.downlink.wordChosen }

/-- Only one position is followed by 0. -/
theorem position_succ_eq_zero_iff : ∀ position : Fin 64, position + 1 = 0 ↔ position = 63 := by decide

theorem Window.bne_idle (w : Window) : (w != .idle) = decide (w ≠ .idle) := by
  by_cases idle : w = .idle <;> simp [idle]

/-- A frame after the first: the position advances, and the return to 0 is a boundary (R1, R2). -/
theorem State.startFrame_of_later {s : State} (later : s.timer.firstFrameDue = false) :
    s.startFrame = s.frameAt (s.timer.position + 1)
      (if s.timer.position = 63 then !s.timer.parity else s.timer.parity)
      (if s.timer.position = 63 then ⟨true, true, true, true⟩ else s.owed) := by
  rw [State.startFrame, State.chooseWord_eq]
  by_cases last : s.timer.position = 63 <;>
    simp [later, last, position_succ_eq_zero_iff, State.frameAt, Window.bne_idle]

/-- The first frame after the release: position 0, the parity kept (R1, R2). -/
theorem State.startFrame_of_first {s : State} (first : s.timer.firstFrameDue = true) :
    s.startFrame = s.frameAt 0 s.timer.parity ⟨true, true, true, true⟩ := by
  rw [State.startFrame, State.chooseWord_eq]
  simp [first, State.frameAt, Window.bne_idle]

/-- Settles O6: with nothing left of the frame that ends, FRAME_START is the start of the next frame alone. -/
theorem frameStartAdvancesTheFrame : Obligations.FrameStartAdvancesTheFrame := by
  intro s quiet nothing started
  have frame : exec .frameStart s = .next s.startFrame := by
    rw [execFrameStart_of_running quiet.1, State.finishFrame_of_nothing_left quiet nothing]
  have owed : s.owed = ⟨false, false, false, false⟩ := by
    obtain ⟨-, guard, lease, queue, roster⟩ := s.nextLeft_eq_none_iff.mp nothing
    calc s.owed = ⟨s.owed.guardEnd, s.owed.leaseWalk, s.owed.queueWalk, s.owed.rosterWalk⟩ := rfl
      _ = ⟨false, false, false, false⟩ := by rw [guard, lease, queue, roster]
  refine ⟨fun later => frame.trans (congrArg Host.Outcome.next ?_), fun first =>
    frame.trans (congrArg Host.Outcome.next (State.startFrame_of_first first))⟩
  rw [← owed]
  exact State.startFrame_of_later later

end Sys2Proof.Machine
end

section
/-! Settling ends a walk, and FRAME_START takes what is left (R151). -/

namespace Sys2Proof.Machine

/-! ### What leaves the boundary's events alone -/

/-- Two parts are alike in full reset, in what the blocks are owed, and in where a walk stands. -/
structure State.SameBoundary (s t : State) : Prop where
  hold : t.hold = s.hold
  owed : t.owed = s.owed
  due : t.due = s.due

theorem State.SameBoundary.refl (s : State) : s.SameBoundary s := ⟨rfl, rfl, rfl⟩

theorem State.SameBoundary.trans {s t u : State} (first : s.SameBoundary t) (second : t.SameBoundary u) :
    s.SameBoundary u :=
  ⟨second.hold.trans first.hold, second.owed.trans first.owed, second.due.trans first.due⟩

theorem State.sameBoundary_offer (s : State) (m : DownMessage) : s.SameBoundary (s.offer m) :=
  ⟨by simp, by simp, by simp⟩

theorem State.sameBoundary_tell (s : State) (h : Handle) (body : DownBody) : s.SameBoundary (s.tell h body) :=
  ⟨by simp, by simp, by simp⟩

theorem State.sameBoundary_tellOpt (s : State) (h : Handle) (body : Option DownBody) : s.SameBoundary (s.tellOpt h body) :=
  ⟨by simp, by simp, by simp⟩

theorem State.sameBoundary_offerAll (s : State) (messages : List DownMessage) : s.SameBoundary (s.offerAll messages) :=
  s.offerAll_keeps s.SameBoundary (fun t m same => same.trans (t.sameBoundary_offer m)) messages (State.SameBoundary.refl s)

theorem State.sameBoundary_removeConnection (s : State) (i : Index) (c : Connection) (a b : Option DownBody) :
    s.SameBoundary (s.removeConnection i c a b) := by
  have dropped : s.SameBoundary (s.dropConnection i c) := by
    rw [State.dropConnection_frame]
    exact ⟨rfl, rfl, rfl⟩
  exact (dropped.trans (State.sameBoundary_tellOpt ..)).trans (State.sameBoundary_tellOpt ..)

theorem State.sameBoundary_refuseEntry (s : State) (e : Entry) (reason : Reason) : s.SameBoundary (s.refuseEntry e reason) :=
  s.sameBoundary_tell ..

theorem State.sameBoundary_removeEntry (s : State) (e : Entry) : s.SameBoundary (s.removeEntry e) := ⟨rfl, rfl, rfl⟩

theorem State.sameBoundary_place (s : State) (i : Index) (c : Connection) : s.SameBoundary (s.place i c) := by
  have claimed : s.SameBoundary ((s.reserveClaim i c.slotList).createConnection i c) := ⟨rfl, rfl, rfl⟩
  exact claimed.trans (State.sameBoundary_tell ..)

theorem State.sameBoundary_examine (s : State) (e : Entry) : s.SameBoundary (s.examine e) := by
  obtain same | same | ⟨i, slots, -, -, -, same⟩ := s.examine_cases e <;> rw [same]
  · exact State.SameBoundary.refl s
  · exact (s.sameBoundary_removeEntry e).trans (State.sameBoundary_refuseEntry ..)
  · exact (s.sameBoundary_removeEntry e).trans (State.sameBoundary_place ..)

theorem State.sameBoundary_servicePass (s : State) : s.SameBoundary s.servicePass :=
  s.servicePass_keeps s.SameBoundary (fun t e same => same.trans (t.sameBoundary_examine e)) (State.SameBoundary.refl s)

theorem State.sameBoundary_cutConnection (s : State) (set : List Handle) (reason : Reason) (i : Index) :
    s.SameBoundary (s.cutConnection set reason i) := by
  unfold State.cutConnection
  split
  · exact State.SameBoundary.refl s
  · exact s.sameBoundary_removeConnection ..

theorem State.sameBoundary_cutEntry (s : State) (set : List Handle) (e : Entry) : s.SameBoundary (s.cutEntry set e) := by
  unfold State.cutEntry
  split
  · exact s.sameBoundary_removeEntry e
  split
  · exact (s.sameBoundary_removeEntry e).trans (State.sameBoundary_refuseEntry ..)
  · exact State.SameBoundary.refl s

theorem State.sameBoundary_evictStation (s : State) (h : Handle) (r : Station) (reason : Reason) :
    s.SameBoundary (s.evictStation h r reason) := by
  unfold State.evictStation
  refine s.cascade_keeps s.SameBoundary _ _ _ _ (fun t i same => same.trans (t.sameBoundary_cutConnection ..))
    (fun t e same => same.trans (t.sameBoundary_cutEntry ..)) (fun t k same => same.trans ⟨rfl, rfl, rfl⟩)
    (fun t same => same.trans ?_) (fun t same => same.trans t.sameBoundary_servicePass) (State.SameBoundary.refl s)
  refine State.SameBoundary.trans ?_ (State.sameBoundary_offer ..)
  unfold State.shortenRoster
  split
  · exact State.SameBoundary.refl t
  · exact ⟨rfl, rfl, rfl⟩

theorem State.sameBoundary_expireConnection (s : State) (i : Index) : s.SameBoundary (s.expireConnection i) := by
  unfold State.expireConnection
  split
  · exact State.SameBoundary.refl s
  split
  · exact (s.sameBoundary_removeConnection ..).trans (State.sameBoundary_servicePass _)
  · exact (s.sameBoundary_removeConnection ..).trans (State.sameBoundary_servicePass _)
  · exact State.SameBoundary.refl s

theorem State.sameBoundary_timeOutEntry (s : State) (position : Nat) : s.SameBoundary (s.timeOutEntry position) := by
  unfold State.timeOutEntry
  split
  · exact State.SameBoundary.refl s
  · exact ⟨by simp, by simp, by simp⟩

theorem State.sameBoundary_expireRelay (s : State) (h : Handle) : s.SameBoundary (s.expireRelay h) := by
  unfold State.expireRelay
  split
  · exact State.SameBoundary.refl s
  · exact s.sameBoundary_evictStation ..

theorem State.sameBoundary_depart (s : State) : s.SameBoundary s.depart := by
  unfold State.depart State.issueSync
  split
  · split <;> exact ⟨rfl, rfl, rfl⟩
  · exact ⟨rfl, rfl, rfl⟩

theorem State.sameBoundary_takeGuardEnd (s : State) : s.SameBoundary s.takeGuardEnd := by
  have ended : s.SameBoundary s.guardsEnded := by
    have table : s.SameBoundary ((s.mapSlots fun _ r => r.guardEnded (!s.timer.parity)).withTable
        (s.completedTable s.completions) (s.connectionChanges + BitVec.ofNat 16 s.completions.length)) := ⟨rfl, rfl, rfl⟩
    exact table.trans (State.sameBoundary_offerAll ..)
  rw [State.takeGuardEnd_eq]
  split
  · exact ended.trans (State.sameBoundary_servicePass _)
  · exact ended

/-! ### Where a walk comes to stand -/

/-- A walk over connections leaves full reset and what is owed alone, and stands nowhere or at an index of its list. -/
theorem State.walkConnections_boundary (s : State) (list : List Index) :
    (s.walkConnections list).hold = s.hold ∧ (s.walkConnections list).owed = s.owed ∧
      ((s.walkConnections list).due = none ∨ ∃ i ∈ list, (s.walkConnections list).due = some (.connection i)) := by
  induction list generalizing s with
  | nil => exact ⟨rfl, rfl, .inl rfl⟩
  | cons i rest ih =>
    have onward (t : State) (hold : t.hold = s.hold) (owed : t.owed = s.owed) :
        (t.walkConnections rest).hold = s.hold ∧ (t.walkConnections rest).owed = s.owed ∧
          ((t.walkConnections rest).due = none ∨
            ∃ j ∈ i :: rest, (t.walkConnections rest).due = some (.connection j)) := by
      obtain ⟨holds, owes, stands⟩ := ih t
      exact ⟨holds.trans hold, owes.trans owed, stands.imp_right fun ⟨j, there, due⟩ => ⟨j, List.mem_cons_of_mem _ there, due⟩⟩
    simp only [State.walkConnections]
    split
    · exact onward s rfl rfl
    split
    · exact onward s rfl rfl
    split
    · split
      · exact ⟨rfl, rfl, .inr ⟨i, List.mem_cons_self .., rfl⟩⟩
      · exact onward _ rfl rfl
    · exact onward s rfl rfl

/-- A walk over relays leaves full reset and what is owed alone, and stands nowhere or at a handle of its list. -/
theorem State.walkRelays_boundary (s : State) (list : List Handle) :
    (s.walkRelays list).hold = s.hold ∧ (s.walkRelays list).owed = s.owed ∧
      ((s.walkRelays list).due = none ∨ ∃ h ∈ list, (s.walkRelays list).due = some (.relay h)) := by
  induction list generalizing s with
  | nil => exact ⟨rfl, rfl, .inl rfl⟩
  | cons h rest ih =>
    have onward (t : State) (hold : t.hold = s.hold) (owed : t.owed = s.owed) :
        (t.walkRelays rest).hold = s.hold ∧ (t.walkRelays rest).owed = s.owed ∧
          ((t.walkRelays rest).due = none ∨ ∃ k ∈ h :: rest, (t.walkRelays rest).due = some (.relay k)) := by
      obtain ⟨holds, owes, stands⟩ := ih t
      exact ⟨holds.trans hold, owes.trans owed, stands.imp_right fun ⟨j, there, due⟩ => ⟨j, List.mem_cons_of_mem _ there, due⟩⟩
    simp only [State.walkRelays]
    split
    · exact onward s rfl rfl
    split
    · exact onward s rfl rfl
    split
    · split
      · exact ⟨rfl, rfl, .inr ⟨h, List.mem_cons_self .., rfl⟩⟩
      · exact onward _ rfl rfl
    · exact onward s rfl rfl

/-- A walk over queue entries leaves full reset, what is owed and the number of entries alone, and stands nowhere or at a
position of its list. -/
theorem State.walkEntries_boundary (s : State) (list : List Entry) (position : Nat) :
    (s.walkEntries list position).hold = s.hold ∧ (s.walkEntries list position).owed = s.owed ∧
      (s.walkEntries list position).waitQueue.length = s.waitQueue.length ∧
      ((s.walkEntries list position).due = none ∨
        ∃ q, position ≤ q ∧ q < position + list.length ∧ (s.walkEntries list position).due = some (.entry q)) := by
  induction list generalizing s position with
  | nil => exact ⟨rfl, rfl, rfl, .inl rfl⟩
  | cons e rest ih =>
    have onward (t : State) (hold : t.hold = s.hold) (owed : t.owed = s.owed)
        (length : t.waitQueue.length = s.waitQueue.length) :
        (t.walkEntries rest (position + 1)).hold = s.hold ∧ (t.walkEntries rest (position + 1)).owed = s.owed ∧
          (t.walkEntries rest (position + 1)).waitQueue.length = s.waitQueue.length ∧
          ((t.walkEntries rest (position + 1)).due = none ∨ ∃ q, position ≤ q ∧ q < position + (e :: rest).length ∧
            (t.walkEntries rest (position + 1)).due = some (.entry q)) := by
      obtain ⟨holds, owes, long, stands⟩ := ih t (position + 1)
      refine ⟨holds.trans hold, owes.trans owed, long.trans length, stands.imp_right ?_⟩
      rintro ⟨q, low, high, due⟩
      exact ⟨q, by omega, by rw [List.length_cons]; omega, due⟩
    simp only [State.walkEntries]
    split
    · split
      · exact ⟨rfl, rfl, List.length_set, .inr ⟨position, le_rfl, by simp, rfl⟩⟩
      · exact onward _ rfl rfl List.length_set
    · exact onward s rfl rfl rfl

/-! ### Settling ends the walk (notes/assumptions/4.md) -/

/-- How many expiries the walk that stands can still meet. -/
def State.expiriesAhead (s : State) : Nat :=
  match s.due with
  | none => 0
  | some (.connection i) => 32 - i.val
  | some (.entry position) => s.waitQueue.length - position + 1
  | some (.relay h) => 48 - h.val

theorem State.expiriesAhead_le (s : State) : s.expiriesAhead ≤ s.waitQueue.length + 48 := by
  unfold State.expiriesAhead
  split <;> omega

theorem State.expiriesAhead_eq_zero_iff (s : State) : s.expiriesAhead = 0 ↔ s.due = none := by
  unfold State.expiriesAhead
  split <;> simp_all <;> omega

/-- The taking of an expiry leaves full reset and what is owed alone. -/
theorem State.takeDue_hold_owed (s : State) : s.takeDue.hold = s.hold ∧ s.takeDue.owed = s.owed := by
  unfold State.takeDue
  split
  · exact ⟨rfl, rfl⟩
  · rename_i i _
    have expired := s.sameBoundary_expireConnection i
    obtain ⟨hold, owed, -⟩ := (s.expireConnection i).walkConnections_boundary (indicesAfter i)
    exact ⟨hold.trans expired.hold, owed.trans expired.owed⟩
  · rename_i position _
    have expired := s.sameBoundary_timeOutEntry position
    obtain ⟨hold, owed, -, -⟩ := (s.timeOutEntry position).walkEntries_boundary
      ((s.timeOutEntry position).waitQueue.drop position) position
    exact ⟨hold.trans expired.hold, owed.trans expired.owed⟩
  · rename_i h _
    have expired := s.sameBoundary_expireRelay h
    obtain ⟨hold, owed, -⟩ := (s.expireRelay h).walkRelays_boundary (handlesAfter h)
    exact ⟨hold.trans expired.hold, owed.trans expired.owed⟩

/-- A timeout closes the queue up over the entry (R50, R57). -/
theorem State.waitQueue_timeOutEntry (s : State) (position : Nat) :
    (s.timeOutEntry position).waitQueue = s.waitQueue.eraseIdx position := by
  unfold State.timeOutEntry
  split
  · rename_i beyond
    exact (List.eraseIdx_of_length_le (List.getElem?_eq_none_iff.mp beyond)).symm
  · simp

/-- The taking of an expiry leaves fewer ahead: the walk goes on after the index, the handle or the entry. -/
theorem State.expiriesAhead_takeDue_lt (s : State) (stands : s.due ≠ none) :
    s.takeDue.expiriesAhead < s.expiriesAhead := by
  have positive : 0 < s.expiriesAhead := Nat.pos_of_ne_zero fun zero => stands (s.expiriesAhead_eq_zero_iff.mp zero)
  have ended (none : s.takeDue.due = none) : s.takeDue.expiriesAhead < s.expiriesAhead := by
    rwa [(State.expiriesAhead_eq_zero_iff _).mpr none]
  cases due : s.due with
  | none => exact absurd due stands
  | some expiry =>
    cases expiry with
    | connection i =>
      have taken : s.takeDue = s.takeConnectionExpiry i := by simp only [State.takeDue, due]
      obtain ⟨-, -, none | ⟨j, after, next⟩⟩ := (s.expireConnection i).walkConnections_boundary (indicesAfter i)
      · exact ended (taken ▸ none)
      · have next : s.takeDue.due = some (.connection j) := taken ▸ next
        have later : i.val < j.val := by simpa [indicesAfter, allIndices] using after
        simp only [State.expiriesAhead, due, next]
        omega
    | entry position =>
      have taken : s.takeDue = s.takeEntryTimeout position := by simp only [State.takeDue, due]
      obtain ⟨-, -, long, none | ⟨q, low, high, next⟩⟩ := (s.timeOutEntry position).walkEntries_boundary
        ((s.timeOutEntry position).waitQueue.drop position) position
      · exact ended (taken ▸ none)
      · have next : s.takeDue.due = some (.entry q) := taken ▸ next
        have long : s.takeDue.waitQueue.length = (s.timeOutEntry position).waitQueue.length := taken ▸ long
        have erased : (s.timeOutEntry position).waitQueue.length ≤ s.waitQueue.length ∧
            (position < s.waitQueue.length → (s.timeOutEntry position).waitQueue.length < s.waitQueue.length) := by
          rw [State.waitQueue_timeOutEntry, List.length_eraseIdx]
          split <;> omega
        rw [List.length_drop] at high
        simp only [State.expiriesAhead, due, next, long]
        omega
    | relay h =>
      have taken : s.takeDue = s.takeRelayExpiry h := by simp only [State.takeDue, due]
      obtain ⟨-, -, none | ⟨k, after, next⟩⟩ := (s.expireRelay h).walkRelays_boundary (handlesAfter h)
      · exact ended (taken ▸ none)
      · have next : s.takeDue.due = some (.relay k) := taken ▸ next
        have later : h.val < k.val := by simpa [handlesAfter, allHandles] using after
        simp only [State.expiriesAhead, due, next]
        omega

theorem State.takeAllDue_due (s : State) (fuel : Nat) (enough : s.expiriesAhead ≤ fuel) :
    (State.takeAllDue fuel s).due = none := by
  induction fuel generalizing s with
  | zero => exact s.expiriesAhead_eq_zero_iff.mp (Nat.le_zero.mp enough)
  | succ n ih =>
    unfold State.takeAllDue
    split
    · rename_i none
      exact Option.isNone_iff_eq_none.mp none
    · rename_i stands
      have fewer := s.expiriesAhead_takeDue_lt fun none => stands (by rw [none]; rfl)
      exact ih s.takeDue (by omega)

/-- Settling a part that is not held leaves it ready, with the blocks owed what they were. -/
theorem State.settled_ready {s : State} (running : s.hold = .running) : s.settled.Quiet ∧ s.settled.owed = s.owed := by
  have kept : s.settled.hold = s.hold ∧ s.settled.owed = s.owed :=
    s.settled_keeps (fun t => t.hold = s.hold ∧ t.owed = s.owed)
      (fun t same => ⟨t.takeDue_hold_owed.1.trans same.1, t.takeDue_hold_owed.2.trans same.2⟩) ⟨rfl, rfl⟩
  refine ⟨⟨kept.1.trans running, ?_⟩, kept.2⟩
  rw [State.settled, if_pos running]
  exact s.takeAllDue_due _ s.expiriesAhead_le

/-! ### FRAME_START takes what is left (notes/assumptions/3.md) -/

/-- What FRAME_START takes once the departure is past. -/
def State.finishBoundary (s : State) : State :=
  s.takeOwedGuardEnd.takeOwedLeaseWalk.settled.takeOwedQueueWalk.settled.takeOwedRosterWalk.settled

theorem State.finishFrame_of_departing {s : State} (quiet : s.Quiet) (departing : s.departureDue = true) :
    s.finishFrame = s.depart.finishBoundary := by
  simp only [State.finishFrame, quiet.settled_eq, departing, if_true, State.finishBoundary]

theorem State.finishFrame_of_not_departing {s : State} (stays : s.settled.departureDue = false) :
    s.finishFrame = s.settled.finishBoundary := by
  simp only [State.finishFrame, stays, Bool.false_eq_true, if_false, State.finishBoundary]

/-! Each row of the boundary's events does the next step of what FRAME_START takes. -/

theorem State.finishBoundary_of_guard_taken {s : State} (guard : s.owed.guardEnd = false) :
    s.finishBoundary = s.takeOwedLeaseWalk.settled.takeOwedQueueWalk.settled.takeOwedRosterWalk.settled := by
  rw [State.finishBoundary, State.takeOwedGuardEnd_of_taken guard]

theorem State.finishBoundary_of_lease_taken {s : State} (quiet : s.Quiet) (guard : s.owed.guardEnd = false)
    (lease : s.owed.leaseWalk = false) :
    s.finishBoundary = s.takeOwedQueueWalk.settled.takeOwedRosterWalk.settled := by
  rw [State.finishBoundary_of_guard_taken guard, State.takeOwedLeaseWalk_of_taken lease, quiet.settled_eq]

theorem State.finishBoundary_of_queue_taken {s : State} (quiet : s.Quiet) (guard : s.owed.guardEnd = false)
    (lease : s.owed.leaseWalk = false) (queue : s.owed.queueWalk = false) :
    s.finishBoundary = s.takeOwedRosterWalk.settled := by
  rw [State.finishBoundary_of_lease_taken quiet guard lease, State.takeOwedQueueWalk_of_taken queue, quiet.settled_eq]

theorem State.finishBoundary_of_all_taken {s : State} (quiet : s.Quiet) (guard : s.owed.guardEnd = false)
    (lease : s.owed.leaseWalk = false) (queue : s.owed.queueWalk = false) (roster : s.owed.rosterWalk = false) :
    s.finishBoundary = s := by
  rw [State.finishBoundary_of_queue_taken quiet guard lease queue, State.takeOwedRosterWalk_of_taken roster, quiet.settled_eq]

theorem State.SameBoundary.quiet {s t : State} (same : s.SameBoundary t) (quiet : s.Quiet) : t.Quiet :=
  ⟨same.hold.trans quiet.1, same.due.trans quiet.2⟩

/-- A walk begun leaves full reset as it was and its own boundary taken. -/
theorem State.takeOwedLeaseWalk_boundary {s : State} (owes : s.owed.leaseWalk = true) :
    s.takeOwedLeaseWalk.hold = s.hold ∧ s.takeOwedLeaseWalk.owed = { s.owed with leaseWalk := false } := by
  rw [State.takeOwedLeaseWalk, if_pos owes]
  obtain ⟨hold, owed, -⟩ := State.walkConnections_boundary { s with owed.leaseWalk := false } allIndices
  exact ⟨hold, owed⟩

theorem State.takeOwedQueueWalk_boundary {s : State} (owes : s.owed.queueWalk = true) :
    s.takeOwedQueueWalk.hold = s.hold ∧ s.takeOwedQueueWalk.owed = { s.owed with queueWalk := false } := by
  rw [State.takeOwedQueueWalk, if_pos owes]
  obtain ⟨hold, owed, -⟩ := State.walkEntries_boundary { s with owed.queueWalk := false } s.waitQueue 0
  exact ⟨hold, owed⟩

theorem State.takeOwedRosterWalk_boundary {s : State} (owes : s.owed.rosterWalk = true) :
    s.takeOwedRosterWalk.hold = s.hold ∧ s.takeOwedRosterWalk.owed = { s.owed with rosterWalk := false } := by
  rw [State.takeOwedRosterWalk, if_pos owes]
  obtain ⟨hold, owed, -⟩ := State.walkRelays_boundary { s with owed.rosterWalk := false } allHandles
  exact ⟨hold, owed⟩

/-- A part that runs and whose settling leaves to FRAME_START just the rest of what another part has left. -/
structure State.HasRestOf (t s : State) : Prop where
  running : t.hold = .running
  same : s.finishFrame = t.settled.finishBoundary

theorem State.finishFrame_of_departed {s : State} (quiet : s.Quiet) (departed : s.departureDue = false) :
    s.finishFrame = s.finishBoundary := by
  rw [State.finishFrame_of_not_departing (by rwa [quiet.settled_eq]), quiet.settled_eq]

theorem State.depart_hasRest {s : State} (quiet : s.Quiet) (departing : s.departureDue = true) : s.depart.HasRestOf s := by
  have left : s.depart.Quiet := s.sameBoundary_depart.quiet quiet
  exact ⟨left.1, by rw [left.settled_eq, State.finishFrame_of_departing quiet departing]⟩

theorem State.takeOwedGuardEnd_hasRest {s : State} (quiet : s.Quiet) (departed : s.departureDue = false)
    (owes : s.owed.guardEnd = true) : s.takeOwedGuardEnd.HasRestOf s := by
  have same : State.SameBoundary { s with owed.guardEnd := false } s.takeOwedGuardEnd := by
    rw [State.takeOwedGuardEnd, if_pos owes]
    exact State.sameBoundary_takeGuardEnd _
  have left : s.takeOwedGuardEnd.Quiet := same.quiet quiet
  have guard : s.takeOwedGuardEnd.owed.guardEnd = false := by rw [same.owed]
  exact ⟨left.1, by
    rw [left.settled_eq, State.finishBoundary_of_guard_taken guard, State.finishFrame_of_departed quiet departed]; rfl⟩

theorem State.takeOwedLeaseWalk_hasRest {s : State} (quiet : s.Quiet) (departed : s.departureDue = false)
    (guard : s.owed.guardEnd = false) (owes : s.owed.leaseWalk = true) : s.takeOwedLeaseWalk.HasRestOf s := by
  obtain ⟨hold, owed⟩ := State.takeOwedLeaseWalk_boundary owes
  obtain ⟨ready, kept⟩ := State.settled_ready (hold.trans quiet.1)
  rw [owed] at kept
  refine ⟨hold.trans quiet.1, ?_⟩
  rw [State.finishFrame_of_departed quiet departed, State.finishBoundary_of_guard_taken guard,
    State.finishBoundary_of_lease_taken ready (by rw [kept]; exact guard) (by rw [kept])]

theorem State.takeOwedQueueWalk_hasRest {s : State} (quiet : s.Quiet) (departed : s.departureDue = false)
    (guard : s.owed.guardEnd = false) (lease : s.owed.leaseWalk = false) (owes : s.owed.queueWalk = true) :
    s.takeOwedQueueWalk.HasRestOf s := by
  obtain ⟨hold, owed⟩ := State.takeOwedQueueWalk_boundary owes
  obtain ⟨ready, kept⟩ := State.settled_ready (hold.trans quiet.1)
  rw [owed] at kept
  refine ⟨hold.trans quiet.1, ?_⟩
  rw [State.finishFrame_of_departed quiet departed, State.finishBoundary_of_lease_taken quiet guard lease,
    State.finishBoundary_of_queue_taken ready (by rw [kept]; exact guard) (by rw [kept]; exact lease) (by rw [kept])]

theorem State.takeOwedRosterWalk_hasRest {s : State} (quiet : s.Quiet) (departed : s.departureDue = false)
    (guard : s.owed.guardEnd = false) (lease : s.owed.leaseWalk = false) (queue : s.owed.queueWalk = false)
    (owes : s.owed.rosterWalk = true) : s.takeOwedRosterWalk.HasRestOf s := by
  obtain ⟨hold, owed⟩ := State.takeOwedRosterWalk_boundary owes
  obtain ⟨ready, kept⟩ := State.settled_ready (hold.trans quiet.1)
  rw [owed] at kept
  refine ⟨hold.trans quiet.1, ?_⟩
  rw [State.finishFrame_of_departed quiet departed, State.finishBoundary_of_queue_taken quiet guard lease queue,
    State.finishBoundary_of_all_taken ready (by rw [kept]; exact guard) (by rw [kept]; exact lease)
      (by rw [kept]; exact queue) (by rw [kept])]

/-- What the row that is next leaves has the rest of what the part had left. -/
theorem State.nextLeft_hasRest {s t : State} {row : Instr} (quiet : s.Quiet) (left : s.nextLeft = some row)
    (answered : exec row s = .next t) : t.HasRestOf s := by
  unfold State.nextLeft at left
  split at left
  · rename_i departing
    cases left
    obtain rfl : s.depart = t := by
      simpa only [exec, execMessageDeparture, quiet.event_eq, departing, if_true, Host.Outcome.next.injEq] using answered
    exact State.depart_hasRest quiet departing
  rename_i departed
  rw [Bool.not_eq_true] at departed
  split at left
  · rename_i owes
    cases left
    obtain rfl : s.takeOwedGuardEnd = t := by
      simpa only [exec, execGuardEnd, quiet.event_eq, Host.Outcome.next.injEq] using answered
    exact State.takeOwedGuardEnd_hasRest quiet departed owes
  rename_i guard
  rw [Bool.not_eq_true] at guard
  split at left
  · rename_i owes
    cases left
    obtain rfl : s.takeOwedLeaseWalk = t := by
      simpa only [exec, execLeaseCountdownWalk, quiet.event_eq, Host.Outcome.next.injEq] using answered
    exact State.takeOwedLeaseWalk_hasRest quiet departed guard owes
  rename_i lease
  rw [Bool.not_eq_true] at lease
  split at left
  · rename_i owes
    cases left
    obtain rfl : s.takeOwedQueueWalk = t := by
      simpa only [exec, execQueueDeadlineWalk, quiet.event_eq, Host.Outcome.next.injEq] using answered
    exact State.takeOwedQueueWalk_hasRest quiet departed guard lease owes
  rename_i queue
  rw [Bool.not_eq_true] at queue
  split at left
  · rename_i owes
    cases left
    obtain rfl : s.takeOwedRosterWalk = t := by
      simpa only [exec, execRosterDeadlineWalk, quiet.event_eq, Host.Outcome.next.injEq] using answered
    exact State.takeOwedRosterWalk_hasRest quiet departed guard lease queue owes
  · cases left

/-- Settles O7: in each of the five cases the row does the first part of FRAME_START's work, and after it that part is done. -/
theorem frameStartTakesWhatIsLeft : Obligations.FrameStartTakesWhatIsLeft := by
  intro s t row quiet left answered stays
  have rest := State.nextLeft_hasRest quiet left answered
  rw [execFrameStart_of_running quiet.1, execFrameStart_of_running rest.running, rest.same,
    State.finishFrame_of_not_departing stays]

end Sys2Proof.Machine
end

section
/-! REQUEST and ACCEPT. -/

namespace Sys2Proof.Machine

/-! ### A message taken by its block -/

/-- A part that is ready hands the message to its block (R143). -/
theorem State.Quiet.message_eq {s : State} (quiet : s.Quiet) (c : Instr) (f : State → State) :
    s.message c f = f (s.taking c) :=
  quiet.event_eq _

/-- The message of a source with a record on its drop passes to its owner (R74). -/
theorem State.resolve_of_lookup {s : State} {drop : Drop} {n : StationNumber} {h : Handle} {r : Station}
    (source : s.lookup n = some (h, r)) (onDrop : r.drop = drop) (tag : Option Tag) (reference : Option Reference)
    (owner : Handle → Station → State → State) : s.resolve drop n tag reference owner = owner h r s := by
  simp only [State.resolve, source, onDrop, if_true]

theorem State.numberOf_of_lookup {s : State} {n : StationNumber} {h : Handle} {r : Station}
    (source : s.lookup n = some (h, r)) : s.numberOf h = n := by
  obtain ⟨here, number⟩ := s.station_of_lookup n h r source
  rw [State.numberOf, here, Option.map_some, Option.getD_some, number]

/-! ### Placement of a REQUEST -/

/-- A request that passes every check of R26 is not refused. -/
theorem State.Passes.requestRefusal_eq {s : State} {h p : Handle} {r q : Station} {peer : StationNumber} {cls : ClassNo}
    {width : Nat} (passes : s.Passes h r peer p q cls width) : s.requestRefusal h r peer cls width = none := by
  have queued : s.entryOf h = none := by
    simpa [State.entryOf] using passes.notQueued
  have width := passes.goodWidth
  have parties := passes.parties
  simp only [State.requestRefusal, passes.opened, passes.ready, queued, passes.notSelf, passes.found, passes.peerReady,
    ne_eq, not_true_eq_false, Option.isSome_none, Bool.false_eq_true, if_false]
  rw [if_neg (not_lt.mpr passes.goodClass), if_neg (by omega), if_neg (by simp only [Config.partyLimit]; omega),
    if_neg (not_lt.mpr passes.quota)]

/-- A request that passes every check of R26 is served: placed, or handed on (R27, R28). -/
theorem execRequest_of_passes {s : State} (quiet : s.Quiet) {n peer : StationNumber} {h p : Handle} {r q : Station}
    {cls : ClassNo} {width : Fin 16} (source : s.lookup n = some (h, r)) (passes : s.Passes h r peer p q cls width.val)
    (contiguous : Bool) (tag : Tag) :
    exec (.request r.drop n peer cls contiguous width tag) s =
      .next ((s.taking (.request r.drop n peer cls contiguous width tag)).serveRequest h peer p cls contiguous
        width.val tag) := by
  change Host.Outcome.next (s.message (.request r.drop n peer cls contiguous width tag) _) = _
  rw [quiet.message_eq, State.resolve_of_lookup (s := s.taking _) source rfl]
  have taken : (s.taking (.request r.drop n peer cls contiguous width tag)).Passes h r peer p q cls width.val :=
    { passes with }
  simp only [State.takeRequest, taken.requestRefusal_eq, taken.found]

/-- Placement with the answerer's record at hand (R10, R21, R27). -/
theorem State.place_of_station {s : State} (i : Index) {c : Connection} {q : Station}
    (answerer : s.station c.answerer = some q) :
    s.place i c = ({ s with
        slots := s.slots.mapIdx fun k x => if k + 2 ∈ c.slotList then .reserved i else x
        serials := s.serials.set i (s.serial i + 1)
        connections := s.connections.set i (some c)
        connectionChanges := s.connectionChanges + 1 }.offer
      ⟨q.number, .offer ⟨i, s.serial i + 1⟩ (s.numberOf c.originator) c.cls c.width c.contiguous c.slotList c.remaining⟩) := by
  have there : ((s.reserveClaim i c.slotList).createConnection i c).station c.answerer = some q := answerer
  have reference : ((s.reserveClaim i c.slotList).createConnection i c).referenceOf i = ⟨i, s.serial i + 1⟩ := by
    simp [State.referenceOf, State.serial, State.createConnection, State.setConnection, State.bumpConnections,
      State.reserveClaim, State.mapSlots]
  rw [State.place, State.sendOffer, State.tell_of_station there, reference]
  rfl

/-- Settles O22. -/
theorem requestsArePlaced : Obligations.RequestsArePlaced := by
  intro s drop n peer cls contiguous width tag h p r q i slots quiet source onDrop passes unused lowest searched c
  subst onDrop
  have room : (s.taking c).room contiguous width.val = some (i, slots) :=
    (State.room_eq_some_iff ..).mpr ⟨((s.taking c).unusedIndex_eq_some_iff i).mpr ⟨unused, lowest⟩, searched⟩
  have answerer : (s.taking c).station p = some q := (s.station_of_lookup peer p q passes.found).1
  have number : (s.taking c).numberOf h = n := State.numberOf_of_lookup (s := s) source
  have placed := State.place_of_station i (c := (s.taking c).offeredRecord h p cls contiguous width.val tag slots) answerer
  have served : exec c s = .next ((s.taking c).serveRequest h peer p cls contiguous width.val tag) :=
    execRequest_of_passes quiet source passes contiguous tag
  simp only [served, State.serveRequest, room, placed]
  simp only [State.offeredRecord, number]
  rfl

/-! ### ACCEPT -/

theorem State.numberOf_of_station {s : State} {h : Handle} {r : Station} (here : s.station h = some r) :
    s.numberOf h = r.number := by
  rw [State.numberOf, here, Option.map_some, Option.getD_some]

/-- A message after another goes to the number the record held before both (R23). -/
theorem State.tell_offer_of_station {s : State} {h : Handle} {r : Station} (here : s.station h = some r) (m : DownMessage)
    (body : DownBody) : (s.offer m).tell h body = (s.offer m).offer ⟨r.number, body⟩ := by
  have same : (s.offer m).messagesTo h body = s.messagesTo h body := s.messagesTo_offerAll [m] h body
  rw [State.tell_eq_offerAll, same, State.messagesTo_of_station here]
  rfl

/-- GRANT to both parties, the originator first (R23). -/
theorem State.sendGrants_of_stations {s : State} (i : Index) {c : Connection} {x y : Station}
    (originator : s.station c.originator = some x) (answerer : s.station c.answerer = some y) :
    s.sendGrants i c =
      (s.offer ⟨x.number, .grant (s.referenceOf i) .originator y.number c.cls c.tag c.width c.slotList c.remaining⟩).offer
        ⟨y.number, .grant (s.referenceOf i) .answerer x.number c.cls c.tag c.width c.slotList c.remaining⟩ := by
  rw [State.sendGrants, State.tell_of_station originator, State.tell_offer_of_station answerer,
    State.numberOf_of_station originator, State.numberOf_of_station answerer]

theorem mapIdx_ignoring_index {α β : Type} {n : Nat} (v : Vector α n) (f : α → β) : (v.mapIdx fun _ x => f x) = v.map f :=
  Vector.ext fun k inside => by rw [Vector.getElem_mapIdx, Vector.getElem_map]

/-- The activation with both parties' records at hand (R11, R30). -/
theorem State.activate_of_stations {s : State} (i : Index) {c : Connection} {x y : Station}
    (originator : s.station c.originator = some x) (answerer : s.station c.answerer = some y) :
    s.activate i c =
      (({ s with
          slots := s.slots.map fun slot : SlotRecord => if slot = SlotRecord.reserved i then .held i else slot
          connections := s.connections.set i (some { c with
            state := .active, countdown := some ⟨(s.classPolicy c.cls).leasePeriod, s.timer.parity⟩ })
          connectionChanges := s.connectionChanges + 1
          flags := s.flags ||| 0x4 }.offer
        ⟨x.number, .grant (s.referenceOf i) .originator y.number c.cls c.tag c.width c.slotList
          (s.classPolicy c.cls).leasePeriod⟩).offer
          ⟨y.number, .grant (s.referenceOf i) .answerer x.number c.cls c.tag c.width c.slotList
            (s.classPolicy c.cls).leasePeriod⟩) := by
  refine (State.sendGrants_of_stations i (x := x) (y := y) ?_ ?_).trans ?_
  · exact originator
  · exact answerer
  · simp only [State.holdClaim, State.mapSlots, mapIdx_ignoring_index]
    rfl

/-- A reference that names a record passes the checks of R24 with the role of the source. -/
theorem State.onReference_of_party {s : State} {reference : Reference} {k : Connection} {h : Handle} {role : Role}
    (named : s.named reference h = .ok (k, role)) (f : Connection → Role → Handle → State → State) (r : Station) :
    s.onReference reference f h r = f k role h s := by
  simp only [State.onReference, named]

/-- Settles O28. -/
theorem acceptActivates : Obligations.AcceptActivates := by
  intro s drop n reference h r k quiet source onDrop here serial c refused period
  obtain ⟨known, number⟩ := s.station_of_lookup n h r source
  have named (role : Role) (party : (s.taking c).named reference h = .ok (k, role)) :
      exec c s = .next ((s.taking c).takeAccept reference k role h) := by
    change Host.Outcome.next (s.message c _) = _
    rw [quiet.message_eq, State.resolve_of_lookup (s := s.taking c) source onDrop, State.onReference_of_party party]
  have there : (s.taking c).connection reference.index = some k := here
  have current : (s.taking c).serial reference.index = reference.serial := serial
  have standing : (s.taking c).station h = some r := known
  have refuses (reason : Reason) : (s.taking c).refuseNamed h reference reason =
      (s.taking c).offer ⟨n, .refuse reason none (some reference)⟩ := by
    rw [State.refuseNamed, State.tell_of_station standing, number]
  constructor
  · intro originator
    have party : (s.taking c).named reference h = .ok (k, .originator) := by
      simp [State.named, there, current, originator]
    change exec c s = _
    rw [named _ party, ← refuses]
    rfl
  · intro notOriginator answerer
    have party : (s.taking c).named reference h = .ok (k, .answerer) := by
      simp [State.named, there, current, notOriginator, answerer]
    rw [named _ party]
    constructor
    · intro other
      change exec c s = _
      rw [named _ party, ← refuses]
      cases state : k.state with
      | offered => exact absurd state other
      | pending => simp only [State.takeAccept, state]
      | active => simp only [State.takeAccept, state]
    · intro x offered originator
      have answers : (s.taking c).station k.answerer = some r := answerer ▸ known
      have grants := State.activate_of_stations (s := s.taking c) (x := x) reference.index originator answers
      have whole : (s.taking c).referenceOf reference.index = reference := by
        rw [State.referenceOf, current]
      rw [number, whole] at grants
      simp only [State.takeAccept, offered, grants]
      rfl

end Sys2Proof.Machine
end

section
/-! Pre-emption, exactly (R13, R65 to R67). -/

namespace Sys2Proof.Machine

/-! ### The claim and the record of a pre-emption (R13, R66) -/

theorem SlotRecord.preempted_eq (victims : List Index) (i : Index) (chosen : Bool) (p : Parity) (x : SlotRecord) :
    x.preempted victims i chosen p =
      if x = .free then if chosen then .reserved i else .free
      else if ∃ v ∈ victims, x = .held v then .guard (if chosen then some i else none) p
      else x := by
  cases x <;> simp [SlotRecord.preempted]

/-- The part once a pre-emption has made its connection, its messages still to come. -/
theorem State.preemptMade_eq (s : State) {victims : List (Index × Connection)} (some_victim : victims ≠ []) (i : Index)
    (c : Connection) :
    s.preemptMade victims i c = { s with
      slots := s.slots.mapIdx fun k x =>
        if x = SlotRecord.free then if k + 2 ∈ c.slotList then .reserved i else .free
        else if ∃ v ∈ victims.map (·.1), x = .held v then .guard (if k + 2 ∈ c.slotList then some i else none) s.timer.parity
        else x
      serials := s.serials.set i (s.serial i + 1)
      connections := s.connections.mapIdx fun j k =>
        if j = i.val then some c else if ∃ v ∈ victims.map (·.1), v.val = j then none else k
      connectionChanges := s.connectionChanges + BitVec.ofNat 16 (victims.length + 1)
      flags := s.flags ||| 0x4 } := by
  have connections : (s.preemptMade victims i c).connections = s.connections.mapIdx fun j k =>
      if j = i.val then some c else if ∃ v ∈ victims.map (·.1), v.val = j then none else k := by
    refine connections_ext fun j => ?_
    have at_j := s.connection_preemptMade victims i j c
    simp only [State.connection] at at_j
    rw [at_j]
    simp only [Fin.getElem_fin, Vector.getElem_mapIdx, Fin.val_inj, exists_eq_right, eq_comm (a := j)]
  have changes : s.connectionChanges + BitVec.ofNat 16 victims.length + BitVec.ofNat 16 1 =
      s.connectionChanges + BitVec.ofNat 16 (victims.length + 1) := by
    rw [BitVec.add_assoc, ← BitVec.ofNat_add]
  obtain ⟨table, ended⟩ : ∃ table, s.endVictims victims = { s with
      connections := table
      connectionChanges := s.connectionChanges + BitVec.ofNat 16 victims.length
      flags := s.flags ||| Flag.lease.mask } :=
    ⟨_, (s.endVictims_frame victims).trans (by rw [if_neg some_victim])⟩
  rw [State.preemptMade, ended] at connections ⊢
  simp only [State.createConnection, State.setConnection, State.bumpConnections, State.preemptClaim, State.mapSlots,
    SlotRecord.preempted_eq, decide_eq_true_eq, changes] at connections ⊢
  rw [connections]
  rfl

/-- The slots that O26 lists are those a pre-emption may take. -/
theorem State.takeable_eq (s : State) (victims : List Index) :
    ((List.range' 2 62).filter fun a => s.slot a = some .free ∨ ∃ v ∈ victims, s.slot a = some (.held v)) =
      s.takeable victims := by
  refine List.filter_congr fun a bearer => ?_
  have listed : a ∈ s.takeable victims ↔ (s.slotFree a || (s.slot a).any (·.victims victims)) = true := by
    rw [State.takeable, List.mem_filter]
    exact and_iff_right bearer
  rw [Bool.eq_iff_iff, decide_eq_true_eq, ← listed, State.mem_takeable_iff, State.Takeable]

/-- The record a pre-emption makes: OFFERED where every slot was FREE, PENDING otherwise (R66). -/
theorem State.preemptRecord_eq (s : State) (source peer : Handle) (cls : ClassNo) (width : Nat) (tag : Tag)
    (slots : List Nat) :
    s.preemptRecord source peer cls width tag slots =
      if ∀ a ∈ slots, s.slot a = some .free then
        ⟨.offered, false, source, peer, cls, width, false, tag, slots, some ⟨s.answerPeriod, s.timer.parity⟩⟩
      else ⟨.pending, false, source, peer, cls, width, false, tag, slots, none⟩ := by
  simp only [State.preemptRecord, List.all_eq_true, State.slotFree_eq_true_iff]
  rfl

@[simp] theorem State.answerer_preemptRecord (s : State) (source peer : Handle) (cls : ClassNo) (width : Nat) (tag : Tag)
    (slots : List Nat) : (s.preemptRecord source peer cls width tag slots).answerer = peer := by
  simp only [State.preemptRecord, State.offeredRecord]
  split <;> rfl

theorem State.preemptRecord_of_offered {s : State} {source peer : Handle} {cls : ClassNo} {width : Nat} {tag : Tag}
    {slots : List Nat} (offered : (s.preemptRecord source peer cls width tag slots).state = .offered) :
    s.preemptRecord source peer cls width tag slots = s.offeredRecord source peer cls false width tag slots := by
  rw [State.state_preemptRecord] at offered
  have free : slots.all s.slotFree = true := by
    by_contra other
    rw [if_neg other] at offered
    cases offered
  simp only [State.preemptRecord, if_pos free]

/-! ### The messages of a pre-emption (R66) -/

/-- A walk whose every step offers messages, which no offer changes, offers them all. -/
theorem State.foldl_eq_offerAll {α : Type} (f : State → α → State) (messages : State → α → List DownMessage)
    (step : ∀ t a, f t a = t.offerAll (messages t a))
    (stable : ∀ (t : State) sent a, messages (t.offerAll sent) a = messages t a) (s : State) (list : List α) :
    list.foldl f s = s.offerAll (list.flatMap (messages s)) := by
  induction list generalizing s with
  | nil => rfl
  | cons a rest ih =>
    have same : messages (s.offerAll (messages s a)) = messages s := funext fun b => stable s _ b
    rw [List.foldl_cons, ih, step, same, List.flatMap_cons, State.offerAll_append]

/-- RELEASED(PREEMPTED) to both parties of a victim, as messages. -/
def State.victimMessages (s : State) (reference : Reference) (c : Connection) : List DownMessage :=
  [c.originator, c.answerer].flatMap fun party => s.messagesTo party (.released reference .preempted)

theorem State.tellVictim_eq_offerAll (s : State) (reference : Reference) (c : Connection) :
    s.tellVictim reference c = s.offerAll (s.victimMessages reference c) := by
  simp only [State.tellVictim, State.victimMessages, State.tell_eq_offerAll, State.messagesTo_offerAll,
    List.flatMap_cons, List.flatMap_nil, List.append_nil, State.offerAll_append]

@[simp] theorem State.victimMessages_offerAll (s : State) (sent : List DownMessage) (reference : Reference) (c : Connection) :
    (s.offerAll sent).victimMessages reference c = s.victimMessages reference c := by
  simp only [State.victimMessages, State.messagesTo_offerAll]

/-- The messages of a pre-emption that concern one index (R66). -/
def State.indexMessages (s : State) (references : List (Reference × Connection)) (i : Index) (c : Connection) (j : Index) :
    List DownMessage :=
  ((references.filter fun v => v.1.index = j).flatMap fun v => s.victimMessages v.1 v.2) ++
    if j = i ∧ c.state = .offered then s.offerMessages i c else []

theorem State.preemptMessages_eq_offerAll (s : State) (references : List (Reference × Connection)) (i : Index)
    (c : Connection) :
    s.preemptMessages references i c = s.offerAll ((List.finRange 32).flatMap (s.indexMessages references i c)) := by
  refine State.foldl_eq_offerAll _ (fun t => t.indexMessages references i c) (fun t j => ?_) (fun t sent j => ?_) s _
  · have told : (references.filter fun v => v.1.index = j).foldl (fun s v => s.tellVictim v.1 v.2) t =
        t.offerAll ((references.filter fun v => v.1.index = j).flatMap fun v => t.victimMessages v.1 v.2) :=
      State.foldl_eq_offerAll _ (fun u (v : Reference × Connection) => u.victimMessages v.1 v.2)
        (fun u v => u.tellVictim_eq_offerAll v.1 v.2) (fun u sent v => u.victimMessages_offerAll sent v.1 v.2) t _
    simp only [told, State.indexMessages, State.offerAll_append, Bool.and_eq_true, decide_eq_true_eq]
    split
    · rw [State.sendOffer_eq_offerAll, State.offerMessages_offerAll]
    · rfl
  · simp only [State.indexMessages, State.victimMessages_offerAll, State.offerMessages_offerAll]

theorem State.servicePasses_eq_iterate (n : Nat) (s : State) : s.servicePasses n = State.servicePass^[n] s := by
  induction n generalizing s with
  | zero => rfl
  | succ n ih => rw [State.servicePasses, ih, Function.iterate_succ_apply]

/-- The messages of one index, written out from the victims and the stations before the pre-emption. -/
theorem State.indexMessages_eq (s : State) (victims : List (Index × Connection)) {i : Index} {c : Connection}
    {q : Station} (answerer : s.station c.answerer = some q) (j : Index) {before : Index → Reference}
    (named : ∀ k, (before k).index = k) :
    s.indexMessages (victims.map fun v => (before v.1, v.2)) i c j =
      ((victims.filter fun v => v.1 = j).flatMap fun v =>
        [v.2.originator, v.2.answerer].flatMap fun party =>
          (s.station party).toList.map fun x => ⟨x.number, .released (before j) .preempted⟩) ++
      if j = i ∧ c.state = .offered then
        [⟨q.number, .offer (s.referenceOf i) (s.numberOf c.originator) c.cls c.width c.contiguous c.slotList c.remaining⟩]
      else [] := by
  have referenced : (victims.map fun v => (before v.1, v.2)).filter (fun v => v.1.index = j) =
      (victims.filter fun v => v.1 = j).map fun v => (before v.1, v.2) := by
    simp only [List.filter_map, Function.comp_def, named]
  simp only [State.indexMessages, referenced, List.flatMap_map, State.offerMessages, State.messagesTo_of_station answerer]
  refine congrArg (· ++ _) (List.flatMap_congr fun v victim => ?_)
  obtain ⟨-, rfl⟩ : v ∈ victims ∧ v.1 = j := by simpa using victim
  rfl

/-- Every pre-emption has an index to take: an unused one, or a victim's (R66). -/
theorem State.exists_unusedIndex_endVictims (s : State) {victims : List (Index × Connection)} (some_victim : victims ≠ []) :
    ∃ i, (s.endVictims victims).unusedIndex = some i := by
  rw [← Option.isSome_iff_exists, Option.isSome_iff_ne_none]
  intro full
  obtain ⟨v, victim⟩ := List.exists_mem_of_ne_nil victims some_victim
  refine (State.unusedIndex_eq_none_iff _).mp full v.1 ?_
  rw [State.connection_endVictims, if_pos (List.mem_map_of_mem victim)]

theorem State.room_of_full {s : State} {contiguous : Bool} {width : Nat}
    (full : s.unusedIndex = none ∨ s.searchSlots contiguous width = none) : s.room contiguous width = none := by
  rw [Option.eq_none_iff_forall_ne_some]
  rintro ⟨i, slots⟩ room
  obtain ⟨unused, found⟩ := (s.room_eq_some_iff ..).mp room
  simp [unused, found] at full

/-- A request without room whose class may pre-empt, and finds victims, pre-empts them (R28, R65, R67). -/
theorem State.serveRequest_of_victims {s : State} {cls : ClassNo} {width : Nat} {victims : List (Index × Connection)}
    (full : s.unusedIndex = none ∨ s.searchSlots false width = none) (mayPreempt : (s.classPolicy cls).mayPreempt = true)
    (found : s.victimsFor cls width = some victims) (h : Handle) (peer : StationNumber) (p : Handle) (tag : Tag) :
    s.serveRequest h peer p cls false width tag =
      State.servicePass^[victims.length] (s.preempt victims h p cls width tag) := by
  simp only [State.serveRequest, State.room_of_full full, State.handOn, mayPreempt, found, Bool.not_false, Bool.and_self,
    if_true, State.servicePasses_eq_iterate]

/-- Settles O26. -/
theorem preemptionMakesRoom : Obligations.PreemptionMakesRoom := by
  intro s drop n peer cls width tag h p r q victims quiet source onDrop passes full mayPreempt found c indices union
    chosen record
  subst onDrop
  have noRoom : s.unusedIndex = none ∨ s.searchSlots false width.val = none :=
    full.imp_left s.unusedIndex_eq_none_iff.mpr
  have some_victim : victims ≠ [] := State.victimsFor_ne_nil found noRoom
  obtain ⟨i, unused⟩ := (s.taking c).exists_unusedIndex_endVictims some_victim
  obtain ⟨-, lowest⟩ := (State.unusedIndex_eq_some_iff _ i).mp unused
  refine ⟨i, State.connection_of_unusedIndex_endVictims (s := s.taking c) unused, fun j lower => ?_, ?_⟩
  · have taken := lowest j lower
    rw [State.connection_endVictims] at taken
    obtain ⟨stays, stands⟩ := ite_ne_left_iff.mp taken
    exact ⟨stands.symm, stays⟩
  intro made messages
  obtain ⟨peerStands, peerNumber⟩ := s.station_of_lookup peer p q passes.found
  have number : made.numberOf h = n := State.numberOf_of_lookup (s := s) source
  have listed : (s.taking c).preemptList indices width.val = chosen :=
    congrArg (List.take width.val) (s.takeable_eq indices).symm
  have recorded : (s.taking c).preemptRecord h p cls width.val tag chosen = record :=
    (s.taking c).preemptRecord_eq h p cls width.val tag chosen
  have slots : record.slotList = chosen := by rw [← recorded, State.slotList_preemptRecord]
  have claimed : (s.taking c).preemptMade victims i record = made := by
    rw [State.preemptMade_eq _ some_victim, slots]
    rfl
  have told : made.preemptMessages (victims.map fun v => ((s.taking c).referenceOf v.1, v.2)) i record =
      messages.foldl (fun (t : State) m => t.offer m) made := by
    have answers : made.station record.answerer = some q := by
      rw [← recorded, State.answerer_preemptRecord]
      exact peerStands
    rw [State.preemptMessages_eq_offerAll]
    refine congrArg (fun list => made.offerAll list) (List.flatMap_congr fun j _ => ?_)
    rw [State.indexMessages_eq made victims answers j fun _ => rfl]
    refine congrArg (_ ++ ·) ?_
    by_cases offers : j = i ∧ record.state = .offered
    · have offered : record = (s.taking c).offeredRecord h p cls false width.val tag chosen := by
        rw [← recorded]
        exact State.preemptRecord_of_offered (recorded ▸ offers.2)
      have reference : made.referenceOf i = ⟨i, s.serial i + 1⟩ := by
        simp [made, State.referenceOf, State.serial]
      rw [if_pos offers, if_pos offers, reference, offered, peerNumber]
      simp only [State.offeredRecord, number]
      rfl
    · rw [if_neg offers, if_neg offers]
  have preempted : (s.taking c).preempt victims h p cls width.val tag = messages.foldl (fun (t : State) m => t.offer m) made := by
    rw [State.preempt_of_unused unused, listed, recorded, claimed, told]
  have served : exec c s = .next ((s.taking c).serveRequest h peer p cls false width.val tag) :=
    execRequest_of_passes quiet source passes false tag
  rw [served, State.serveRequest_of_victims (s := s.taking c) noRoom mayPreempt found, preempted]

end Sys2Proof.Machine
end

section
/-! Removal, exactly (R25, R45, R60, R83). -/

namespace Sys2Proof.Machine

/-! ### A withdrawal or an end, exactly (R12, R14, R25) -/

theorem State.tableEmpty_iff (s : State) : s.tableEmpty = true ↔ ∀ i, s.connection i = none := by
  simp [State.tableEmpty, allIndices]

/-- The end of a record reports DRAINED where it empties the table in DRAINING (R161). -/
theorem State.flags_forgetConnection_report (s t : State) (i : Index) (table : t.connections = s.connections)
    (highway : t.highway = s.highway) :
    (t.forgetConnection i).reportIfEmpty.flags =
      t.flags ||| (if s.highway = .draining ∧ ∀ j, j ≠ i → s.connection j = none then 0x80 else 0) := by
  have same (j : Index) : t.connection j = s.connection j := congrArg (·[j]) table
  have empties : ((t.forgetConnection i).tableEmpty && (t.forgetConnection i).highway = .draining) = true ↔
      s.highway = .draining ∧ ∀ j, j ≠ i → s.connection j = none := by
    have standing : (t.forgetConnection i).highway = s.highway := highway
    rw [Bool.and_eq_true, decide_eq_true_eq, standing, State.tableEmpty_iff, and_comm]
    simp only [State.connection_forgetConnection, ite_eq_left_iff, same]
    exact and_congr_right fun _ => forall_congr' fun j => imp_congr_left ne_comm
  rw [State.reportIfEmpty, State.raiseIf_flags]
  exact congrArg (t.flags ||| ·) (if_congr empties rfl rfl)

/-- A removal raises LEASE at an end, and DRAINED where it empties the table in DRAINING (R25, R161). -/
theorem State.flags_dropConnection (s : State) (i : Index) (c : Connection) :
    (s.dropConnection i c).flags =
      s.flags ||| (if c.state = .active then 0x4 else 0) |||
        (if s.highway = .draining ∧ ∀ j, j ≠ i → s.connection j = none then 0x80 else 0) := by
  unfold State.dropConnection
  by_cases active : c.state = .active
  · simp only [active, if_true]
    exact s.flags_forgetConnection_report ((s.endClaim i).raise .lease) i rfl rfl
  · simp only [active, if_false]
    exact (s.flags_forgetConnection_report (s.withdrawClaim i) i rfl rfl).trans
      (congrArg (· ||| _) BitVec.or_zero.symm)

/-- A removal, its claim given as a function of one record. -/
theorem State.dropConnection_eq (s : State) (i : Index) (c : Connection) (f : SlotRecord → SlotRecord)
    (claims : ∀ x : SlotRecord, x.dropped c.state i s.timer.parity = f x) :
    s.dropConnection i c =
      { s with
        slots := s.slots.map f
        connections := s.connections.set i none
        connectionChanges := s.connectionChanges + 1
        flags := s.flags ||| (if c.state = .active then 0x4 else 0) |||
          (if s.highway = .draining ∧ ∀ j, j ≠ i → s.connection j = none then 0x80 else 0) } := by
  have slots : (if c.state = .active then s.endClaim i else s.withdrawClaim i).slots = s.slots.map f := by
    rw [← funext claims]
    unfold SlotRecord.dropped
    split <;> exact mapIdx_ignoring_index ..
  rw [State.dropConnection_frame, slots, State.flags_dropConnection]

/-! ### The walks of the cascade (R45, R60) -/

theorem State.cutConnection_of_some {s : State} {i : Index} {c : Connection} (here : s.connection i = some c)
    (set : List Handle) (reason : Reason) :
    s.cutConnection set reason i =
      s.removeConnection i c (if c.originator ∈ set then none else some (s.noticeToOriginator i c reason))
        (if c.answerer ∈ set then none else s.noticeToAnswerer i c reason) := by
  simp only [State.cutConnection, here, List.contains_eq_mem, decide_eq_true_eq]

/-- A removal with notice to the originator alone (R25, R45). -/
theorem State.removeConnection_to_originator {s : State} {c : Connection} {x : Station}
    (originator : s.station c.originator = some x) (i : Index) (body : DownBody) :
    s.removeConnection i c (some body) none = (s.dropConnection i c).offer ⟨x.number, body⟩ := by
  have stands : (s.dropConnection i c).station c.originator = some x := by
    rwa [State.station, State.dropConnection_stations]
  exact State.tell_of_station stands body

/-- A removal with notice to the answerer alone (R25, R45). -/
theorem State.removeConnection_to_answerer {s : State} {c : Connection} {y : Station}
    (answerer : s.station c.answerer = some y) (i : Index) (body : DownBody) :
    s.removeConnection i c none (some body) = (s.dropConnection i c).offer ⟨y.number, body⟩ := by
  have stands : (s.dropConnection i c).station c.answerer = some y := by
    rwa [State.station, State.dropConnection_stations]
  exact State.tell_of_station stands body

/-! ### The removal cascade (R83) -/

/-- Deletion of a list of handles clears their places. -/
theorem mapIdx_set_cleared {α : Type} {n : Nat} (v : Vector (Option α) n) (h : Fin n) (rest : List (Fin n)) :
    ((v.set h none).mapIdx fun j r => if ∃ k ∈ rest, k.val = j then none else r) =
      v.mapIdx fun j r => if ∃ k ∈ h :: rest, k.val = j then none else r := by
  refine Vector.ext fun j inside => ?_
  simp only [Vector.getElem_mapIdx, Vector.getElem_set]
  by_cases here : h.val = j
  · simp [here]
  · simp [here]

/-- Step 3 of the cascade, exactly: the records and their assemblies go, DIRECTORY CHANGES advances once a record, and LEFT is
raised where there is one (R73, R83). -/
theorem State.deleteStations_eq (s : State) (list : List Handle) :
    s.deleteStations list =
      { s with
        stations := s.stations.mapIdx fun j r => if ∃ h ∈ list, h.val = j then none else r
        assemblies := s.assemblies.mapIdx fun j a => if ∃ h ∈ list, h.val = j then none else a
        directoryChanges := s.directoryChanges + BitVec.ofNat 16 list.length
        flags := if list = [] then s.flags else s.flags ||| 0x2 } := by
  unfold State.deleteStations
  induction list generalizing s with
  | nil => simp [mapIdx_ignoring_index]
  | cons h rest ih =>
    have count : s.directoryChanges + 1#16 + BitVec.ofNat 16 rest.length =
        s.directoryChanges + BitVec.ofNat 16 (rest.length + 1) := by
      rw [Nat.add_comm, BitVec.ofNat_add, BitVec.add_assoc]
    have flags : (if rest = [] then s.flags ||| Flag.left.mask else s.flags ||| Flag.left.mask ||| 0x2) = s.flags ||| 0x2 := by
      split
      · rfl
      · exact (BitVec.or_assoc ..).trans (congrArg _ (by decide))
    rw [List.foldl_cons, ih]
    simp only [State.deleteStation_stations, State.deleteStation_assemblies, mapIdx_set_cleared, State.deleteStation_flags,
      flags, State.deleteStation_directoryChanges]
    rw [if_neg (List.cons_ne_nil h rest), List.length_cons, ← count]
    rfl

theorem State.waitQueue_cutConnection (s : State) (set : List Handle) (reason : Reason) (i : Index) :
    (s.cutConnection set reason i).waitQueue = s.waitQueue := by
  unfold State.cutConnection
  split
  · rfl
  · exact (s.removeConnection_frame ..).1

theorem State.waitQueue_cutConnections (s : State) (set : List Handle) (reason : Reason) :
    (s.cutConnections set reason).waitQueue = s.waitQueue :=
  foldl_keeps s (fun t => t.waitQueue = s.waitQueue) _
    (fun t i kept => (t.waitQueue_cutConnection set reason i).trans kept) _ rfl

theorem State.touching_eq (s : State) (set : List Handle) :
    ((List.finRange 32).filter fun i => (s.connection i).any fun k => k.originator ∈ set ∨ k.answerer ∈ set) =
      s.touching set := by
  simp only [State.touching, allIndices, List.contains_eq_mem, Bool.decide_or]

/-- Settles O27. -/
theorem removalFreesRecordAndSlots : Obligations.RemovalFreesRecordAndSlots := by
  refine ⟨fun s i k here => ?_, fun s set reason i k x y here originator answerer => ?_, fun s set e x source => ?_,
    fun s set deleted reason after => ?_⟩
  · refine s.dropConnection_eq i k _ fun x => ?_
    cases x with
    | guard owner p => cases owner <;> rfl
    | free => rfl
    | reserved j => rfl
    | held j => rfl
  · intro dropped reference refused toOriginator toAnswerer
    rw [State.cutConnection_of_some here]
    refine ⟨fun stays leaves => ?_, fun leaves stays => ?_, fun leaves alsoLeaves => ?_⟩
    · rw [if_neg stays, if_pos leaves, State.removeConnection_to_originator originator, State.noticeToOriginator]
      split <;> rfl
    · rw [if_pos leaves, if_neg stays, State.noticeToAnswerer]
      split
      · rfl
      · exact State.removeConnection_to_answerer answerer ..
    · rw [if_pos leaves, if_pos alsoLeaves]
      rfl
  · intro left
    simp only [State.cutEntry, List.contains_eq_mem, decide_eq_true_eq]
    refine ⟨fun leaves => ?_, fun stays peerLeaves => ?_, fun stays peerStays => ?_⟩
    · rw [if_pos leaves]
      rfl
    · rw [if_neg stays, if_pos peerLeaves]
      exact State.tell_of_station (s := left) source _
    · rw [if_neg stays, if_neg peerStays]
  · intro touched cut cleared emptied
    have walked : touched = s.touching set := s.touching_eq set
    have removed : cut = s.cutConnections set reason := by
      change touched.foldl _ s = _
      rw [walked]
      rfl
    have left : cleared = (s.cutConnections set reason).cutEntries set := by
      rw [State.cutEntries, State.waitQueue_cutConnections, ← removed]
    have deletes : ((s.cutConnections set reason).cutEntries set).deleteStations deleted = emptied := by
      rw [State.deleteStations_eq, ← left]
    rw [State.cascade, deletes, State.servicePasses_eq_iterate, walked]

end Sys2Proof.Machine
end

section
/-! The laws at the release of full reset. -/

namespace Sys2Proof.Machine

/-! ### The tables at the release of full reset (R19, R49, R62, R91, R156) -/

theorem State.reset_station (h : Handle) : State.reset.station h = none := by
  simp [State.reset, State.station]

theorem State.reset_assembly (h : Handle) : State.reset.assembly h = none := by
  simp [State.reset, State.assembly]

theorem State.reset_partyCount (h : Handle) : State.reset.partyCount h = 0 := by
  have unused : State.reset.inUse = [] := by
    simp [State.inUse, State.reset_connection]
  rw [State.partyCount, unused]
  rfl

theorem State.reset_behind (d : Drop) : State.reset.behind d = [] := by
  simp [State.behind, State.reset_station]

/-! ### The laws -/

theorem State.denyLaw_reset : State.reset.DenyLaw where
  atMost24 := Nat.zero_le _
  ascending := .nil
  valid := by simp [State.reset]
  saturated := by simp [State.reset]

theorem State.queueLaw_reset : State.reset.QueueLaw where
  atMost16 := Nat.zero_le _
  byClass := .nil
  oneEach := .nil

theorem State.downlinkLaw_reset : State.reset.DownlinkLaw := by
  simp [State.DownlinkLaw, State.reset]

/-- The settings of full reset are in their ranges (R121, R122). -/
theorem State.rangeLaw_reset : State.reset.RangeLaw where
  lease := by decide
  maxWidth := by decide
  defaultQuota := by decide
  queuePeriod := by decide
  answer := by decide
  roster := by decide
  connectionWidth := by simp [State.reset_connection]
  entryWidth := by simp [State.reset]
  quota := by simp [State.reset_station]
  tier := by simp [State.reset_station]

theorem State.closedLaw_reset : State.reset.ClosedLaw where
  noStation := fun _ => State.reset_station
  noConnection := fun _ => State.reset_connection
  noEntry := fun _ => rfl
  noAssembly := fun _ => State.reset_assembly
  allFree := fun _ _ _ => State.reset_slot

theorem State.drainingLaw_reset : State.reset.DrainingLaw where
  noEntry := fun _ => rfl
  allActive := by simp [State.reset_connection]

theorem State.heldLaw_reset : State.reset.HeldLaw where
  atReset := fun held => absurd rfl held
  discarded := fun held => absurd rfl held

theorem State.directoryLaw_reset : State.reset.DirectoryLaw where
  oneRecord := by simp [State.reset_station]
  notListed := by simp [State.reset_station]
  viaRelay := by simp [State.reset_station]
  oneTopStation := by simp [State.reset_station]
  atMost15 := by simp [State.reset_behind]
  declared := by simp [State.reset_assembly]

theorem State.partyLaw_reset : State.reset.PartyLaw where
  parties := by simp [State.reset_connection]
  entries := by simp [State.reset]
  atMost8 := by simp [State.reset_partyCount]
  pinnedActive := by simp [State.reset_connection]

/-- Settles O60. -/
theorem resetMeetsTheLaws : Obligations.ResetMeetsTheLaws :=
  ⟨State.denyLaw_reset, State.queueLaw_reset, State.downlinkLaw_reset, State.rangeLaw_reset, State.closedLaw_reset,
    State.drainingLaw_reset, State.heldLaw_reset, State.directoryLaw_reset, State.slotLaw_reset, State.partyLaw_reset⟩

end Sys2Proof.Machine
end

section
/-! What a change of the tables can be. -/

namespace Sys2Proof.Machine

set_option Elab.async false -- one proof at a time: waiting proofs would hold a thread each

/-! ### Parts with the same tables -/

/-- Two parts have the same tables: connections, queue entries, records apart from SYNC OWED, Deny List and settings; and the
Downlink Queue of the second is within its bound where that of the first is. -/
structure State.SameTables (s t : State) : Prop where
  connections : t.connections = s.connections
  waitQueue : t.waitQueue = s.waitQueue
  records : ∀ h, (t.station h).map Station.settledFields = (s.station h).map Station.settledFields
  denyList : t.denyList = s.denyList
  policy : t.policy = s.policy
  answerPeriod : t.answerPeriod = s.answerPeriod
  rosterPeriod : t.rosterPeriod = s.rosterPeriod
  downlink : s.DownlinkLaw → t.DownlinkLaw

theorem State.SameTables.refl (s : State) : s.SameTables s := ⟨rfl, rfl, fun _ => rfl, rfl, rfl, rfl, rfl, id⟩

theorem State.SameTables.trans {s t u : State} (first : s.SameTables t) (second : t.SameTables u) : s.SameTables u where
  connections := second.connections.trans first.connections
  waitQueue := second.waitQueue.trans first.waitQueue
  records h := (second.records h).trans (first.records h)
  denyList := second.denyList.trans first.denyList
  policy := second.policy.trans first.policy
  answerPeriod := second.answerPeriod.trans first.answerPeriod
  rosterPeriod := second.rosterPeriod.trans first.rosterPeriod
  downlink := second.downlink ∘ first.downlink

/-- An update of other fields leaves the tables and the Downlink Queue as they are. -/
theorem State.SameTables.of_unchanged {s t : State} (connections : t.connections = s.connections := by rfl)
    (waitQueue : t.waitQueue = s.waitQueue := by rfl) (stations : t.stations = s.stations := by rfl)
    (denyList : t.denyList = s.denyList := by rfl) (policy : t.policy = s.policy := by rfl)
    (answerPeriod : t.answerPeriod = s.answerPeriod := by rfl)
    (rosterPeriod : t.rosterPeriod = s.rosterPeriod := by rfl)
    (held : t.downlink.held = s.downlink.held := by rfl) : s.SameTables t where
  connections := connections
  waitQueue := waitQueue
  records h := by simp only [State.station, stations]
  denyList := denyList
  policy := policy
  answerPeriod := answerPeriod
  rosterPeriod := rosterPeriod
  downlink law := by simpa only [State.DownlinkLaw, held] using law

theorem State.SameTables.connection {s t : State} (same : s.SameTables t) (i : Index) : t.connection i = s.connection i := by
  simp only [State.connection, same.connections]

theorem State.SameTables.classPolicy {s t : State} (same : s.SameTables t) (k : ClassNo) :
    t.classPolicy k = s.classPolicy k := by
  simp only [State.classPolicy, same.policy]

/-- A record of the second part stands in the first, the same apart from SYNC OWED. -/
theorem State.SameTables.station_of_some {s t : State} (same : s.SameTables t) {h : Handle} {x : Station}
    (there : t.station h = some x) : ∃ r, s.station h = some r ∧ x.settledFields = r.settledFields := by
  have alike := same.records h
  rw [there, Option.map_some, eq_comm, Option.map_eq_some_iff] at alike
  obtain ⟨r, here, fields⟩ := alike
  exact ⟨r, here, fields.symm⟩

theorem State.SameTables.symm_records {s t : State} (same : s.SameTables t) {h : Handle} {r : Station}
    (here : s.station h = some r) : ∃ x, t.station h = some x ∧ x.settledFields = r.settledFields := by
  have alike := same.records h
  rwa [here, Option.map_some, Option.map_eq_some_iff] at alike

theorem Station.state_of_settledFields {x r : Station} (fields : x.settledFields = r.settledFields) : x.state = r.state :=
  (congrArg Station.state fields : x.settledFields.state = r.settledFields.state)

theorem State.SameTables.admittedAt_iff {s t : State} (same : s.SameTables t) (h : Handle) :
    t.admittedAt h ↔ s.admittedAt h := by
  constructor
  · rintro ⟨x, there, admitted⟩
    obtain ⟨r, here, fields⟩ := same.station_of_some there
    exact ⟨r, here, (Station.state_of_settledFields fields).symm.trans admitted⟩
  · rintro ⟨r, here, admitted⟩
    obtain ⟨x, there, fields⟩ := same.symm_records here
    exact ⟨x, there, (Station.state_of_settledFields fields).trans admitted⟩

/-! ### PARTY COUNT (R22) -/

/-- The indices of the connections a station is party to. -/
def State.partyIndices (s : State) (h : Handle) : Finset Index := {i | (s.connection i).any (·.hasParty h) = true}

theorem State.mem_partyIndices_iff (s : State) (h : Handle) (i : Index) :
    i ∈ s.partyIndices h ↔ ∃ c, s.connection i = some c ∧ c.hasParty h = true := by
  simp [State.partyIndices, Option.any_eq_true]

theorem length_filter_filterMap {α β : Type} (f : α → Option β) (p : β → Bool) (list : List α) :
    ((list.filterMap f).filter p).length = (list.filter fun a => (f a).any p).length := by
  rw [List.filter_filterMap, List.length_filterMap_eq_countP, List.countP_eq_length_filter]
  refine congrArg List.length (List.filter_congr fun a _ => ?_)
  cases f a with
  | none => rfl
  | some b => simp [Option.filter]; split <;> simp_all

theorem State.partyCount_eq_card (s : State) (h : Handle) : s.partyCount h = (s.partyIndices h).card := by
  have nodup : allIndices.Nodup := List.nodup_finRange 32
  have listed : (allIndices.filter fun i => (s.connection i).any (·.hasParty h)).toFinset = s.partyIndices h := by
    ext i
    simp [State.partyIndices, allIndices]
  rw [State.partyCount, State.inUse, length_filter_filterMap, ← listed,
    List.toFinset_card_of_nodup (nodup.filter _)]

/-- PARTY COUNT does not grow where every connection of the station was one before. -/
theorem State.partyCount_le_of_subset {s t : State} {h : Handle} (subset : t.partyIndices h ⊆ s.partyIndices h) :
    t.partyCount h ≤ s.partyCount h := by
  rw [State.partyCount_eq_card, State.partyCount_eq_card]
  exact Finset.card_le_card subset

/-- A new record raises PARTY COUNT by one at most. -/
theorem State.partyCount_le_succ_of_subset {s t : State} {h : Handle} (i : Index)
    (subset : t.partyIndices h ⊆ insert i (s.partyIndices h)) : t.partyCount h ≤ s.partyCount h + 1 := by
  rw [State.partyCount_eq_card, State.partyCount_eq_card]
  exact (Finset.card_le_card subset).trans (Finset.card_insert_le ..)

/-! ### The changes -/

/-- No connection and no queue entry names the handle as a party. -/
structure State.Unnamed (s : State) (h : Handle) : Prop where
  connections : ∀ i c, s.connection i = some c → c.originator ≠ h ∧ c.answerer ≠ h
  entries : ∀ e ∈ s.waitQueue, e.source ≠ h ∧ e.peer ≠ h

/-- A connection of `a` with `b` of a width may be made: the two are different ADMITTED stations and the width is in the range
of a class or of PIN, or a queue entry asks for it. -/
def State.Asked (s : State) (a b : Handle) (width : Nat) : Prop :=
  (a ≠ b ∧ s.admittedAt a ∧ s.admittedAt b ∧ 1 ≤ width ∧ (width ≤ 8 ∨ ∃ k, width ≤ (s.classPolicy k).maxWidth)) ∨
    ∃ e ∈ s.waitQueue, e.source = a ∧ e.peer = b ∧ e.width = width

/-- The class record is in the ranges of R121. -/
structure GoodPolicy (p : Config.ClassPolicy) : Prop where
  lease : 1 ≤ p.leasePeriod ∧ p.leasePeriod ≤ 255
  maxWidth : 1 ≤ p.maxWidth ∧ p.maxWidth ≤ 8
  defaultQuota : 1 ≤ p.defaultQuota ∧ p.defaultQuota ≤ 16
  queuePeriod : p.queuePeriod ≤ 255

/-- Everything one change of the tables can be: what a command does to them is a run of these. -/
inductive State.Change (s : State) : State → Prop
  /-- The tables stay, and a message may be taken or dropped. -/
  | same {t : State} (same : s.SameTables t) : Change s t
  /-- A record changes and stays ADMITTED if it was. -/
  | record {h : Handle} {r x : Station} (here : s.station h = some r)
      (state : r.state = .admitted → x.state = .admitted) (quota : x.quota = r.quota ∨ 1 ≤ x.quota ∧ x.quota ≤ 16)
      (tier : x.tier = r.tier ∨ x.tier ≤ 4) : Change s (s.setStation h (some x))
  /-- A record that no connection and no entry names changes in any way. -/
  | unnamedRecord {h : Handle} {r x : Station} (here : s.station h = some r) (unnamed : s.Unnamed h)
      (quota : x.quota = r.quota) (tier : x.tier = r.tier) : Change s (s.setStation h (some x))
  /-- A record that no connection and no entry names goes. -/
  | departure {h : Handle} (unnamed : s.Unnamed h) : Change s (s.setStation h none)
  /-- A station is admitted at a free handle. -/
  | admission {h : Handle} {x : Station} (free : s.station h = none)
      (quota : ∃ k, x.quota = (s.classPolicy k).defaultQuota) (tier : x.tier ≤ 4) : Change s (s.setStation h (some x))
  /-- A connection changes its state, its countdown or its pinning. -/
  | connection {i : Index} {c d : Connection} (here : s.connection i = some c) (originator : d.originator = c.originator)
      (answerer : d.answerer = c.answerer) (width : d.width = c.width)
      (pinned : d.pinned = true → c.pinned = true) (active : c.state = .active → d.state = .active) :
      Change s (s.setConnection i (some d))
  /-- A connection goes. -/
  | removal (i : Index) : Change s (s.setConnection i none)
  /-- A connection is made between stations that are party to fewer than 8. -/
  | creation {i : Index} {c : Connection} (asked : s.Asked c.originator c.answerer c.width)
      (originator : s.partyCount c.originator < 8) (answerer : s.partyCount c.answerer < 8)
      (pinned : c.pinned = true → c.state = .active) : Change s (s.setConnection i (some c))
  /-- Queue entries go. -/
  | leaving {list : List Entry} (part : list.Sublist s.waitQueue) : Change s { s with waitQueue := list }
  /-- The countdown of a queue entry changes. -/
  | countdown {position : Nat} {e : Entry} (here : s.waitQueue[position]? = some e) (d : Countdown) :
      Change s { s with waitQueue := s.waitQueue.set position { e with countdown := d } }
  /-- A queue entry joins, with room for it or in the place of another. -/
  | joining {e : Entry} {list : List Entry} (part : list.Sublist s.waitQueue)
      (room : list.length < 16 ∨ list.length < s.waitQueue.length) (fresh : ∀ x ∈ list, x.source ≠ e.source)
      (asked : s.Asked e.source e.peer e.width) : Change s { s with waitQueue := insertEntry e list }
  /-- A number is listed. -/
  | listing {e : DenyEntry} (valid : validNumber e.number = true) (fresh : ∀ x ∈ s.denyList, x.number ≠ e.number)
      (room : s.denyList.length < 24) (hits : e.hits ≤ 255) : Change s { s with denyList := insertDeny e s.denyList }
  /-- Numbers are listed no more. -/
  | unlisting {list : List DenyEntry} (part : list.Sublist s.denyList) : Change s { s with denyList := list }
  /-- A listed number is hit. -/
  | hit (n : StationNumber) : Change s (s.hit n)
  /-- A class record is replaced. -/
  | policy {k : ClassNo} {p : Config.ClassPolicy} (good : GoodPolicy p) :
      Change s { s with policy := s.policy.set k p }
  /-- The timing settings are replaced. -/
  | timing {answer roster : Nat} (answers : 1 ≤ answer ∧ answer ≤ 15) (rosters : 1 ≤ roster ∧ roster ≤ 255) :
      Change s { s with answerPeriod := answer, rosterPeriod := roster }
  /-- The highway is closed: records, connections and entries go. -/
  | closing {t : State} (connections : ∀ i, t.connection i = none) (waitQueue : t.waitQueue = [])
      (stations : ∀ h, t.station h = none) (denyList : t.denyList = s.denyList) (policy : t.policy = s.policy)
      (answerPeriod : t.answerPeriod = s.answerPeriod) (rosterPeriod : t.rosterPeriod = s.rosterPeriod)
      (downlink : t.DownlinkLaw) : Change s t
  /-- Full reset is taken or released. -/
  | restart {t : State} (same : State.reset.SameTables t) : Change s t

end Sys2Proof.Machine
end

section
/-! The laws of the tables under each change (R20, R50, R51, R70, R113, R121, R122, R145). -/

namespace Sys2Proof.Machine

set_option Elab.async false -- one proof at a time: waiting proofs would hold a thread each

/-! ### Ordered insertion (R51, R113) -/

/-- An ordered list stays ordered when an element comes between those it may follow and those that may follow it. -/
theorem pairwise_insert {α : Type} {R : α → α → Prop} {p : α → Bool} {e : α} {list : List α} (ordered : list.Pairwise R)
    (before : ∀ x ∈ list.takeWhile p, R x e) (after : ∀ x ∈ list.dropWhile p, R e x) :
    (list.takeWhile p ++ e :: list.dropWhile p).Pairwise R := by
  rw [← List.takeWhile_append_dropWhile (p := p) (l := list), List.pairwise_append] at ordered
  obtain ⟨first, second, across⟩ := ordered
  refine List.pairwise_append.mpr ⟨first, List.pairwise_cons.mpr ⟨after, second⟩, fun x there y here => ?_⟩
  obtain rfl | here := List.mem_cons.mp here
  · exact before x there
  · exact across x there y here

/-- Where a property once lost stays lost, what `dropWhile` leaves has lost it. -/
theorem false_of_mem_dropWhile {α : Type} {p : α → Bool} {list : List α}
    (lost : list.Pairwise fun x y => p x = false → p y = false) {x : α} (left : x ∈ list.dropWhile p) : p x = false := by
  induction list with
  | nil => cases left
  | cons y rest ih =>
    obtain ⟨after, lost⟩ := List.pairwise_cons.mp lost
    rw [List.dropWhile_cons] at left
    split at left
    · exact ih lost left
    · rename_i false
      rw [Bool.not_eq_true] at false
      obtain rfl | there := List.mem_cons.mp left
      · exact false
      · exact after x there false

/-! ### The Deny List (R113) -/

/-- The Deny List law reads the Deny List alone. -/
theorem State.DenyLaw.of_denyList {s t : State} (law : s.DenyLaw) (same : t.denyList = s.denyList) : t.DenyLaw where
  atMost24 := same ▸ law.atMost24
  ascending := same ▸ law.ascending
  valid := same ▸ law.valid
  saturated := same ▸ law.saturated

theorem mem_insertDeny_iff (e x : DenyEntry) (list : List DenyEntry) : x ∈ insertDeny e list ↔ x = e ∨ x ∈ list := by
  unfold insertDeny
  rw [List.mem_append, List.mem_cons]
  conv_rhs => rw [← List.takeWhile_append_dropWhile (p := fun x => decide (x.number < e.number)) (l := list),
    List.mem_append]
  tauto

theorem length_insertDeny (e : DenyEntry) (list : List DenyEntry) : (insertDeny e list).length = list.length + 1 := by
  have parts := congrArg List.length
    (List.takeWhile_append_dropWhile (p := fun x : DenyEntry => decide (x.number < e.number)) (l := list))
  rw [List.length_append] at parts
  simp only [insertDeny, List.length_append, List.length_cons]
  omega

/-- A number that is not listed comes into an ascending list at its place (R113, R115). -/
theorem ascending_insertDeny {e : DenyEntry} {list : List DenyEntry}
    (ascending : list.Pairwise fun a b => a.number < b.number) (fresh : ∀ x ∈ list, x.number ≠ e.number) :
    (insertDeny e list).Pairwise fun a b => a.number < b.number := by
  refine pairwise_insert ascending (fun x taken => by simpa using List.mem_takeWhile_imp taken) fun x left => ?_
  have notBelow : decide (x.number < e.number) = false := by
    refine false_of_mem_dropWhile (ascending.imp fun {a b} below => ?_) left
    simp only [decide_eq_false_iff_not, BitVec.not_lt]
    exact fun above => BitVec.le_trans above (BitVec.le_of_lt below)
  have differ := fresh x ((List.dropWhile_sublist _).mem left)
  rw [decide_eq_false_iff_not] at notBelow
  bv_omega

theorem State.DenyLaw.listing {s : State} (law : s.DenyLaw) {e : DenyEntry} (valid : validNumber e.number = true)
    (fresh : ∀ x ∈ s.denyList, x.number ≠ e.number) (room : s.denyList.length < 24) (hits : e.hits ≤ 255) :
    State.DenyLaw { s with denyList := insertDeny e s.denyList } where
  atMost24 := by
    rw [length_insertDeny]
    omega
  ascending := ascending_insertDeny law.ascending fresh
  valid x there := ((mem_insertDeny_iff ..).mp there).elim (fun new => new ▸ valid) (law.valid x)
  saturated x there := ((mem_insertDeny_iff ..).mp there).elim (fun new => new ▸ hits) (law.saturated x)

theorem State.DenyLaw.unlisting {s : State} (law : s.DenyLaw) {list : List DenyEntry} (part : list.Sublist s.denyList) :
    State.DenyLaw { s with denyList := list } where
  atMost24 := part.length_le.trans law.atMost24
  ascending := law.ascending.sublist part
  valid e there := law.valid e (part.mem there)
  saturated e there := law.saturated e (part.mem there)

/-- A hit changes no number and keeps the count in its range (R114). -/
theorem State.DenyLaw.hit {s : State} (law : s.DenyLaw) (n : StationNumber) : (s.hit n).DenyLaw := by
  have number (e : DenyEntry) : (if e.number = n then { e with hits := min 255 (e.hits + 1) } else e).number = e.number := by
    split <;> rfl
  refine ⟨?_, ?_, fun e there => ?_, fun e there => ?_⟩
  · simpa [State.hit] using law.atMost24
  · simpa only [State.hit, List.pairwise_map, number] using law.ascending
  · obtain ⟨d, listed, rfl⟩ := List.mem_map.mp there
    rw [number]
    exact law.valid d listed
  · obtain ⟨d, listed, rfl⟩ := List.mem_map.mp there
    have := law.saturated d listed
    split
    · exact Nat.min_le_left ..
    · exact this

/-- Every change keeps the Deny List law. -/
theorem State.DenyLaw.change {s t : State} (law : s.DenyLaw) (change : s.Change t) : t.DenyLaw := by
  cases change with
  | same same => exact law.of_denyList same.denyList
  | closing _ _ _ denyList => exact law.of_denyList denyList
  | restart same => exact State.denyLaw_reset.of_denyList same.denyList
  | listing valid fresh room hits => exact law.listing valid fresh room hits
  | unlisting part => exact law.unlisting part
  | hit n => exact law.hit n
  | record | unnamedRecord | departure | admission | connection | removal | creation | leaving | countdown | joining
  | policy | timing => exact law.of_denyList rfl

/-! ### The Wait Queue (R50, R51) -/

/-- The Wait Queue law reads the Wait Queue alone. -/
theorem State.QueueLaw.of_waitQueue {s t : State} (law : s.QueueLaw) (same : t.waitQueue = s.waitQueue) : t.QueueLaw where
  atMost16 := same ▸ law.atMost16
  byClass := same ▸ law.byClass
  oneEach := same ▸ law.oneEach

theorem State.QueueLaw.leaving {s : State} (law : s.QueueLaw) {list : List Entry} (part : list.Sublist s.waitQueue) :
    State.QueueLaw { s with waitQueue := list } where
  atMost16 := part.length_le.trans law.atMost16
  byClass := law.byClass.sublist part
  oneEach := law.oneEach.sublist part

/-- A change of a countdown leaves what the order of the queue reads. -/
theorem State.QueueLaw.countdown {s : State} (law : s.QueueLaw) {position : Nat} {e : Entry}
    (here : s.waitQueue[position]? = some e) (d : Countdown) :
    State.QueueLaw { s with waitQueue := s.waitQueue.set position { e with countdown := d } } := by
  have order (f : Entry → ClassNo × Handle) (read : f { e with countdown := d } = f e) :
      (s.waitQueue.set position { e with countdown := d }).map f = s.waitQueue.map f := by
    rw [List.map_set, read]
    refine List.ext_getElem? fun k => ?_
    rw [List.getElem?_set]
    split
    · rename_i same
      subst same
      split <;> simp_all
    · rfl
  have read := order (fun x => (x.cls, x.source)) rfl
  have byClass : ((s.waitQueue.map fun x => (x.cls, x.source)).Pairwise fun a b => a.1 ≤ b.1) :=
    List.pairwise_map.mpr law.byClass
  have oneEach : ((s.waitQueue.map fun x => (x.cls, x.source)).Pairwise fun a b => a.2 ≠ b.2) :=
    List.pairwise_map.mpr law.oneEach
  rw [← read, List.pairwise_map] at byClass oneEach
  exact ⟨by simpa using law.atMost16, byClass, oneEach⟩

/-- An entry of a source that has none comes into the queue behind its class (R51). -/
theorem State.QueueLaw.joining {s : State} (law : s.QueueLaw) {e : Entry} {list : List Entry}
    (part : list.Sublist s.waitQueue) (room : list.length < 16 ∨ list.length < s.waitQueue.length)
    (fresh : ∀ x ∈ list, x.source ≠ e.source) : State.QueueLaw { s with waitQueue := insertEntry e list } := by
  have bound := law.atMost16
  refine ⟨?_, pairwise_insert (law.byClass.sublist part) (fun x taken => ?_) fun x left => ?_,
    pairwise_insert (law.oneEach.sublist part) (fun x taken => ?_) fun x left => ?_⟩
  · rw [length_insertEntry]
    omega
  · simpa using List.mem_takeWhile_imp taken
  · have above : decide (x.cls ≤ e.cls) = false := by
      refine false_of_mem_dropWhile ((law.byClass.sublist part).imp fun {a b} order => ?_) left
      simp only [decide_eq_false_iff_not, not_le]
      exact fun above => above.trans_le order
    exact (not_le.mp (of_decide_eq_false above)).le
  · exact fresh x ((List.takeWhile_sublist _).mem taken)
  · exact (fresh x ((List.dropWhile_sublist _).mem left)).symm

/-- Every change keeps the Wait Queue law. -/
theorem State.QueueLaw.change {s t : State} (law : s.QueueLaw) (change : s.Change t) : t.QueueLaw := by
  cases change with
  | same same => exact law.of_waitQueue same.waitQueue
  | closing _ waitQueue => exact State.queueLaw_reset.of_waitQueue waitQueue
  | restart same => exact State.queueLaw_reset.of_waitQueue same.waitQueue
  | leaving part => exact law.leaving part
  | countdown here d => exact law.countdown here d
  | joining part room fresh _ => exact law.joining part room fresh
  | record | unnamedRecord | departure | admission | connection | removal | creation | listing | unlisting | hit
  | policy | timing => exact law.of_waitQueue rfl

/-! ### The Downlink Queue (R145) -/

/-- Every change keeps the Downlink Queue within its bound. -/
theorem State.DownlinkLaw.change {s t : State} (law : s.DownlinkLaw) (change : s.Change t) : t.DownlinkLaw := by
  cases change with
  | same same => exact same.downlink law
  | closing _ _ _ _ _ _ _ downlink => exact downlink
  | restart same => exact same.downlink State.downlinkLaw_reset
  | record | unnamedRecord | departure | admission | connection | removal | creation | leaving | countdown | joining
  | listing | unlisting | hit | policy | timing => exact law

/-! ### Ranges (R20, R50, R70, R121, R122) -/

theorem Station.quota_of_settledFields {x r : Station} (fields : x.settledFields = r.settledFields) : x.quota = r.quota :=
  (congrArg Station.quota fields : x.settledFields.quota = r.settledFields.quota)

theorem Station.tier_of_settledFields {x r : Station} (fields : x.settledFields = r.settledFields) : x.tier = r.tier :=
  (congrArg Station.tier fields : x.settledFields.tier = r.settledFields.tier)

/-- The ranges are those of the tables. -/
theorem State.RangeLaw.of_sameTables {s t : State} (law : s.RangeLaw) (same : s.SameTables t) : t.RangeLaw where
  lease k := same.classPolicy k ▸ law.lease k
  maxWidth k := same.classPolicy k ▸ law.maxWidth k
  defaultQuota k := same.classPolicy k ▸ law.defaultQuota k
  queuePeriod k := same.classPolicy k ▸ law.queuePeriod k
  answer := same.answerPeriod ▸ law.answer
  roster := same.rosterPeriod ▸ law.roster
  connectionWidth i c here := law.connectionWidth i c (same.connection i ▸ here)
  entryWidth := same.waitQueue ▸ law.entryWidth
  quota h x there := by
    obtain ⟨r, here, fields⟩ := same.station_of_some there
    exact Station.quota_of_settledFields fields ▸ law.quota h r here
  tier h x there := by
    obtain ⟨r, here, fields⟩ := same.station_of_some there
    exact Station.tier_of_settledFields fields ▸ law.tier h r here

/-- A record comes, or goes, with its numbers in range. -/
theorem State.RangeLaw.setStation {s : State} (law : s.RangeLaw) {h : Handle} {o : Option Station}
    (quota : ∀ x, o = some x → 1 ≤ x.quota ∧ x.quota ≤ 16) (tier : ∀ x, o = some x → x.tier ≤ 4) :
    (s.setStation h o).RangeLaw :=
  { law with
    quota := fun k x there => by
      rw [State.station_setStation] at there
      split at there
      · exact quota x there
      · exact law.quota k x there
    tier := fun k x there => by
      rw [State.station_setStation] at there
      split at there
      · exact tier x there
      · exact law.tier k x there }

/-- A connection comes, or goes, with its width in range. -/
theorem State.RangeLaw.setConnection {s : State} (law : s.RangeLaw) {i : Index} {o : Option Connection}
    (width : ∀ c, o = some c → 1 ≤ c.width ∧ c.width ≤ 8) : (s.setConnection i o).RangeLaw :=
  { law with
    connectionWidth := fun j c there => by
      rw [State.connection_setConnection] at there
      split at there
      · exact width c there
      · exact law.connectionWidth j c there }

/-- The width that is asked for is in range (R20, R50). -/
theorem State.RangeLaw.width_of_asked {s : State} (law : s.RangeLaw) {a b : Handle} {width : Nat}
    (asked : s.Asked a b width) : 1 ≤ width ∧ width ≤ 8 := by
  obtain ⟨-, -, -, low, high | ⟨k, high⟩⟩ | ⟨e, queued, -, -, rfl⟩ := asked
  · exact ⟨low, high⟩
  · exact ⟨low, high.trans (law.maxWidth k).2⟩
  · exact law.entryWidth e queued

/-- A replaced class record leaves the ranges as they are where it is in range itself. -/
theorem State.RangeLaw.policy {s : State} (law : s.RangeLaw) {k : ClassNo} {p : Config.ClassPolicy} (good : GoodPolicy p) :
    State.RangeLaw { s with policy := s.policy.set k p } := by
  have policies (j : ClassNo) : GoodPolicy (State.classPolicy { s with policy := s.policy.set k p } j) := by
    simp only [State.classPolicy, Fin.getElem_fin, Vector.getElem_set]
    split
    · exact good
    · exact ⟨law.lease j, law.maxWidth j, law.defaultQuota j, law.queuePeriod j⟩
  exact { law with
    lease := fun j => (policies j).lease
    maxWidth := fun j => (policies j).maxWidth
    defaultQuota := fun j => (policies j).defaultQuota
    queuePeriod := fun j => (policies j).queuePeriod }

/-- Every change keeps the ranges. -/
theorem State.RangeLaw.change {s t : State} (law : s.RangeLaw) (change : s.Change t) : t.RangeLaw := by
  cases change with
  | same same => exact law.of_sameTables same
  | restart same => exact State.rangeLaw_reset.of_sameTables same
  | @record h r x here _ quota tier =>
    refine law.setStation (fun y new => ?_) fun y new => ?_
    · cases new
      exact quota.elim (fun same => same ▸ law.quota h r here) id
    · cases new
      exact tier.elim (fun same => same ▸ law.tier h r here) id
  | @unnamedRecord h r x here _ quota tier =>
    refine law.setStation (fun y new => ?_) fun y new => ?_
    · cases new
      exact quota ▸ law.quota h r here
    · cases new
      exact tier ▸ law.tier h r here
  | departure => exact law.setStation (fun _ new => nomatch new) fun _ new => nomatch new
  | admission _ quota tier =>
    obtain ⟨k, quota⟩ := quota
    refine law.setStation (fun y new => ?_) fun y new => ?_
    · cases new
      exact quota ▸ law.defaultQuota k
    · cases new
      exact tier
  | @connection i c d here _ _ width =>
    refine law.setConnection fun e new => ?_
    cases new
    exact width ▸ law.connectionWidth i c here
  | removal => exact law.setConnection fun _ new => nomatch new
  | creation asked =>
    refine law.setConnection fun e new => ?_
    cases new
    exact law.width_of_asked asked
  | leaving part => exact { law with entryWidth := fun e there => law.entryWidth e (part.mem there) }
  | @countdown position e here d =>
    refine { law with entryWidth := fun x there => ?_ }
    obtain old | rfl := List.mem_or_eq_of_mem_set there
    · exact law.entryWidth x old
    · exact law.entryWidth e (List.mem_of_getElem? here)
  | joining part _ _ asked =>
    refine { law with entryWidth := fun x there => ?_ }
    obtain rfl | old := (mem_insertEntry_iff ..).mp there
    · exact law.width_of_asked asked
    · exact law.entryWidth x (part.mem old)
  | policy good => exact law.policy good
  | timing answers rosters => exact { law with answer := answers, roster := rosters }
  | closing connections waitQueue stations _ policy answerPeriod rosterPeriod =>
    have policies (k : ClassNo) : t.classPolicy k = s.classPolicy k := by simp only [State.classPolicy, policy]
    exact
      { lease := fun k => policies k ▸ law.lease k
        maxWidth := fun k => policies k ▸ law.maxWidth k
        defaultQuota := fun k => policies k ▸ law.defaultQuota k
        queuePeriod := fun k => policies k ▸ law.queuePeriod k
        answer := answerPeriod ▸ law.answer
        roster := rosterPeriod ▸ law.roster
        connectionWidth := by simp [connections]
        entryWidth := by simp [waitQueue]
        quota := by simp [stations]
        tier := by simp [stations] }
  | listing | unlisting | hit => exact { law with }

/-! ### Parties (R20, R50) -/

/-- The party law passes to a part whose connections have their parties from a part in which it holds, whose entries do, and in
which the parties are still ADMITTED. -/
theorem State.PartyLaw.of_parts {s t : State} (law : s.PartyLaw)
    (connections : ∀ i d, t.connection i = some d → ∃ c, s.connection i = some c ∧ d.originator = c.originator ∧
      d.answerer = c.answerer ∧ (d.pinned = true → c.pinned = true) ∧ (c.state = .active → d.state = .active))
    (entries : ∀ e ∈ t.waitQueue, ∃ x ∈ s.waitQueue, e.source = x.source ∧ e.peer = x.peer)
    (admitted : ∀ h, s.Unnamed h ∨ (s.admittedAt h → t.admittedAt h)) : t.PartyLaw where
  parties i d there := by
    obtain ⟨c, here, originator, answerer, -⟩ := connections i d there
    obtain ⟨differ, first, second⟩ := law.parties i c here
    rw [originator, answerer]
    refine ⟨differ, (admitted _).elim (fun unnamed => ?_) fun kept => kept first,
      (admitted _).elim (fun unnamed => ?_) fun kept => kept second⟩
    · exact absurd rfl (unnamed.connections i c here).1
    · exact absurd rfl (unnamed.connections i c here).2
  entries e there := by
    obtain ⟨x, here, source, peer⟩ := entries e there
    obtain ⟨differ, first, second⟩ := law.entries x here
    rw [source, peer]
    refine ⟨differ, (admitted _).elim (fun unnamed => ?_) fun kept => kept first,
      (admitted _).elim (fun unnamed => ?_) fun kept => kept second⟩
    · exact absurd rfl (unnamed.entries x here).1
    · exact absurd rfl (unnamed.entries x here).2
  atMost8 h := by
    refine (State.partyCount_le_of_subset fun i there => ?_).trans (law.atMost8 h)
    obtain ⟨d, there, party⟩ := (t.mem_partyIndices_iff h i).mp there
    obtain ⟨c, here, originator, answerer, -⟩ := connections i d there
    refine (s.mem_partyIndices_iff h i).mpr ⟨c, here, ?_⟩
    simpa only [Connection.hasParty, originator, answerer] using party
  pinnedActive i d there pinned := by
    obtain ⟨c, here, -, -, unpinned, active⟩ := connections i d there
    exact active (law.pinnedActive i c here (unpinned pinned))

theorem State.PartyLaw.of_sameTables {s t : State} (law : s.PartyLaw) (same : s.SameTables t) : t.PartyLaw :=
  law.of_parts (fun i d there => ⟨d, same.connection i ▸ there, rfl, rfl, id, id⟩)
    (fun e there => ⟨e, same.waitQueue ▸ there, rfl, rfl⟩) fun h => .inr (same.admittedAt_iff h).mpr

/-- A record changes: the handle is named by no one, or still ADMITTED where it was. -/
theorem State.PartyLaw.setStation {s : State} (law : s.PartyLaw) {h : Handle} {o : Option Station}
    (admitted : s.Unnamed h ∨ (s.admittedAt h → ∃ x, o = some x ∧ x.state = .admitted)) : (s.setStation h o).PartyLaw := by
  refine law.of_parts (fun i d there => ⟨d, there, rfl, rfl, id, id⟩) (fun e there => ⟨e, there, rfl, rfl⟩) fun k => ?_
  by_cases same : h = k
  · subst same
    refine admitted.imp id fun kept here => ?_
    obtain ⟨x, new, state⟩ := kept here
    exact ⟨x, by simp [new], state⟩
  · refine .inr fun ⟨r, here, state⟩ => ⟨r, ?_, state⟩
    rw [State.station_setStation, if_neg same, here]

/-- Those who ask for a connection are different ADMITTED stations. -/
theorem State.PartyLaw.parties_of_asked {s : State} (law : s.PartyLaw) {a b : Handle} {width : Nat}
    (asked : s.Asked a b width) : a ≠ b ∧ s.admittedAt a ∧ s.admittedAt b := by
  obtain ⟨differ, first, second, -⟩ | ⟨e, queued, rfl, rfl, -⟩ := asked
  · exact ⟨differ, first, second⟩
  · exact law.entries e queued

/-- A new connection of two stations that are party to fewer than 8 keeps the party law (R20, R22). -/
theorem State.PartyLaw.creation {s : State} (law : s.PartyLaw) {i : Index} {c : Connection}
    (asked : s.Asked c.originator c.answerer c.width) (originator : s.partyCount c.originator < 8)
    (answerer : s.partyCount c.answerer < 8) (pinned : c.pinned = true → c.state = .active) :
    (s.setConnection i (some c)).PartyLaw where
  parties j d there := by
    rw [State.connection_setConnection] at there
    split at there
    · cases there
      exact law.parties_of_asked asked
    · exact law.parties j d there
  entries := law.entries
  atMost8 h := by
    have known (j : Index) (other : i ≠ j) (there : j ∈ (s.setConnection i (some c)).partyIndices h) :
        j ∈ s.partyIndices h := by
      rw [State.mem_partyIndices_iff] at there ⊢
      rwa [State.connection_setConnection, if_neg other] at there
    by_cases party : c.hasParty h = true
    · have fewer : s.partyCount h < 8 := by
        simp only [Connection.hasParty, Bool.or_eq_true, decide_eq_true_eq] at party
        exact party.elim (fun same => same ▸ originator) fun same => same ▸ answerer
      refine (State.partyCount_le_succ_of_subset i fun j there => ?_).trans fewer
      by_cases other : i = j
      · exact other ▸ Finset.mem_insert_self ..
      · exact Finset.mem_insert_of_mem (known j other there)
    · refine (State.partyCount_le_of_subset fun j there => known j ?_ there).trans (law.atMost8 h)
      rintro rfl
      obtain ⟨d, new, of⟩ := (State.mem_partyIndices_iff ..).mp there
      rw [State.connection_setConnection, if_pos rfl, Option.some.injEq] at new
      exact party (new ▸ of)
  pinnedActive j d there := by
    rw [State.connection_setConnection] at there
    split at there
    · cases there
      exact pinned
    · exact law.pinnedActive j d there

/-- Every change keeps the party law. -/
theorem State.PartyLaw.change {s t : State} (law : s.PartyLaw) (change : s.Change t) : t.PartyLaw := by
  cases change with
  | same same => exact law.of_sameTables same
  | restart same => exact State.partyLaw_reset.of_sameTables same
  | @record h r x here state =>
    refine law.setStation (.inr fun ⟨y, there, admitted⟩ => ⟨x, rfl, state ?_⟩)
    cases here ▸ there
    exact admitted
  | unnamedRecord _ unnamed => exact law.setStation (.inl unnamed)
  | departure unnamed => exact law.setStation (.inl unnamed)
  | admission free => exact law.setStation (.inr fun ⟨y, there, _⟩ => nomatch free ▸ there)
  | @connection i c d here originator answerer _ pinned active =>
    refine law.of_parts (fun j e there => ?_) (fun e there => ⟨e, there, rfl, rfl⟩) fun h => .inr id
    rw [State.connection_setConnection] at there
    split at there
    · rename_i same
      cases there
      exact ⟨c, same ▸ here, originator, answerer, pinned, active⟩
    · exact ⟨e, there, rfl, rfl, id, id⟩
  | removal i =>
    refine law.of_parts (fun j e there => ?_) (fun e there => ⟨e, there, rfl, rfl⟩) fun h => .inr id
    rw [State.connection_setConnection] at there
    split at there
    · cases there
    · exact ⟨e, there, rfl, rfl, id, id⟩
  | creation asked originator answerer pinned => exact law.creation asked originator answerer pinned
  | leaving part => exact { law with entries := fun e there => law.entries e (part.mem there) }
  | @countdown position e here d =>
    refine { law with entries := fun x there => ?_ }
    obtain old | rfl := List.mem_or_eq_of_mem_set there
    · exact law.entries x old
    · exact law.entries e (List.mem_of_getElem? here)
  | joining part _ _ asked =>
    refine { law with entries := fun x there => ?_ }
    obtain rfl | old := (mem_insertEntry_iff ..).mp there
    · exact law.parties_of_asked asked
    · exact law.entries x (part.mem old)
  | closing connections waitQueue =>
    refine ⟨by simp [connections], by simp [waitQueue], fun h => ?_, by simp [connections]⟩
    refine (State.partyCount_le_of_subset fun i there => ?_).trans (law.atMost8 h)
    simp [State.mem_partyIndices_iff, connections] at there
  | listing | unlisting | hit | policy | timing => exact { law with }

end Sys2Proof.Machine
end

section
/-! Runs of changes: messages, removal, placement, the service pass and the removal cascade. -/

namespace Sys2Proof.Machine

set_option Elab.async false -- one proof at a time: waiting proofs would hold a thread each

/-! ### Runs of changes -/

/-- The tables of the second part come from those of the first by a run of changes. -/
def State.Becomes : State → State → Prop := Relation.ReflTransGen State.Change

theorem State.Becomes.refl (s : State) : s.Becomes s := Relation.ReflTransGen.refl

theorem State.Becomes.trans {s t u : State} (first : s.Becomes t) (second : t.Becomes u) : s.Becomes u :=
  Relation.ReflTransGen.trans first second

theorem State.Change.becomes {s t : State} (change : s.Change t) : s.Becomes t := Relation.ReflTransGen.single change

theorem State.SameTables.becomes {s t : State} (same : s.SameTables t) : s.Becomes t := (State.Change.same same).becomes

/-- A run whose last part has the tables of the end. -/
theorem State.Becomes.same {s t u : State} (run : s.Becomes t) (same : t.SameTables u) : s.Becomes u := run.trans same.becomes

/-- A property that every change keeps is kept by a run of changes. -/
theorem State.Becomes.keeps {s t : State} (run : s.Becomes t) {P : State → Prop}
    (kept : ∀ u v : State, P u → u.Change v → P v) (start : P s) : P t := by
  induction run with
  | refl => exact start
  | tail _ change ih => exact kept _ _ ih change

/-- A walk whose every step is a run of changes is one. -/
theorem State.becomes_foldl {α : Type} (s : State) (f : State → α → State) (list : List α)
    (step : ∀ (t : State) (a : α), a ∈ list → t.Becomes (f t a)) : s.Becomes (list.foldl f s) := by
  induction list generalizing s with
  | nil => exact State.Becomes.refl s
  | cons a rest ih =>
    exact (step s a (List.mem_cons_self ..)).trans
      (ih _ fun t b there => step t b (List.mem_cons_of_mem _ there))

/-! ### Messages -/

theorem State.sameTables_raise (s : State) (f : Flag) : s.SameTables (s.raise f) := .of_unchanged

theorem State.sameTables_raiseIf (s : State) (b : Bool) (f : Flag) : s.SameTables (s.raiseIf b f) := by
  rw [State.raiseIf_eq]
  exact .of_unchanged

theorem State.sameTables_offer (s : State) (m : DownMessage) : s.SameTables (s.offer m) where
  connections := s.offer_connections m
  waitQueue := s.offer_waitQueue m
  records := s.settledFields_offer m
  denyList := s.offer_denyList m
  policy := s.offer_policy m
  answerPeriod := s.offer_answerPeriod m
  rosterPeriod := s.offer_rosterPeriod m
  downlink := s.offer_held_length m

theorem State.sameTables_tell (s : State) (h : Handle) (body : DownBody) : s.SameTables (s.tell h body) := by
  unfold State.tell
  split
  · exact s.sameTables_offer _
  · exact State.SameTables.refl s

theorem State.sameTables_tellOpt (s : State) (h : Handle) (body : Option DownBody) : s.SameTables (s.tellOpt h body) := by
  unfold State.tellOpt
  split
  · exact s.sameTables_tell ..
  · exact State.SameTables.refl s

theorem State.sameTables_refuseEntry (s : State) (e : Entry) (reason : Reason) : s.SameTables (s.refuseEntry e reason) :=
  s.sameTables_tell ..

theorem length_replaceWaiting (m : DownMessage) (list : List DownMessage) :
    (replaceWaiting m list).length = list.length := by
  induction list with
  | nil => rfl
  | cons x rest ih =>
    unfold replaceWaiting
    split
    · rfl
    · rw [List.length_cons, ih, List.length_cons]

/-- A broadcast keeps the Downlink Queue within its 40 entries (R145, R148). -/
theorem State.downlinkLaw_broadcast (s : State) (body : DownBody) (law : s.DownlinkLaw) : (s.broadcast body).DownlinkLaw := by
  have bound : s.downlink.held.length ≤ 40 := law
  simp only [State.broadcast]
  split
  · simp only [State.DownlinkLaw, List.length_append, length_replaceWaiting]
    rwa [← List.length_append, List.take_append_drop]
  split
  · rename_i room
    simp only [State.downlinkFree, Config.downlinkCapacity] at room
    simp only [State.DownlinkLaw, State.enqueue, List.length_append, List.length_singleton]
    omega
  · exact law

theorem State.sameTables_broadcast (s : State) (body : DownBody) : s.SameTables (s.broadcast body) where
  connections := s.broadcast_connections body
  waitQueue := s.broadcast_waitQueue body
  records h := by simp only [State.station, State.broadcast_stations]
  denyList := s.broadcast_denyList body
  policy := s.broadcast_policy body
  answerPeriod := s.broadcast_answerPeriod body
  rosterPeriod := s.broadcast_rosterPeriod body
  downlink := s.downlinkLaw_broadcast body

/-! ### Changes of one record -/

/-- A change of a record, if there is one, in what its state, its quota and its tier do not show. -/
theorem State.becomes_modifyStation (s : State) (h : Handle) (f : Station → Station)
    (state : ∀ r, r.state = .admitted → (f r).state = .admitted) (quota : ∀ r, (f r).quota = r.quota)
    (tier : ∀ r, (f r).tier = r.tier) : s.Becomes (s.modifyStation h f) := by
  unfold State.modifyStation
  cases here : s.station h with
  | none =>
    refine State.SameTables.becomes ⟨rfl, rfl, fun k => ?_, rfl, rfl, rfl, rfl, id⟩
    rw [Option.map_none, State.station_setStation]
    split
    · rename_i same
      rw [← same, here]
    · rfl
  | some r => exact (State.Change.record here (state r) (.inl (quota r)) (.inl (tier r))).becomes

/-- A connection changes its state, its countdown or its pinning, and a message may follow. -/
theorem State.becomes_setConnection {s t : State} {i : Index} {c : Connection} (d : Connection)
    (here : s.connection i = some c) (same : (s.setConnection i (some d)).SameTables t)
    (originator : d.originator = c.originator := by rfl) (answerer : d.answerer = c.answerer := by rfl)
    (width : d.width = c.width := by rfl) (pinned : d.pinned = true → c.pinned = true := by exact id)
    (active : c.state = .active → d.state = .active := by exact id) : s.Becomes t :=
  (State.Change.connection here originator answerer width pinned active).becomes.same same

/-! ### Removal and placement (R25, R27) -/

theorem State.becomes_removeConnection (s : State) (i : Index) (c : Connection) (a b : Option DownBody) :
    s.Becomes (s.removeConnection i c a b) := by
  have dropped : (s.setConnection i none).SameTables (s.dropConnection i c) := by
    rw [State.dropConnection_frame]
    exact .of_unchanged
  exact (State.Change.removal i).becomes.same
    ((dropped.trans (State.sameTables_tellOpt ..)).trans (State.sameTables_tellOpt ..))

theorem State.becomes_place {s : State} (i : Index) {c : Connection} (asked : s.Asked c.originator c.answerer c.width)
    (originator : s.partyCount c.originator < 8) (answerer : s.partyCount c.answerer < 8)
    (pinned : c.pinned = true → c.state = .active) : s.Becomes (s.place i c) := by
  have made : (s.setConnection i (some c)).SameTables ((s.reserveClaim i c.slotList).createConnection i c) := .of_unchanged
  exact (State.Change.creation asked originator answerer pinned).becomes.same (made.trans (State.sameTables_tell ..))

theorem State.becomes_removeEntry (s : State) (e : Entry) : s.Becomes (s.removeEntry e) :=
  (State.Change.leaving List.erase_sublist).becomes

/-! ### The service pass (R54, R55) -/

/-- An examination of an entry that stands in the queue. -/
theorem State.becomes_examine {s : State} {e : Entry} (queued : e ∈ s.waitQueue) : s.Becomes (s.examine e) := by
  obtain same | same | ⟨i, slots, -, source, peer, same⟩ := s.examine_cases e <;> rw [same]
  · exact State.Becomes.refl s
  · exact (s.becomes_removeEntry e).same (State.sameTables_refuseEntry ..)
  · let c := s.offeredRecord e.source e.peer e.cls e.contiguous e.width e.tag slots
    have made : s.Becomes (s.setConnection i (some c)) :=
      (State.Change.creation (.inr ⟨e, queued, rfl, rfl, rfl⟩) source peer fun pinned => (Bool.false_ne_true pinned).elim).becomes
    have claimed : ((s.setConnection i (some c)).removeEntry e).SameTables
        (((s.removeEntry e).reserveClaim i slots).createConnection i c) := .of_unchanged
    exact (made.trans (State.becomes_removeEntry _ e)).same (claimed.trans (State.sameTables_tell ..))

/-- An examination leaves the queue, or takes the entry out of it (R55). -/
theorem State.waitQueue_examine (s : State) (e : Entry) :
    (s.examine e).waitQueue = s.waitQueue ∨ (s.examine e).waitQueue = s.waitQueue.erase e := by
  obtain same | same | ⟨i, slots, -, -, -, same⟩ := s.examine_cases e <;> rw [same]
  · exact .inl rfl
  · exact .inr (State.refuseEntry_waitQueue ..)
  · exact .inr (State.place_waitQueue ..)

/-- A service pass examines entries that stand in the queue: what each examination of such an entry keeps, the pass keeps. -/
theorem State.servicePass_keeps_of_queued (s : State) (P : State → Prop)
    (examined : ∀ (t : State) (e : Entry), e ∈ t.waitQueue → P t → P (t.examine e)) (start : P s) : P s.servicePass := by
  have walk (list : List Entry) : ∀ t : State, List.Subperm list t.waitQueue → P t → P (list.foldl State.examine t) := by
    induction list with
    | nil => exact fun _ _ holds => holds
    | cons e rest ih =>
      intro t queued holds
      refine ih (t.examine e) ?_ (examined t e (queued.subset (List.mem_cons_self ..)) holds)
      obtain same | same := t.waitQueue_examine e <;> rw [same]
      · exact (List.sublist_cons_self e rest).subperm.trans queued
      · simpa using queued.erase e
  unfold State.servicePass
  split
  · exact walk _ s (List.Subperm.refl _) start
  · exact start

theorem State.becomes_servicePass (s : State) : s.Becomes s.servicePass :=
  s.servicePass_keeps_of_queued s.Becomes (fun _ _ queued run => run.trans (State.becomes_examine queued))
    (State.Becomes.refl s)

theorem State.becomes_servicePasses (s : State) (n : Nat) : s.Becomes (s.servicePasses n) :=
  s.servicePasses_keeps s.Becomes (fun t run => run.trans t.becomes_servicePass) n (State.Becomes.refl s)

/-! ### The walks of the cascade (R45, R60) -/

theorem State.becomes_cutConnection (s : State) (set : List Handle) (reason : Reason) (i : Index) :
    s.Becomes (s.cutConnection set reason i) := by
  unfold State.cutConnection
  split
  · exact State.Becomes.refl s
  · exact s.becomes_removeConnection ..

theorem State.becomes_cutEntry (s : State) (set : List Handle) (e : Entry) : s.Becomes (s.cutEntry set e) := by
  unfold State.cutEntry
  split
  · exact s.becomes_removeEntry e
  split
  · exact (s.becomes_removeEntry e).same (State.sameTables_refuseEntry ..)
  · exact State.Becomes.refl s

theorem State.connections_cutConnection (s : State) (set : List Handle) (reason : Reason) (i j : Index) :
    (s.cutConnection set reason i).connection j = if i = j then none else s.connection j := by
  cases here : s.connection i with
  | none =>
    simp only [State.cutConnection, here]
    split
    · rename_i same
      exact same ▸ here
    · rfl
  | some c =>
    have removed := (s.removeConnection_frame i c (if c.originator ∈ set then none else some (s.noticeToOriginator i c reason))
      (if c.answerer ∈ set then none else s.noticeToAnswerer i c reason)).2.1
    rw [State.cutConnection_of_some here, State.connection, removed]
    exact s.connection_setConnection i j none

/-- The walk of R45 takes exactly the connections with a party in the set. -/
theorem State.connection_cutConnections (s : State) (set : List Handle) (reason : Reason) (j : Index) :
    (s.cutConnections set reason).connection j = if j ∈ s.touching set then none else s.connection j := by
  have walk (list : List Index) : ∀ t : State, (list.foldl (State.cutConnection set reason) t).connection j =
      if j ∈ list then none else t.connection j := by
    induction list with
    | nil => exact fun _ => rfl
    | cons i rest ih =>
      intro t
      rw [List.foldl_cons, ih, State.connections_cutConnection]
      by_cases same : i = j
      · simp [same]
      · simp [same, Ne.symm same]
  exact walk _ s

/-- An entry whose source and peer both stay. -/
def Entry.staysBeside (set : List Handle) (e : Entry) : Bool := e.source ∉ set ∧ e.peer ∉ set

theorem State.waitQueue_cutEntry (s : State) (set : List Handle) (e : Entry) :
    (s.cutEntry set e).waitQueue = if e.staysBeside set then s.waitQueue else s.waitQueue.erase e := by
  unfold State.cutEntry
  by_cases source : e.source ∈ set
  · simp [Entry.staysBeside, source]
  · by_cases peer : e.peer ∈ set
    · simp [Entry.staysBeside, source, peer]
    · simp [Entry.staysBeside, source, peer]

/-- The walk of R60 leaves exactly the entries whose source and peer both stay, in their order. -/
theorem State.waitQueue_cutEntries (s : State) (set : List Handle) :
    (s.cutEntries set).waitQueue = s.waitQueue.filter (·.staysBeside set) := by
  have walk (list : List Entry) : ∀ (t : State) (kept : List Entry), (∀ e ∈ kept, e.staysBeside set = true) →
      t.waitQueue = kept ++ list →
      (list.foldl (State.cutEntry set) t).waitQueue = kept ++ list.filter (·.staysBeside set) := by
    induction list with
    | nil => exact fun t kept _ queue => queue
    | cons e rest ih =>
      intro t kept stays queue
      rw [List.foldl_cons]
      cases stay : e.staysBeside set with
      | true =>
        rw [List.filter_cons_of_pos stay, ih _ (kept ++ [e]) ?_ ?_, List.append_assoc, List.singleton_append]
        · intro x there
          obtain there | there := List.mem_append.mp there
          · exact stays x there
          · rwa [List.mem_singleton.mp there]
        · rw [State.waitQueue_cutEntry, if_pos stay, queue, List.append_assoc, List.singleton_append]
      | false =>
        have gone : e ∉ kept := fun there => by simp [stays e there] at stay
        rw [List.filter_cons_of_neg (by simp [stay]), ih _ kept stays]
        rw [State.waitQueue_cutEntry, if_neg (by simp [stay]), queue, List.erase_append_right _ gone, List.erase_cons_head]
  exact walk s.waitQueue s [] (fun _ there => nomatch there) rfl

theorem State.connections_cutEntries (s : State) (set : List Handle) : (s.cutEntries set).connections = s.connections :=
  (s.sameMap_foldl _ (fun t e => t.sameMap_cutEntry set e) _).connections

/-! ### The removal cascade (R83) -/

/-- The part once the walks of the cascade are done: no record has been deleted yet. -/
def State.cutOff (s : State) (set : List Handle) (reason : Reason) : State := (s.cutConnections set reason).cutEntries set

theorem State.becomes_cutOff (s : State) (set : List Handle) (reason : Reason) : s.Becomes (s.cutOff set reason) :=
  (s.becomes_foldl _ _ fun t i _ => t.becomes_cutConnection set reason i).trans
    (State.becomes_foldl _ _ _ fun t e _ => t.becomes_cutEntry set e)

theorem State.connection_cutOff (s : State) (set : List Handle) (reason : Reason) (j : Index) :
    (s.cutOff set reason).connection j = if j ∈ s.touching set then none else s.connection j := by
  rw [← s.connection_cutConnections set reason j, State.connection, State.cutOff, State.connections_cutEntries]
  rfl

theorem State.waitQueue_cutOff (s : State) (set : List Handle) (reason : Reason) :
    (s.cutOff set reason).waitQueue = s.waitQueue.filter (·.staysBeside set) := by
  rw [State.cutOff, State.waitQueue_cutEntries, State.waitQueue_cutConnections]

/-- After the walks of the cascade nothing names a station of the set. -/
theorem State.unnamed_cutOff (s : State) {set : List Handle} (reason : Reason) {h : Handle} (leaves : h ∈ set) :
    (s.cutOff set reason).Unnamed h where
  connections i c there := by
    rw [State.connection_cutOff] at there
    split at there
    · cases there
    · rename_i untouched
      rw [State.mem_touching_iff] at untouched
      have stays (party : c.originator ∈ set ∨ c.answerer ∈ set) : False := untouched ⟨c, there, party⟩
      exact ⟨fun same => stays (.inl (same ▸ leaves)), fun same => stays (.inr (same ▸ leaves))⟩
  entries e there := by
    rw [State.waitQueue_cutOff] at there
    obtain ⟨-, stays⟩ := List.mem_filter.mp there
    simp only [Entry.staysBeside, decide_eq_true_eq] at stays
    exact ⟨fun same => stays.1 (same ▸ leaves), fun same => stays.2 (same ▸ leaves)⟩

/-- A deletion names no one anew. -/
theorem State.Unnamed.deleteStations {s : State} {h : Handle} (unnamed : s.Unnamed h) (list : List Handle) :
    (s.deleteStations list).Unnamed h := by
  rw [State.deleteStations_eq]
  exact ⟨unnamed.connections, unnamed.entries⟩

theorem State.becomes_deleteStation {s : State} {h : Handle} (unnamed : s.Unnamed h) : s.Becomes (s.deleteStation h) :=
  (State.Change.departure unnamed).becomes.same .of_unchanged

theorem State.becomes_deleteStations {s : State} {list : List Handle} (unnamed : ∀ h ∈ list, s.Unnamed h) :
    s.Becomes (s.deleteStations list) := by
  unfold State.deleteStations
  induction list generalizing s with
  | nil => exact State.Becomes.refl s
  | cons h rest ih =>
    refine (State.becomes_deleteStation (unnamed h (List.mem_cons_self ..))).trans (ih fun k there => ?_)
    have named := unnamed k (List.mem_cons_of_mem _ there)
    exact ⟨named.connections, named.entries⟩

/-- The cascade is a run of changes where what the cause does is one, for which nothing names a station of the set (R83). -/
theorem State.becomes_cascade (s : State) {set deleted : List Handle} (reason : Reason) {after : State → State}
    (within : ∀ h ∈ deleted, h ∈ set) (cause : ∀ t : State, (∀ h ∈ set, t.Unnamed h) → t.Becomes (after t)) :
    s.Becomes (s.cascade set deleted reason after) := by
  have unnamed (h : Handle) (leaves : h ∈ set) := s.unnamed_cutOff reason leaves
  refine State.Becomes.trans ?_ (State.becomes_servicePasses _ _)
  refine State.Becomes.trans ?_ (cause _ fun h leaves => (unnamed h leaves).deleteStations deleted)
  exact (s.becomes_cutOff set reason).trans (State.becomes_deleteStations fun h leaves => unnamed h (within h leaves))

theorem State.becomes_shortenRoster (s : State) (h : Handle) (r : Station) : s.Becomes (s.shortenRoster h r) := by
  unfold State.shortenRoster
  split
  · exact State.Becomes.refl s
  · rename_i relay _
    exact (s.becomes_modifyStation relay (fun x => { x with roster := x.roster.map (·.filter (· != h)) }) (fun _ => id)
      (fun _ => rfl) fun _ => rfl).same .of_unchanged

theorem State.becomes_evictStation (s : State) (h : Handle) (r : Station) (reason : Reason) :
    s.Becomes (s.evictStation h r reason) :=
  s.becomes_cascade _ (fun _ => id) fun t _ => (t.becomes_shortenRoster h r).same (State.sameTables_offer ..)

end Sys2Proof.Machine
end

section
/-! Runs of changes: the boundary's walks and the station messages. -/

namespace Sys2Proof.Machine

set_option Elab.async false -- one proof at a time: waiting proofs would hold a thread each

/-! ### Walks and expiries (R36, R57, R107) -/

theorem State.becomes_walkConnections (s : State) (list : List Index) : s.Becomes (s.walkConnections list) := by
  induction list generalizing s with
  | nil => exact State.SameTables.becomes .of_unchanged
  | cons i rest ih =>
    simp only [State.walkConnections]
    split
    · exact ih s
    rename_i c here
    split
    · exact ih s
    rename_i d _
    split
    · have lowered := State.becomes_setConnection { c with countdown := some (s.lowered d) } here (State.SameTables.refl _)
      split
      · exact lowered.same .of_unchanged
      · exact lowered.trans (ih _)
    · exact ih s

theorem State.becomes_expireConnection (s : State) (i : Index) : s.Becomes (s.expireConnection i) := by
  unfold State.expireConnection
  split
  · exact State.Becomes.refl s
  split
  · exact (s.becomes_removeConnection ..).trans (State.becomes_servicePass _)
  · exact (s.becomes_removeConnection ..).trans (State.becomes_servicePass _)
  · exact State.Becomes.refl s

/-- A walk over the entries from a position to the end of the queue. -/
theorem State.becomes_walkEntries (s : State) (list : List Entry) (position : Nat)
    (ahead : list = s.waitQueue.drop position) : s.Becomes (s.walkEntries list position) := by
  induction list generalizing s position with
  | nil => exact State.SameTables.becomes .of_unchanged
  | cons e rest ih =>
    have here : s.waitQueue[position]? = some e := by rw [← List.head?_drop, ← ahead, List.head?_cons]
    have behind : rest = s.waitQueue.drop (position + 1) := by rw [← List.tail_drop, ← ahead, List.tail_cons]
    simp only [State.walkEntries]
    split
    · have lowered := (State.Change.countdown here (s.lowered e.countdown)).becomes
      split
      · exact lowered.same .of_unchanged
      · refine lowered.trans (ih _ _ ?_)
        rw [List.drop_set_of_lt (Nat.lt_succ_self position)]
        exact behind
    · exact ih s _ behind

theorem State.becomes_timeOutEntry (s : State) (position : Nat) : s.Becomes (s.timeOutEntry position) := by
  unfold State.timeOutEntry
  split
  · exact State.Becomes.refl s
  · exact ((State.Change.leaving (List.eraseIdx_sublist ..)).becomes.same (State.sameTables_refuseEntry ..)).same
      (State.sameTables_raise ..)

theorem State.becomes_walkRelays (s : State) (list : List Handle) : s.Becomes (s.walkRelays list) := by
  induction list generalizing s with
  | nil => exact State.SameTables.becomes .of_unchanged
  | cons h rest ih =>
    simp only [State.walkRelays]
    split
    · exact ih s
    rename_i r here
    split
    · exact ih s
    rename_i d _
    split
    · have lowered := (State.Change.record (x := { r with deadline := some (s.lowered d) }) here id (.inl rfl) (.inl rfl)).becomes
      split
      · exact lowered.same .of_unchanged
      · exact lowered.trans (ih _)
    · exact ih s

theorem State.becomes_expireRelay (s : State) (h : Handle) : s.Becomes (s.expireRelay h) := by
  unfold State.expireRelay
  split
  · exact State.Becomes.refl s
  · exact s.becomes_evictStation ..

theorem State.becomes_takeDue (s : State) : s.Becomes s.takeDue := by
  unfold State.takeDue
  split
  · exact State.Becomes.refl s
  · exact (s.becomes_expireConnection _).trans (State.becomes_walkConnections ..)
  · exact (s.becomes_timeOutEntry _).trans (State.becomes_walkEntries _ _ _ rfl)
  · exact (s.becomes_expireRelay _).trans (State.becomes_walkRelays ..)

theorem State.becomes_settled (s : State) : s.Becomes s.settled :=
  s.settled_keeps s.Becomes (fun t run => run.trans t.becomes_takeDue) (State.Becomes.refl s)

/-! ### Guard end (R15, R16) -/

theorem State.becomes_completeEarmark (s : State) (i : Index) : s.Becomes (s.completeEarmark i) := by
  unfold State.completeEarmark
  split
  · exact State.Becomes.refl s
  rename_i c here
  split
  · rename_i pending
    refine State.becomes_setConnection { c with state := .offered, countdown := some (s.countdownOf s.answerPeriod) } here ?_
      (active := fun active => nomatch pending.symm.trans active)
    exact State.SameTables.trans .of_unchanged (State.sameTables_tell ..)
  · exact State.Becomes.refl s

theorem State.becomes_takeGuardEnd (s : State) : s.Becomes s.takeGuardEnd := by
  have completed : s.Becomes ((s.completing (!s.timer.parity)).foldl State.completeEarmark
      (s.mapSlots fun _ r => r.guardEnded (!s.timer.parity))) :=
    State.Becomes.trans (State.SameTables.becomes .of_unchanged)
      (State.becomes_foldl _ _ _ fun t i _ => t.becomes_completeEarmark i)
  simp only [State.takeGuardEnd]
  split
  · exact completed.trans (State.becomes_servicePass _)
  · exact completed

theorem State.becomes_takeOwedGuardEnd (s : State) : s.Becomes s.takeOwedGuardEnd := by
  unfold State.takeOwedGuardEnd
  split
  · exact State.Becomes.trans (State.SameTables.becomes .of_unchanged) (State.becomes_takeGuardEnd _)
  · exact State.Becomes.refl s

theorem State.becomes_takeOwedLeaseWalk (s : State) : s.Becomes s.takeOwedLeaseWalk := by
  unfold State.takeOwedLeaseWalk
  split
  · exact State.Becomes.trans (State.SameTables.becomes .of_unchanged) (State.becomes_walkConnections ..)
  · exact State.Becomes.refl s

theorem State.becomes_takeOwedQueueWalk (s : State) : s.Becomes s.takeOwedQueueWalk := by
  unfold State.takeOwedQueueWalk
  split
  · exact State.Becomes.trans (State.SameTables.becomes .of_unchanged) (State.becomes_walkEntries _ _ _ rfl)
  · exact State.Becomes.refl s

theorem State.becomes_takeOwedRosterWalk (s : State) : s.Becomes s.takeOwedRosterWalk := by
  unfold State.takeOwedRosterWalk
  split
  · exact State.Becomes.trans (State.SameTables.becomes .of_unchanged) (State.becomes_walkRelays ..)
  · exact State.Becomes.refl s

/-! ### How an event carries a run of changes -/

theorem State.becomes_event (s : State) {f : State → State} (work : ∀ t : State, t.Becomes (f t)) : s.Becomes (s.event f) :=
  s.event_keeps s.Becomes (fun t run => run.trans t.becomes_takeDue) f (fun t run => run.trans (work t)) (State.Becomes.refl s)

theorem State.becomes_lineEvent (s : State) (change : Pins → Pins) {f : State → State}
    (work : ∀ t : State, t.Becomes (f t)) : s.Becomes (s.lineEvent change f) :=
  s.lineEvent_keeps s.Becomes (fun t run => run.trans t.becomes_takeDue) (fun _ _ run => run.same .of_unchanged) change f
    (fun t run => run.trans (work t)) (State.Becomes.refl s)

theorem State.becomes_message (s : State) (command : Instr) {f : State → State} (work : ∀ t : State, t.Becomes (f t)) :
    s.Becomes (s.message command f) :=
  s.message_keeps s.Becomes (fun t run => run.trans t.becomes_takeDue) (fun _ _ run => run.same .of_unchanged) command f
    (fun t run => run.trans (work t)) (State.Becomes.refl s)

/-- A station message other than ATTACH, its source with a record (R74). -/
theorem State.becomes_sourcedMessage (s : State) (command : Instr) (drop : Drop) (source : StationNumber)
    (tag : Option Tag) (reference : Option Reference) {owner : Handle → Station → State → State}
    (work : ∀ (t : State) (h : Handle) (r : Station), t.station h = some r → t.Becomes (owner h r t)) :
    s.Becomes (s.message command fun t => t.resolve drop source tag reference owner) := by
  refine s.becomes_message command fun t => ?_
  unfold State.resolve
  split
  · exact (t.sameTables_offer _).becomes
  rename_i h r found
  split
  · exact work t h r (t.station_of_lookup source h r found).1
  · exact (t.sameTables_offer _).becomes

/-- A station message that names a reference (R24). -/
theorem State.becomes_referenceMessage (s : State) (command : Instr) (drop : Drop) (source : StationNumber)
    (tag : Option Tag) (reference : Reference) {f : Connection → Role → Handle → State → State}
    (work : ∀ (t : State) c role h, t.connection reference.index = some c → t.Becomes (f c role h t)) :
    s.Becomes (s.message command fun t => t.resolve drop source tag (some reference) (State.onReference reference f)) :=
  s.becomes_sourcedMessage command drop source tag (some reference) fun t h r _ =>
    t.onReference_keeps t.Becomes (fun u k body run => run.same (u.sameTables_tell k body)) reference f
      (fun c role k here => work t c role k here) h r (State.Becomes.refl t)

theorem State.sameTables_refuseNamed (s : State) (h : Handle) (reference : Reference) (reason : Reason) :
    s.SameTables (s.refuseNamed h reference reason) := s.sameTables_tell ..

/-! ### REQUEST (R26 to R28) -/

/-- A request that is not refused passes the checks of R26. -/
theorem State.passes_of_requestRefusal_eq_none {s : State} {h : Handle} {r : Station} {peer : StationNumber}
    {cls : ClassNo} {width : Nat} (accepted : s.requestRefusal h r peer cls width = none) :
    ∃ p q, s.Passes h r peer p q cls width := by
  unfold State.requestRefusal at accepted
  split at accepted
  · cases accepted
  · cases accepted
  rename_i opened
  split at accepted
  · cases accepted
  rename_i ready
  split at accepted
  · cases accepted
  rename_i queued
  split at accepted
  · cases accepted
  rename_i notSelf
  split at accepted
  · cases accepted
  rename_i p q found
  split at accepted
  · cases accepted
  rename_i peerReady
  split at accepted
  · cases accepted
  rename_i goodClass
  split at accepted
  · cases accepted
  rename_i goodWidth
  split at accepted
  · cases accepted
  rename_i parties
  split at accepted
  · cases accepted
  rename_i quota
  refine ⟨p, q, opened, not_not.mp ready, ?_, notSelf, found, not_not.mp peerReady, not_lt.mp goodClass, by omega, ?_,
    not_lt.mp quota⟩
  · simpa [State.entryOf] using queued
  · simp only [Config.partyLimit] at parties
    omega

/-- A request that passes the checks asks for its connection. -/
theorem State.Passes.asked {s : State} {h p : Handle} {r q : Station} {peer : StationNumber} {cls : ClassNo} {width : Nat}
    (passes : s.Passes h r peer p q cls width) (here : s.station h = some r) : s.Asked h p width := by
  obtain ⟨there, number⟩ := s.station_of_lookup peer p q passes.found
  obtain ⟨low, high⟩ := passes.goodWidth
  refine .inl ⟨?_, ⟨r, here, passes.ready⟩, ⟨q, there, passes.peerReady⟩, low, .inr ⟨cls, high⟩⟩
  rintro rfl
  cases here ▸ there
  exact passes.notSelf number.symm

theorem State.becomes_refuseNoSlots (s : State) (e : Entry) : s.Becomes (s.refuseNoSlots e) :=
  ((s.sameTables_refuseEntry ..).trans (State.sameTables_raise ..)).becomes

/-- An entry of a source that has none joins the queue, displaces its tail, or is refused (R52, R53). -/
theorem State.becomes_joinQueue {s : State} {e : Entry} (fresh : ∀ x ∈ s.waitQueue, x.source ≠ e.source)
    (asked : s.Asked e.source e.peer e.width) : s.Becomes (s.joinQueue e) := by
  unfold State.joinQueue
  split
  · exact s.becomes_refuseNoSlots e
  split
  · rename_i room
    exact (State.Change.joining (List.Sublist.refl _) (.inl room) fresh asked).becomes.same (State.sameTables_tell ..)
  rename_i full
  split
  · exact s.becomes_refuseNoSlots e
  rename_i tail last
  split
  · have shorter : s.waitQueue.dropLast.length < s.waitQueue.length := by
      simp only [Config.queueCapacity] at full
      rw [List.length_dropLast]
      omega
    have part : s.waitQueue.dropLast.Sublist s.waitQueue := List.dropLast_sublist _
    let refused := (State.refuseEntry tail .queueDisplaced { s with waitQueue := s.waitQueue.dropLast }).raise .refusal
    have told : State.SameTables { s with waitQueue := s.waitQueue.dropLast } refused :=
      (State.sameTables_refuseEntry ..).trans (State.sameTables_raise ..)
    have joined : State.SameTables { s with waitQueue := insertEntry e s.waitQueue.dropLast }
        { refused with waitQueue := insertEntry e refused.waitQueue } :=
      { told with waitQueue := congrArg (insertEntry e) told.waitQueue }
    exact (State.Change.joining part (.inr shorter) (fun x there => fresh x (part.mem there)) asked).becomes.same
      (joined.trans (State.sameTables_tell ..))
  · exact s.becomes_refuseNoSlots e

theorem State.becomes_endVictims (s : State) (victims : List (Index × Connection)) : s.Becomes (s.endVictims victims) :=
  s.becomes_foldl _ _ fun _ v _ => (State.Change.removal v.1).becomes.same .of_unchanged

theorem State.sameTables_foldl {α : Type} (s : State) (f : State → α → State)
    (same : ∀ (t : State) (a : α), t.SameTables (f t a)) (list : List α) : s.SameTables (list.foldl f s) :=
  foldl_keeps s s.SameTables f (fun t a before => before.trans (same t a)) list (State.SameTables.refl s)

theorem State.sameTables_preemptMessages (s : State) (references : List (Reference × Connection)) (i : Index)
    (c : Connection) : s.SameTables (s.preemptMessages references i c) := by
  rw [State.preemptMessages_eq_offerAll]
  exact s.sameTables_foldl _ (fun t m => t.sameTables_offer m) _

@[simp] theorem State.originator_preemptRecord (s : State) (source peer : Handle) (cls : ClassNo) (width : Nat) (tag : Tag)
    (slots : List Nat) : (s.preemptRecord source peer cls width tag slots).originator = source := by
  simp only [State.preemptRecord, State.offeredRecord]
  split <;> rfl

@[simp] theorem State.pinned_preemptRecord (s : State) (source peer : Handle) (cls : ClassNo) (width : Nat) (tag : Tag)
    (slots : List Nat) : (s.preemptRecord source peer cls width tag slots).pinned = false := by
  simp only [State.preemptRecord, State.offeredRecord]
  split <;> rfl

/-- A pre-emption for a request that passes the checks (R66). -/
theorem State.becomes_preempt {s : State} (victims : List (Index × Connection)) {source peer : Handle} {width : Nat}
    (asked : s.Asked source peer width) (first : s.partyCount source < 8) (second : s.partyCount peer < 8) (cls : ClassNo)
    (tag : Tag) : s.Becomes (s.preempt victims source peer cls width tag) := by
  cases unused : (s.endVictims victims).unusedIndex with
  | none =>
    rw [State.preempt_of_full unused]
    exact State.Becomes.refl s
  | some i =>
    rw [State.preempt_of_unused unused]
    have fewer (h : Handle) : (s.endVictims victims).partyCount h ≤ s.partyCount h := by
      refine State.partyCount_le_of_subset fun j there => ?_
      rw [State.mem_partyIndices_iff] at there ⊢
      obtain ⟨c, there, party⟩ := there
      rw [State.connection_endVictims] at there
      split at there
      · cases there
      · exact ⟨c, there, party⟩
    have still : (s.endVictims victims).Asked source peer width := by
      rw [State.endVictims_frame]
      exact asked
    refine State.Becomes.same ?_ (State.sameTables_preemptMessages ..)
    refine (s.becomes_endVictims victims).trans
      (State.Becomes.same (State.Change.creation (i := i) ?_ ?_ ?_ ?_).becomes .of_unchanged)
    · simpa using still
    · simpa using (fewer source).trans_lt first
    · simpa using (fewer peer).trans_lt second
    · simp

theorem State.becomes_takeRequest (s : State) (peer : StationNumber) (cls : ClassNo) (contiguous : Bool) (width : Nat)
    (tag : Tag) {h : Handle} {r : Station} (here : s.station h = some r) :
    s.Becomes (s.takeRequest peer cls contiguous width tag h r) := by
  unfold State.takeRequest
  split
  · exact (s.sameTables_tell ..).becomes
  rename_i accepted
  obtain ⟨p, q, passes⟩ := State.passes_of_requestRefusal_eq_none accepted
  have asked := passes.asked here
  obtain ⟨first, second⟩ := passes.parties
  simp only [passes.found, State.serveRequest]
  split
  · exact State.becomes_place _ asked first second fun pinned => (Bool.false_ne_true pinned).elim
  have queued : s.Becomes (s.joinQueue (s.entryFor h peer p cls contiguous width tag)) :=
    State.becomes_joinQueue passes.notQueued asked
  simp only [State.handOn]
  split
  · split
    · exact (State.becomes_preempt _ asked first second cls tag).trans (State.becomes_servicePasses _ _)
    · exact queued
  · exact queued

/-! ### Messages that name a reference (R30 to R35) -/

theorem State.becomes_takeAccept (s : State) (reference : Reference) (c : Connection) (role : Role) (h : Handle)
    (here : s.connection reference.index = some c) : s.Becomes (s.takeAccept reference c role h) := by
  have refused (reason : Reason) := (s.sameTables_refuseNamed h reference reason).becomes
  unfold State.takeAccept
  split
  · exact refused _
  · refine State.becomes_setConnection
      { c with state := .active, countdown := some (s.countdownOf (s.classPolicy c.cls).leasePeriod) } here ?_
      (active := fun _ => rfl)
    exact State.SameTables.trans (State.SameTables.trans .of_unchanged (State.sameTables_tell ..)) (State.sameTables_tell ..)
  · exact refused _
  · exact refused _

theorem State.becomes_turnDown (s : State) (i : Index) (c : Connection) : s.Becomes (s.turnDown i c) :=
  (s.becomes_removeConnection ..).trans (State.becomes_servicePass _)

theorem State.becomes_takeDecline (s : State) (reference : Reference) (c : Connection) (role : Role) (h : Handle) :
    s.Becomes (s.takeDecline reference c role h) := by
  have refused (reason : Reason) := (s.sameTables_refuseNamed h reference reason).becomes
  unfold State.takeDecline
  split
  · exact refused _
  · exact s.becomes_turnDown ..
  · exact refused _
  · exact refused _

/-- A lease granted to a record that may have lost its pinning (R35, R40). -/
theorem State.becomes_grantLease {s : State} {i : Index} {c : Connection} (d : Connection)
    (here : s.connection i = some c) (originator : d.originator = c.originator := by rfl)
    (answerer : d.answerer = c.answerer := by rfl) (width : d.width = c.width := by rfl)
    (state : d.state = c.state := by rfl) (pinned : d.pinned = true → c.pinned = true := by exact id) :
    s.Becomes (s.grantLease i d) :=
  State.becomes_setConnection { d with countdown := some (s.countdownOf (s.classPolicy d.cls).leasePeriod) } here
    (State.SameTables.trans .of_unchanged (State.sameTables_tell ..)) originator answerer width pinned
    fun active => state.trans active

theorem State.becomes_takeRenew (s : State) (reference : Reference) (c : Connection) (role : Role) (h : Handle)
    (here : s.connection reference.index = some c) : s.Becomes (s.takeRenew reference c role h) := by
  unfold State.takeRenew
  split
  · exact (s.sameTables_refuseNamed ..).becomes
  · exact State.becomes_grantLease c here

theorem State.becomes_takeRelease (s : State) (reference : Reference) (c : Connection) (role : Role) (h : Handle) :
    s.Becomes (s.takeRelease reference c role h) := by
  have removed (a b : Option DownBody) :=
    (s.becomes_removeConnection reference.index c a b).trans (State.becomes_servicePass _)
  have refused (reason : Reason) := (s.sameTables_refuseNamed h reference reason).becomes
  simp only [State.takeRelease]
  split
  · exact removed ..
  · exact refused _
  · exact removed ..
  · exact s.becomes_turnDown ..
  · split
    · exact refused _
    · exact removed ..
  · split
    · exact refused _
    · exact removed ..

theorem State.sameTables_takeQuery (s : State) (h : Handle) (r : Station) : s.SameTables (s.takeQuery h r) :=
  (s.sameTables_foldl _ (fun t body => t.sameTables_tell h body) _).trans (State.sameTables_tell ..)

theorem State.becomes_takeCancel (s : State) (tag : Tag) (h : Handle) (r : Station) : s.Becomes (s.takeCancel tag h r) := by
  unfold State.takeCancel
  split
  · exact (s.sameTables_tell ..).becomes
  split
  · exact (s.sameTables_tell ..).becomes
  split
  · exact (s.becomes_removeEntry _).same (State.sameTables_tell ..)
  · exact (s.sameTables_tell ..).becomes

end Sys2Proof.Machine
end

section
/-! Runs of changes: the Directory, the rosters, the signalling channel and the Host Port. -/

namespace Sys2Proof.Machine

set_option Elab.async false -- one proof at a time: waiting proofs would hold a thread each

/-! ### The Directory (R76 to R82) -/

theorem State.becomes_addStation {s : State} {h : Handle} {x : Station} (free : s.station h = none)
    (quota : ∃ k, x.quota = (s.classPolicy k).defaultQuota) (tier : x.tier ≤ 4) : s.Becomes (s.addStation h x) :=
  (State.Change.admission free quota tier).becomes.same .of_unchanged

theorem State.becomes_admitByAttach (s : State) (drop : Drop) (number : StationNumber) (kind : StationKind)
    (cls : ClassNo) : s.Becomes (s.admitByAttach drop number kind cls) := by
  unfold State.admitByAttach
  split
  · exact State.Becomes.refl s
  · rename_i h free
    exact (State.becomes_addStation ((s.freeHandle_eq_some_iff h).mp free).1 ⟨cls, rfl⟩ (Nat.zero_le _)).same
      (State.sameTables_offer ..)

theorem State.becomes_departWithSubtree (s : State) (h : Handle) (r : Station) : s.Becomes (s.departWithSubtree h r) :=
  s.becomes_cascade _ (fun _ => id) fun t _ => State.Becomes.refl t

theorem State.becomes_takeAttach (s : State) (drop : Drop) (number : StationNumber) (kind : StationKind) (cls : ClassNo) :
    s.Becomes (s.takeAttach drop number kind cls) := by
  unfold State.takeAttach
  split
  · refine State.Becomes.same ?_ (State.sameTables_offer ..)
    split
    · exact (State.Change.hit number).becomes.same (State.sameTables_raise ..)
    · exact State.Becomes.refl s
  split
  · exact (s.becomes_departWithSubtree ..).trans (State.becomes_admitByAttach ..)
  · exact s.becomes_admitByAttach ..

theorem State.becomes_takeDetach (s : State) (h : Handle) (r : Station) : s.Becomes (s.takeDetach h r) := by
  unfold State.takeDetach
  split
  · exact s.becomes_departWithSubtree h r
  · exact (s.sameTables_tell ..).becomes

theorem State.becomes_losePresence (s : State) (drop : Drop) : s.Becomes (s.losePresence drop) :=
  s.becomes_cascade _ (fun _ => id) fun t _ => State.Becomes.refl t

/-! ### Rosters (R92 to R106) -/

theorem State.becomes_fromTopRelay (s : State) {f : Handle → Station → State → State} {h : Handle} {r : Station}
    (work : s.Becomes (f h r s)) : s.Becomes (s.fromTopRelay f h r) := by
  unfold State.fromTopRelay
  split
  · exact work
  · exact (s.sameTables_tell ..).becomes

theorem State.sameTables_rejectRoster (s : State) (h : Handle) (generation : Byte) (reason : Reason) :
    s.SameTables (s.rejectRoster h generation reason) := (s.sameTables_tell ..).trans (State.sameTables_raise ..)

theorem State.sameTables_setAssembly (s : State) (h : Handle) (a : Option Assembly) : s.SameTables (s.setAssembly h a) :=
  .of_unchanged

/-- A relay that no connection and no entry names stands in ROSTER_FAULT (R105). -/
theorem State.becomes_faultRelay {s : State} {h : Handle} (unnamed : s.Unnamed h) (r : Station) (generation : Byte)
    (reason : Reason) : s.Becomes (s.faultRelay h r generation reason) := by
  unfold State.faultRelay State.modifyStation
  cases here : s.station h with
  | none =>
    exact ((State.Change.departure unnamed).becomes.same .of_unchanged).same (State.sameTables_rejectRoster ..)
  | some x =>
    let fault : Station :=
      { x with state := .rosterFault, roster := some [], generation := none, deadline := some (s.countdownOf s.rosterPeriod) }
    exact ((State.Change.unnamedRecord (x := fault) here unnamed rfl rfl).becomes.same .of_unchanged).same
      (State.sameTables_rejectRoster ..)

theorem State.becomes_rejectContent (s : State) (h : Handle) (r : Station) (generation : Byte) (reason : Reason) :
    s.Becomes (s.rejectContent h r generation reason) :=
  (s.sameTables_setAssembly h none).becomes.trans
    (State.becomes_cascade _ _ (fun _ => List.mem_cons_of_mem h) fun _ unnamed =>
      State.becomes_faultRelay (unnamed h (List.mem_cons_self ..)) r generation reason)

theorem State.becomes_beginRoster (s : State) (generation : Byte) (count depth : Nat) (depthExceeded countExceeded : Bool)
    (h : Handle) (r : Station) : s.Becomes (s.beginRoster generation count depth depthExceeded countExceeded h r) := by
  unfold State.beginRoster
  split
  · exact s.becomes_rejectContent ..
  split
  · exact s.becomes_rejectContent ..
  · exact (s.sameTables_setAssembly ..).becomes

theorem State.becomes_partRoster (s : State) (partIndex : Nat) (entries : List RosterEntry) (h : Handle) (r : Station) :
    s.Becomes (s.partRoster partIndex entries h r) := by
  unfold State.partRoster
  split
  · exact (s.sameTables_tell ..).becomes
  split
  · exact ((s.sameTables_setAssembly ..).trans (State.sameTables_rejectRoster ..)).becomes
  split
  · exact s.becomes_rejectContent ..
  · exact (s.sameTables_setAssembly ..).becomes

/-- The tiers of a roster that passes check 3 of R99 are in range (R70). -/
theorem tier_le_of_tiersGood {depth : Nat} {entries : List RosterEntry} (good : tiersGood depth entries = true)
    {e : RosterEntry} (listed : e ∈ entries) : e.tier.val ≤ 4 := by
  simp only [tiersGood, Bool.and_eq_true, List.all_eq_true, decide_eq_true_eq] at good
  obtain ⟨-, high⟩ := good.1 e listed
  split at high <;> omega

theorem State.tiersGood_of_rosterRefusal_eq_none {s : State} {h : Handle} {r : Station} {a : Assembly}
    (accepted : s.rosterRefusal h r a = none) : tiersGood a.declaredDepth a.entries = true := by
  unfold State.rosterRefusal at accepted
  split at accepted
  · cases accepted
  split at accepted
  · cases accepted
  split at accepted
  · cases accepted
  · rename_i good
    simpa using good

theorem State.becomes_keepEntry (s : State) (relay : Handle) {e : RosterEntry} (tier : e.tier.val ≤ 4) :
    s.Becomes (s.keepEntry relay e) := by
  unfold State.keepEntry
  split
  · exact State.Becomes.refl s
  rename_i k x found
  split
  · have here := (s.station_of_lookup _ k x found).1
    exact (State.Change.record (x := { x with kind := e.kind, tier := e.tier.val }) here id (.inl rfl)
      (.inr tier)).becomes.same .of_unchanged
  · exact State.Becomes.refl s

theorem State.becomes_admitEntry (s : State) (relay : Handle) (r : Station) {e : RosterEntry} (tier : e.tier.val ≤ 4) :
    s.Becomes (s.admitEntry relay r e) := by
  unfold State.admitEntry
  split
  · exact State.Becomes.refl s
  · rename_i k free
    exact State.becomes_addStation ((s.freeHandle_eq_some_iff k).mp free).1 ⟨r.cls, rfl⟩ tier

theorem State.becomes_acceptRelay (s : State) (h : Handle) (r : Station) (a : Assembly) :
    s.Becomes (s.acceptRelay h r a) := by
  have changed := s.becomes_modifyStation h (fun x => { x with
    state := .admitted
    roster := some (a.entries.filterMap fun e => (s.lookup e.number).map (·.1))
    generation := some a.generation
    deadline := none }) (fun _ _ => rfl) (fun _ => rfl) fun _ => rfl
  exact changed.same .of_unchanged

theorem State.becomes_acceptRoster (s : State) (h : Handle) (r : Station) (a : Assembly)
    (accepted : s.rosterRefusal h r a = none) : s.Becomes (s.acceptRoster h r a) := by
  have tiers (e : RosterEntry) (listed : e ∈ a.entries) : e.tier.val ≤ 4 :=
    tier_le_of_tiersGood (State.tiersGood_of_rosterRefusal_eq_none accepted) listed
  unfold State.acceptRoster
  refine s.becomes_cascade _ (fun _ => id) fun t _ => ?_
  have kept := t.becomes_foldl (State.keepEntry h) a.entries fun u e listed => u.becomes_keepEntry h (tiers e listed)
  have admitted := kept.trans (State.becomes_foldl _ (State.admitEntry h r) (s.newEntries a.entries) fun u e new =>
    u.becomes_admitEntry h r (tiers e (List.mem_filter.mp new).1))
  exact (admitted.trans (State.becomes_acceptRelay _ h r a)).same
    ((State.sameTables_tell ..).trans (State.sameTables_raise ..))

theorem State.becomes_hitEntries (s : State) (entries : List RosterEntry) : s.Becomes (s.hitEntries entries) :=
  (s.becomes_foldl _ _ fun _ e _ => (State.Change.hit e.number).becomes).same (State.sameTables_raise ..)

theorem State.becomes_endRoster (s : State) (generation : Byte) (h : Handle) (r : Station) :
    s.Becomes (s.endRoster generation h r) := by
  unfold State.endRoster
  split
  · exact (s.sameTables_rejectRoster ..).becomes
  split
  · exact ((s.sameTables_setAssembly ..).trans (State.sameTables_rejectRoster ..)).becomes
  split
  · rename_i accepted
    exact s.becomes_acceptRoster h r _ accepted
  · refine State.Becomes.trans ?_ (State.becomes_rejectContent ..)
    split
    · exact s.becomes_hitEntries _
    · exact State.Becomes.refl s

/-! ### The signalling channel and the frame (R137 to R151) -/

theorem State.sameTables_considerGrant (s : State) : s.SameTables s.considerGrant := by
  unfold State.considerGrant
  split <;> exact .of_unchanged

theorem State.sameTables_closeWindow (s : State) : s.SameTables s.closeWindow := .of_unchanged

theorem State.sameTables_makeNak (s : State) (d : Drop) (reason : Reason) (kind : BitVec 6) :
    s.SameTables (s.makeNak d reason kind) := (s.sameTables_offer _).trans (State.sameTables_raise ..)

theorem State.sameTables_judgeHeader (s : State) (d : Drop) (word : Word) : s.SameTables (s.judgeHeader d word) := by
  simp only [State.judgeHeader]
  split
  · exact s.sameTables_closeWindow
  split
  · exact .of_unchanged
  · exact s.sameTables_closeWindow.trans (State.sameTables_makeNak ..)

theorem State.sameTables_takeWord (s : State) (d : Drop) (expected : Nat) (words : List Word) (word : Word) :
    s.SameTables (s.takeWord d expected words word) := by
  simp only [State.takeWord, State.judgeMessage]
  split
  · split
    · split
      · exact .of_unchanged
      · exact s.sameTables_closeWindow.trans (State.sameTables_makeNak ..)
    · exact s.sameTables_closeWindow.trans (State.sameTables_makeNak ..)
  · exact .of_unchanged

theorem State.sameTables_issueSync (s : State) : s.SameTables s.issueSync := by
  unfold State.issueSync
  split
  · rename_i h _
    split
    · rename_i room
      refine ⟨rfl, rfl, fun k => ?_, rfl, rfl, rfl, rfl, fun _ => ?_⟩
      · rw [State.station_modifyStation]
        split
        · rename_i same
          subst same
          rw [Option.map_map]
          rfl
        · rfl
      · simp only [State.downlinkFree, Config.downlinkCapacity, Config.downlinkAdmission] at room
        simp only [State.DownlinkLaw, State.modifyStation_downlink, State.enqueue, List.length_append,
          List.length_singleton]
        omega
    · exact State.SameTables.refl s
  · exact State.SameTables.refl s

theorem State.sameTables_depart (s : State) : s.SameTables s.depart := by
  unfold State.depart
  refine State.SameTables.trans ?_ (State.sameTables_issueSync _)
  exact ⟨rfl, rfl, fun _ => rfl, rfl, rfl, rfl, rfl, fun law => (List.tail_sublist _).length_le.trans law⟩

theorem State.sameTables_chooseWord (s : State) : s.SameTables s.chooseWord := by
  unfold State.chooseWord
  split <;> exact .of_unchanged

theorem State.sameTables_startFrame (s : State) : s.SameTables s.startFrame := by
  unfold State.startFrame
  refine State.SameTables.trans ?_ (State.sameTables_chooseWord _)
  exact .of_unchanged

theorem State.becomes_finishFrame (s : State) : s.Becomes s.finishFrame := by
  have departed : s.Becomes (if s.settled.departureDue then s.settled.depart else s.settled) := by
    split
    · exact s.becomes_settled.same (State.sameTables_depart _)
    · exact s.becomes_settled
  exact ((((((departed.trans (State.becomes_takeOwedGuardEnd _)).trans (State.becomes_takeOwedLeaseWalk _)).trans
    (State.becomes_settled _)).trans (State.becomes_takeOwedQueueWalk _)).trans (State.becomes_settled _)).trans
      (State.becomes_takeOwedRosterWalk _)).trans (State.becomes_settled _)

/-! ### Full reset (R166) -/

theorem State.becomes_enterReset (s : State) (h : Hold) : s.Becomes (s.enterReset h) := by
  have held : (s.enterReset h).DownlinkLaw := Nat.le_of_ble_eq_true rfl
  have cleared : State.reset.SameTables (s.enterReset h) := ⟨rfl, rfl, fun _ => rfl, rfl, rfl, rfl, rfl, fun _ => held⟩
  exact (State.Change.restart cleared).becomes

theorem State.becomes_release_startFrame (s : State) : s.Becomes s.release.startFrame := by
  have released : State.reset.SameTables s.release := .of_unchanged
  exact (State.Change.restart (released.trans (State.sameTables_startFrame _))).becomes

theorem State.becomes_endCause (s : State) (left : Hold) : s.Becomes (s.endCause left) := by
  unfold State.endCause
  split
  · exact State.SameTables.becomes .of_unchanged
  · exact s.becomes_release_startFrame

/-! ### The Host Port (R167 to R174) -/

theorem State.sameTables_takeAddress (s : State) (byte : Byte) : s.SameTables (s.takeAddress byte) := by
  obtain ⟨-, same⟩ | ⟨-, _, -, same⟩ | ⟨-, same⟩ := s.takeAddress_cases byte <;> rw [same] <;> exact .of_unchanged

theorem State.sameTables_writeLocation (s : State) (a : BitVec 6) (value : Byte) :
    s.SameTables (s.writeLocation a value) := by
  unfold State.writeLocation
  split
  · unfold State.writeCommand
    split
    · split <;> exact .of_unchanged
    · exact .of_unchanged
  · repeat' split
    all_goals exact .of_unchanged

theorem State.sameTables_dataByte (s : State) (value : Byte) : s.SameTables (s.dataByte value) := by
  obtain ⟨a, -, same⟩ | ⟨a, -, same⟩ | ⟨a, -, same⟩ | ⟨-, -, same⟩ := s.dataByte_cases value <;> rw [same]
  · refine State.SameTables.trans ?_ (State.sameTables_writeLocation ..)
    exact .of_unchanged
  · exact .of_unchanged
  · exact .of_unchanged
  · exact State.SameTables.refl s

theorem State.sameTables_firstByte (s : State) (address value : Byte) : s.SameTables (s.firstByte address value) := by
  have selected : s.SameTables s.select := .of_unchanged
  exact (selected.trans (State.sameTables_takeAddress ..)).trans (State.sameTables_dataByte ..)

theorem State.becomes_hostCommand (s : State) (code : Byte) {take : State → State} (work : ∀ t : State, t.Becomes (take t)) :
    s.Becomes (s.hostCommand code take) :=
  s.hostCommand_keeps s.Becomes (fun t run => run.trans t.becomes_takeDue)
    (fun t _ _ run => run.same (t.sameTables_firstByte ..)) code take (fun t run => run.trans (work t)) (State.Becomes.refl s)

theorem State.becomes_runCommand (s : State) (code : Byte) {work : State → Work}
    (done : ∀ t : State, t.Becomes (work t).part) : s.Becomes (s.hostCommand code (State.runCommand work)) :=
  s.becomes_hostCommand code fun t => (done t).same .of_unchanged

theorem State.becomes_readCommand (s : State) (code : Byte) {work : State → Work} (reads : ∀ t, (work t).part = t) :
    s.Becomes (s.hostCommand code (State.runCommand work)) :=
  s.becomes_runCommand code fun t => by
    rw [reads t]
    exact State.Becomes.refl t

/-! ### Highway commands (R157 to R163) -/

theorem State.becomes_openWork (s : State) : s.Becomes s.openWork.part := by
  have opened : s.Becomes (State.broadcast (.highwayState .opened) { s with highway := .opened }) :=
    (State.SameTables.becomes .of_unchanged).same (State.sameTables_broadcast ..)
  unfold State.openWork
  split
  · exact State.Becomes.refl s
  · exact opened
  · exact opened

theorem State.becomes_drainConnections (s : State) : s.Becomes s.drainConnections := by
  unfold State.drainConnections
  split
  · exact (s.sameTables_raiseIf ..).becomes
  · refine s.becomes_foldl _ _ fun t i _ => ?_
    unfold State.drainConnection
    split
    · exact State.Becomes.refl t
    split
    · exact State.Becomes.refl t
    · exact t.becomes_removeConnection ..

theorem State.becomes_drainEntries (s : State) : s.Becomes s.drainEntries :=
  s.becomes_foldl _ _ fun t e _ => (t.becomes_removeEntry e).same (State.sameTables_refuseEntry ..)

theorem State.becomes_drainWork (s : State) (waitQueueFirst : Bool) : s.Becomes (s.drainWork waitQueueFirst).part := by
  unfold State.drainWork
  split
  · exact State.Becomes.refl s
  · exact State.Becomes.refl s
  · have told : s.Becomes (State.broadcast (.highwayState .draining) { s with highway := .draining }) :=
      (State.SameTables.becomes .of_unchanged).same (State.sameTables_broadcast ..)
    cases waitQueueFirst
    · exact (told.trans (State.becomes_drainConnections _)).trans (State.becomes_drainEntries _)
    · exact (told.trans (State.becomes_drainEntries _)).trans (State.becomes_drainConnections _)

theorem State.becomes_closeWork (s : State) : s.Becomes s.closeWork.part := by
  change s.Becomes (State.raiseIf (s.connectionCount != 0) .lease (State.raiseIf (s.stationCount != 0) .left _))
  refine (State.Becomes.same ?_ (State.sameTables_raiseIf ..)).same (State.sameTables_raiseIf ..)
  refine State.Change.becomes ?_
  exact .closing State.reset_connection rfl State.reset_station rfl rfl rfl rfl (Nat.le_of_ble_eq_true rfl)

/-! ### Commands that administer (R39 to R41, R86, R88, R115 to R129) -/

theorem State.becomes_evictNumber (s : State) (n : StationNumber) (reason : Reason) : s.Becomes (s.evictNumber n reason) := by
  unfold State.evictNumber
  split
  · exact s.becomes_evictStation ..
  · exact State.Becomes.refl s

theorem State.becomes_denyAddWork (s : State) : s.Becomes s.denyAddWork.part := by
  simp only [State.denyAddWork]
  split
  · exact State.Becomes.refl s
  rename_i valid
  split
  · exact State.Becomes.refl s
  rename_i fresh
  split
  · exact State.Becomes.refl s
  rename_i room
  refine (State.Change.listing (e := ⟨s.argNumber, s.arg 4, 0⟩) ?_ ?_ ?_ (Nat.zero_le _)).becomes.trans
    (State.becomes_evictNumber ..)
  · simpa using valid
  · simpa [State.listed] using fresh
  · exact not_le.mp room

theorem State.becomes_denyRemoveWork (s : State) : s.Becomes s.denyRemoveWork.part := by
  simp only [State.denyRemoveWork]
  split
  · exact State.Becomes.refl s
  · exact (State.Change.unlisting List.erase_sublist).becomes

theorem State.becomes_evictWork (s : State) : s.Becomes s.evictWork.part := by
  unfold State.evictWork
  split
  · exact State.Becomes.refl s
  · exact s.becomes_evictStation ..

theorem State.becomes_setQuotaWork (s : State) : s.Becomes s.setQuotaWork.part := by
  simp only [State.setQuotaWork]
  split
  · exact State.Becomes.refl s
  rename_i range
  split
  · exact State.Becomes.refl s
  rename_i h r found
  have here := (s.station_of_lookup _ h r found).1
  have quota : 1 ≤ s.argNat 4 ∧ s.argNat 4 ≤ 16 := by omega
  have changed := (State.Change.record (x := { r with quota := s.argNat 4 }) here id (.inr quota) (.inl rfl)).becomes
  exact (changed.same .of_unchanged).trans (State.becomes_servicePass _)

/-- The stored list of a PIN holds as many slots as the arguments name (R9). -/
theorem length_ascending {list : List Nat} (nodup : list.Nodup) (bearer : ∀ n ∈ list, 2 ≤ n ∧ n ≤ 63) :
    (ascending list).length = list.length := by
  refine List.Perm.length_eq ((List.perm_ext_iff_of_nodup ?_ nodup).mpr fun n => ?_)
  · exact (pairwise_bearerSlots.imp Nat.ne_of_lt).filter _
  · simp only [ascending, List.mem_filter, mem_bearerSlots_iff, decide_eq_true_eq]
    exact ⟨fun both => both.2, fun there => ⟨bearer n there, there⟩⟩

theorem slotArgumentsGood_iff (list : List Nat) :
    slotArgumentsGood list = true ↔ 1 ≤ list.length ∧ list.length ≤ 8 ∧ (∀ n ∈ list, 2 ≤ n ∧ n ≤ 63) ∧ list.Nodup := by
  simp [slotArgumentsGood, and_assoc]

theorem State.becomes_pinParties {s : State} {originator answerer : Handle × Station} (cls : ClassNo) {slots : List Nat}
    (first : s.station originator.1 = some originator.2) (second : s.station answerer.1 = some answerer.2)
    (differ : originator.1 ≠ answerer.1) (width : 1 ≤ slots.length ∧ slots.length ≤ 8) :
    s.Becomes (s.pinParties originator answerer cls slots).part := by
  unfold State.pinParties
  split
  · exact State.Becomes.refl s
  rename_i ready
  split
  · exact State.Becomes.refl s
  rename_i parties
  split
  · exact State.Becomes.refl s
  rename_i i unused
  split
  · simp only [not_or, not_not] at ready
    simp only [Config.partyLimit, not_or, not_le] at parties
    have asked : s.Asked originator.1 answerer.1 slots.length :=
      .inl ⟨differ, ⟨_, first, ready.1⟩, ⟨_, second, ready.2⟩, width.1, .inl width.2⟩
    have made := (State.Change.creation (i := i) (c := pinnedRecord originator.1 answerer.1 cls slots) asked parties.1
      parties.2 fun _ => rfl).becomes
    exact (made.same .of_unchanged).same ((State.sameTables_tell ..).trans (State.sameTables_tell ..))
  · exact State.Becomes.refl s

theorem State.becomes_pinWork (s : State) : s.Becomes s.pinWork.part := by
  unfold State.pinWork
  split
  · split
    · exact State.Becomes.refl s
    rename_i good
    split
    · exact State.Becomes.refl s
    split
    · rename_i originator answerer first second
      simp only [not_or, Bool.not_eq_true, Bool.not_eq_false'] at good
      obtain ⟨-, -, slots, differ⟩ := good
      obtain ⟨low, high, bearer, nodup⟩ := (slotArgumentsGood_iff _).mp slots
      refine State.becomes_pinParties _ (s.station_of_lookup _ _ _ first).1 (s.station_of_lookup _ _ _ second).1
        (s.lookup_ne _ _ _ _ _ _ differ first second) ?_
      rw [length_ascending nodup bearer]
      exact ⟨low, high⟩
    · exact State.Becomes.refl s
  · exact State.Becomes.refl s

theorem State.becomes_unpinWork (s : State) : s.Becomes s.unpinWork.part := by
  unfold State.unpinWork
  split
  · exact State.Becomes.refl s
  rename_i i c named
  split
  · exact State.becomes_grantLease { c with pinned := false } (State.connection_of_argConnection named)
      (pinned := fun pinned => nomatch pinned)
  · exact State.Becomes.refl s

theorem State.becomes_forceReleaseWork (s : State) : s.Becomes s.forceReleaseWork.part := by
  unfold State.forceReleaseWork
  split
  · exact State.Becomes.refl s
  · exact (s.becomes_removeConnection ..).trans (State.becomes_servicePass _)

/-- The class record of arguments that pass R128 is in its ranges. -/
theorem State.goodPolicy_argPolicy {s : State} (good : s.policyArgumentsGood = true) : GoodPolicy s.argPolicy := by
  simp only [State.policyArgumentsGood, Bool.and_eq_true, decide_eq_true_eq] at good
  obtain ⟨⟨⟨⟨⟨lease, narrow⟩, wide⟩, low⟩, high⟩, -⟩ := good
  have byte (k : Fin 20) : s.argNat k ≤ 255 := Nat.le_of_lt_succ (s.arg k).isLt
  exact ⟨⟨lease, byte 1⟩, ⟨narrow, wide⟩, ⟨low, high⟩, byte 4⟩

theorem State.becomes_setPolicyWork (s : State) : s.Becomes s.setPolicyWork.part := by
  unfold State.setPolicyWork
  split
  · rename_i bound
    split
    · rename_i good
      exact (State.Change.policy (k := ⟨s.argNat 0, bound⟩) (State.goodPolicy_argPolicy good)).becomes.trans
        (State.becomes_servicePass _)
    · exact State.Becomes.refl s
  · exact State.Becomes.refl s

theorem State.becomes_setTimingWork (s : State) : s.Becomes s.setTimingWork.part := by
  unfold State.setTimingWork
  split
  · exact State.Becomes.refl s
  · rename_i range
    have byte : s.argNat 1 ≤ 255 := Nat.le_of_lt_succ (s.arg 1).isLt
    exact (State.Change.timing (by omega) (by omega)).becomes

end Sys2Proof.Machine
end

section
/-! Every command is a run of changes, and so keeps the laws of the tables. -/

namespace Sys2Proof.Machine

set_option Elab.async false -- one proof at a time: waiting proofs would hold a thread each

/-- Every command is a run of changes of the tables. -/
theorem exec_becomes {s t : State} (c : Instr) (answered : exec c s = .next t) : s.Becomes t := by
  cases c <;> cases answered
  case powerUp => exact s.becomes_enterReset _
  case rstLow => exact s.becomes_enterReset _
  case rstHigh =>
    split
    · exact s.becomes_endCause _
    · exact State.Becomes.refl s
  case resetRelease =>
    split
    · exact s.becomes_endCause _
    split
    · exact s.becomes_release_startFrame
    · exact State.Becomes.refl s
  case frameStart =>
    split
    · exact s.becomes_finishFrame.same (State.sameTables_startFrame _)
    split
    · exact State.Becomes.refl s
    · exact s.becomes_release_startFrame
  case uplinkGrant drq =>
    refine s.becomes_lineEvent _ fun u => ?_
    split
    · exact u.sameTables_considerGrant.becomes
    · exact State.Becomes.refl u
  case uplinkHeader word =>
    refine s.becomes_event fun u => ?_
    split
    · split
      · exact (u.sameTables_judgeHeader ..).becomes
      · exact State.Becomes.refl u
    · exact State.Becomes.refl u
    · exact State.Becomes.refl u
  case uplinkWord word =>
    refine s.becomes_event fun u => ?_
    split
    · split
      · exact (u.sameTables_takeWord ..).becomes
      · exact State.Becomes.refl u
    · exact State.Becomes.refl u
    · exact State.Becomes.refl u
  case drqFall drop =>
    refine s.becomes_lineEvent _ fun u => ?_
    split
    · exact (u.sameTables_closeWindow.trans (State.sameTables_makeNak ..)).becomes
    · exact State.Becomes.refl u
  case dprFall drop =>
    refine s.becomes_lineEvent _ fun u => ?_
    split
    · exact u.sameTables_closeWindow.becomes
    · exact State.Becomes.refl u
  case dprRise drop => exact s.becomes_lineEvent _ State.Becomes.refl
  case presenceLoss drop => exact s.becomes_lineEvent _ fun u => u.becomes_losePresence drop
  case messageDeparture =>
    refine s.becomes_event fun u => ?_
    split
    · exact u.sameTables_depart.becomes
    · exact State.Becomes.refl u
  case attach drop source kind cls => exact s.becomes_message _ fun u => u.becomes_takeAttach ..
  case detach drop source => exact s.becomes_sourcedMessage _ _ _ _ _ fun u h r _ => u.becomes_takeDetach h r
  case request drop source peer cls contiguous width tag =>
    exact s.becomes_sourcedMessage _ _ _ _ _ fun u h r here => u.becomes_takeRequest _ _ _ _ _ here
  case accept drop source reference =>
    exact s.becomes_referenceMessage _ _ _ _ _ fun u c role h here => u.becomes_takeAccept reference c role h here
  case decline drop source reference =>
    exact s.becomes_referenceMessage _ _ _ _ _ fun u c role h _ => u.becomes_takeDecline reference c role h
  case renew drop source reference =>
    exact s.becomes_referenceMessage _ _ _ _ _ fun u c role h here => u.becomes_takeRenew reference c role h here
  case release drop source reference =>
    exact s.becomes_referenceMessage _ _ _ _ _ fun u c role h _ => u.becomes_takeRelease reference c role h
  case query drop source =>
    exact s.becomes_sourcedMessage _ _ _ _ _ fun u h r _ => (u.sameTables_takeQuery h r).becomes
  case cancel drop source tag => exact s.becomes_sourcedMessage _ _ _ _ _ fun u h r _ => u.becomes_takeCancel tag h r
  case rosterBegin drop source generation count depth depthExceeded countExceeded =>
    exact s.becomes_sourcedMessage _ _ _ _ _ fun u h r _ => u.becomes_fromTopRelay (u.becomes_beginRoster ..)
  case rosterPart drop source partIndex entries =>
    exact s.becomes_sourcedMessage _ _ _ _ _ fun u h r _ => u.becomes_fromTopRelay (u.becomes_partRoster ..)
  case rosterEnd drop source generation =>
    exact s.becomes_sourcedMessage _ _ _ _ _ fun u h r _ => u.becomes_fromTopRelay (u.becomes_endRoster ..)
  case guardEnd => exact s.becomes_event State.becomes_takeOwedGuardEnd
  case leaseCountdownWalk => exact s.becomes_event State.becomes_takeOwedLeaseWalk
  case queueDeadlineWalk => exact s.becomes_event State.becomes_takeOwedQueueWalk
  case rosterDeadlineWalk => exact s.becomes_event State.becomes_takeOwedRosterWalk
  case leaseExpiry | answerExpiry | queueTimeout | rosterDeadlineExpiry =>
    split
    · exact s.becomes_takeDue
    · exact State.Becomes.refl s
  case spiReadCapture address length =>
    have selected : s.settled.SameTables s.settled.select := .of_unchanged
    have begun := s.becomes_settled.same (selected.trans (State.sameTables_takeAddress _ address))
    dsimp only
    split
    · exact begun.same .of_unchanged
    · exact begun
  case registerWrite event value =>
    split
    · exact s.becomes_settled.same .of_unchanged
    · exact s.becomes_settled.same (State.sameTables_takeAddress ..)
    · exact s.becomes_settled.same (State.sameTables_dataByte ..)
    · exact s.becomes_settled.same .of_unchanged
    · exact s.becomes_settled.same (State.sameTables_firstByte ..)
  case notifyPendingWrite | notifyEnableWrite | commandCollision | unknownCommand =>
    exact s.becomes_settled.same (State.sameTables_firstByte ..)
  case commandCompletion =>
    refine s.becomes_event fun u => ?_
    split
    · exact State.SameTables.becomes .of_unchanged
    · exact State.Becomes.refl u
    · exact State.Becomes.refl u
  case openHighway => exact s.becomes_runCommand _ State.becomes_openWork
  case drain waitQueueFirst => exact s.becomes_runCommand _ fun u => u.becomes_drainWork waitQueueFirst
  case close => exact s.becomes_runCommand _ State.becomes_closeWork
  case reset => exact s.becomes_hostCommand _ fun u => u.becomes_enterReset _
  case denyAdd => exact s.becomes_runCommand _ State.becomes_denyAddWork
  case denyRemove => exact s.becomes_runCommand _ State.becomes_denyRemoveWork
  case evict => exact s.becomes_runCommand _ State.becomes_evictWork
  case setQuota => exact s.becomes_runCommand _ State.becomes_setQuotaWork
  case pin => exact s.becomes_runCommand _ State.becomes_pinWork
  case unpin => exact s.becomes_runCommand _ State.becomes_unpinWork
  case forceRelease => exact s.becomes_runCommand _ State.becomes_forceReleaseWork
  case setPolicy => exact s.becomes_runCommand _ State.becomes_setPolicyWork
  case setTiming => exact s.becomes_runCommand _ State.becomes_setTimingWork
  case readStation => exact s.becomes_readCommand _ State.part_readStationWork
  case readConnection => exact s.becomes_readCommand _ State.part_readConnectionWork
  case readSlots => exact s.becomes_readCommand _ State.part_readSlotsWork
  case readQueue => exact s.becomes_readCommand _ State.part_readQueueWork
  case readDeny => exact s.becomes_readCommand _ State.part_readDenyWork
  case readPolicy => exact s.becomes_readCommand _ State.part_readPolicyWork

/-- A law that every change keeps is kept by every step. -/
theorem keptByStep_of_change (law : State → Prop) (kept : ∀ s t : State, law s → s.Change t → law t) :
    KeptByStep law := by
  refine keptByStep_of_exec law (fun t rest holds => kept _ _ holds (.same ?_)) fun c t u holds answered =>
    (exec_becomes c answered).keeps kept holds
  exact .of_unchanged

/-- Settles O59: the parties are ADMITTED through every change of the tables. -/
theorem partiesAreAdmitted : Obligations.PartiesAreAdmitted :=
  keptByStep_of_change State.PartyLaw fun _ _ law => law.change

/-- Settles O55: each of the four laws is kept by every change of the tables. -/
theorem tablesStayInBounds : Obligations.TablesStayInBounds :=
  ⟨keptByStep_of_change State.DenyLaw fun _ _ law => law.change,
    keptByStep_of_change State.QueueLaw fun _ _ law => law.change,
    keptByStep_of_change State.DownlinkLaw fun _ _ law => law.change,
    keptByStep_of_change State.RangeLaw fun _ _ law => law.change⟩

end Sys2Proof.Machine
end

section
/-! Station messages at their owners: what is turned away (R24, R26, R74, R92). -/

namespace Sys2Proof.Machine

set_option Elab.async false -- one proof at a time: waiting proofs would hold a thread each

/-! ### A message and its owner (R74, R75) -/

/-- What the owner of a station message other than ATTACH makes of it, once its source is resolved (R74). -/
def messageOwner : Instr → Handle → Station → State → State
  | .detach _ _ => State.takeDetach
  | .request _ _ peer cls contiguous width tag => State.takeRequest peer cls contiguous width.val tag
  | .accept _ _ reference => State.onReference reference (State.takeAccept reference)
  | .decline _ _ reference => State.onReference reference (State.takeDecline reference)
  | .renew _ _ reference => State.onReference reference (State.takeRenew reference)
  | .release _ _ reference => State.onReference reference (State.takeRelease reference)
  | .query _ _ => State.takeQuery
  | .cancel _ _ tag => State.takeCancel tag
  | .rosterBegin _ _ generation count depth depthExceeded countExceeded =>
    State.fromTopRelay (State.beginRoster generation count.val depth.val depthExceeded countExceeded)
  | .rosterPart _ _ partIndex entries => State.fromTopRelay (State.partRoster partIndex.val entries)
  | .rosterEnd _ _ generation => State.fromTopRelay (State.endRoster generation)
  | _ => fun _ _ s => s

/-- Every station message other than ATTACH is resolved and passed to its owner. -/
theorem exec_eq_resolve {c : Instr} {drop : Drop} {n : StationNumber} {tag : Option Tag} {reference : Option Reference}
    (names : sourced c = some (drop, n, tag, reference)) (s : State) :
    exec c s = .next (s.message c fun t => t.resolve drop n tag reference (messageOwner c)) := by
  cases c <;> cases names <;> rfl

/-- A message that carries a reference passes the checks of R24 first. -/
theorem messageOwner_of_reference {c : Instr} {drop : Drop} {n : StationNumber} {tag : Option Tag} {reference : Reference}
    (names : sourced c = some (drop, n, tag, some reference)) :
    ∃ f, messageOwner c = State.onReference reference f := by
  cases c <;> cases names <;> exact ⟨_, rfl⟩

/-- A roster message is for a top relay alone (R92). -/
theorem messageOwner_of_roster {c : Instr} (roster : isRosterMessage c = true) :
    ∃ f, messageOwner c = State.fromTopRelay f := by
  cases c <;> cases roster <;> exact ⟨_, rfl⟩

theorem State.Quiet.exec_eq_resolve {s : State} (quiet : s.Quiet) {c : Instr} {drop : Drop} {n : StationNumber}
    {tag : Option Tag} {reference : Option Reference} (names : sourced c = some (drop, n, tag, reference)) :
    exec c s = .next ((s.taking c).resolve drop n tag reference (messageOwner c)) := by
  rw [Machine.exec_eq_resolve names, quiet.message_eq]

/-- The owner takes the message of a source with a record on its drop. -/
theorem State.Quiet.exec_eq_owner {s : State} (quiet : s.Quiet) {c : Instr} {drop : Drop} {n : StationNumber}
    {tag : Option Tag} {reference : Option Reference} (names : sourced c = some (drop, n, tag, reference)) {h : Handle}
    {r : Station} (source : s.lookup n = some (h, r)) (onDrop : r.drop = drop) :
    exec c s = .next (messageOwner c h r (s.taking c)) := by
  rw [quiet.exec_eq_resolve names, State.resolve_of_lookup (s := s.taking c) source onDrop]

/-- A message to the source of a message goes to the number the message gave (R23). -/
theorem State.tell_source {s : State} {n : StationNumber} {h : Handle} {r : Station} (source : s.lookup n = some (h, r))
    (c : Instr) (body : DownBody) : (s.taking c).tell h body = (s.taking c).offer ⟨n, body⟩ := by
  obtain ⟨here, rfl⟩ := s.station_of_lookup n h r source
  exact State.tell_of_station (s := s.taking c) here body

/-! ### Source resolution, top relays, references (R24, R74, R92) -/

theorem State.named_eq_unknown {s : State} {reference : Reference}
    (unknown : s.connection reference.index = none ∨ s.serial reference.index ≠ reference.serial) (h : Handle) :
    s.named reference h = .error .unknownConnection := by
  unfold State.named
  split
  · rfl
  · rename_i k here
    obtain unused | other := unknown
    · cases unused ▸ here
    · rw [if_pos other]

theorem State.named_of_stranger {s : State} {reference : Reference} {k : Connection} {h : Handle}
    (here : s.connection reference.index = some k) (current : s.serial reference.index = reference.serial)
    (originator : k.originator ≠ h) (answerer : k.answerer ≠ h) : s.named reference h = .error .notParty := by
  simp [State.named, here, current, originator, answerer]

theorem State.named_of_originator {s : State} {reference : Reference} {k : Connection} {h : Handle}
    (here : s.connection reference.index = some k) (current : s.serial reference.index = reference.serial)
    (originator : k.originator = h) : s.named reference h = .ok (k, .originator) := by
  simp [State.named, here, current, originator]

theorem State.named_of_answerer {s : State} {reference : Reference} {k : Connection} {h : Handle}
    (here : s.connection reference.index = some k) (current : s.serial reference.index = reference.serial)
    (originator : k.originator ≠ h) (answerer : k.answerer = h) : s.named reference h = .ok (k, .answerer) := by
  simp [State.named, here, current, originator, answerer]

theorem State.onReference_of_error {s : State} {reference : Reference} {h : Handle} {reason : Reason}
    (refused : s.named reference h = .error reason) (f : Connection → Role → Handle → State → State) (r : Station) :
    s.onReference reference f h r = s.refuseNamed h reference reason := by
  simp only [State.onReference, refused]

/-- Settles O20. -/
theorem messagesAreTurnedAway : Obligations.MessagesAreTurnedAway := by
  intro s c drop n tag reference quiet names refusedAtDrop
  refine ⟨fun unknown => ?_, fun h r source => ⟨fun elsewhere => ?_, fun onDrop roster notTop => ?_,
    fun onDrop named carries => ?_⟩⟩
  · have noSource : (s.taking c).lookup n = none := unknown
    change exec c s = _
    rw [quiet.exec_eq_resolve names, State.resolve, noSource]
    rfl
  · have known : (s.taking c).lookup n = some (h, r) := source
    change exec c s = _
    rw [quiet.exec_eq_resolve names, State.resolve, known]
    simp only [elsewhere, if_false]
    rfl
  · obtain ⟨f, owner⟩ := messageOwner_of_roster roster
    have other : r.topRelay = false := by
      simpa [Station.topRelay, or_iff_not_imp_left] using notTop
    rw [quiet.exec_eq_owner names source onDrop, owner, State.fromTopRelay, other, State.refusePlain,
      State.tell_source source]
    rfl
  · intro refused
    subst carries
    obtain ⟨f, owner⟩ := messageOwner_of_reference names
    have refuses {reason : Reason} (error : (s.taking c).named named h = .error reason) : refused reason := by
      change exec c s = _
      rw [quiet.exec_eq_owner names source onDrop, owner, State.onReference_of_error error, State.refuseNamed,
        State.tell_source source]
    exact ⟨fun unknown => refuses (State.named_eq_unknown unknown h),
      fun k here current originator answerer => refuses (State.named_of_stranger here current originator answerer)⟩

/-! ### The checks of a REQUEST (R26) -/

theorem State.entryOf_isSome_iff (s : State) (h : Handle) : (s.entryOf h).isSome = true ↔ ∃ e ∈ s.waitQueue, e.source = h := by
  simp [State.entryOf]

theorem State.entryOf_eq_none_iff (s : State) (h : Handle) : s.entryOf h = none ↔ ∀ e ∈ s.waitQueue, e.source ≠ h := by
  simp [State.entryOf]

/-- Settles O21: each check is reached with the ones before it passed. -/
theorem requestsAreChecked : Obligations.RequestsAreChecked := by
  intro s drop n peer cls contiguous width tag h r quiet source onDrop c refused
  obtain ⟨-, number⟩ := s.station_of_lookup n h r source
  have refuses {reason : Reason} (fails : s.requestRefusal h r peer cls width.val = some reason) : refused reason := by
    have failsNow : (s.taking c).requestRefusal h r peer cls width.val = some reason := fails
    have taken : exec c s = .next ((s.taking c).takeRequest peer cls contiguous width.val tag h r) :=
      quiet.exec_eq_owner rfl source onDrop
    change exec c s = _
    rw [taken, State.takeRequest, failsNow]
    exact congrArg _ (State.tell_source source c _)
  refine ⟨fun draining => refuses ?_, fun closed => refuses ?_, fun opened => ⟨fun notReady => refuses ?_, fun ready =>
    ⟨fun queued => refuses ?_, fun notQueued => ⟨fun self => refuses ?_, fun notSelf => ⟨fun unknown => refuses ?_,
      fun p q found => ⟨fun peerNotReady => refuses ?_, fun peerReady => ⟨fun smaller => refuses ?_, fun goodClass =>
        ⟨fun badWidth => refuses ?_, fun low high => ⟨fun full => refuses ?_, fun first second exceeds => refuses ?_⟩⟩⟩⟩⟩⟩⟩⟩⟩
  · simp only [State.requestRefusal, draining]
  · simp only [State.requestRefusal, closed]
  · simp only [State.requestRefusal, opened, if_pos notReady]
  all_goals simp only [State.requestRefusal, opened, ready, ne_eq, not_true_eq_false, if_false]
  · rw [if_pos ((s.entryOf_isSome_iff h).mpr queued)]
  all_goals
    rw [(s.entryOf_eq_none_iff h).mpr notQueued]
    simp only [Option.isSome_none, Bool.false_eq_true, if_false, number]
  · rw [if_pos self]
  all_goals rw [if_neg notSelf]
  · simp only [unknown]
  all_goals simp only [found]
  · rw [if_pos peerNotReady]
  all_goals rw [if_neg (not_not.mpr peerReady)]
  · rw [if_pos smaller]
  all_goals rw [if_neg (not_lt.mpr goodClass)]
  · rw [if_pos badWidth]
  all_goals rw [if_neg (by omega)]
  · exact if_pos full
  · exact (if_neg (not_or.mpr ⟨not_le.mpr first, not_le.mpr second⟩)).trans (if_pos exceeds)

end Sys2Proof.Machine
end

section
/-! DECLINE, RENEW, RELEASE and QUERY (R31 to R35, R43, R44). -/

namespace Sys2Proof.Machine

set_option Elab.async false -- one proof at a time: waiting proofs would hold a thread each

/-! ### Messages that name a reference -/

/-- Two removal notices, the originator's first (R23, R25). -/
theorem State.removeConnection_to_both {s : State} {c : Connection} {x y : Station}
    (originator : s.station c.originator = some x) (answerer : s.station c.answerer = some y) (i : Index)
    (a b : DownBody) :
    s.removeConnection i c (some a) (some b) = ((s.dropConnection i c).offer ⟨x.number, a⟩).offer ⟨y.number, b⟩ := by
  have first : (s.dropConnection i c).station c.originator = some x := by
    rwa [State.station, State.dropConnection_stations]
  have second : (s.dropConnection i c).station c.answerer = some y := by
    rwa [State.station, State.dropConnection_stations]
  simp only [State.removeConnection, State.tellOpt]
  rw [State.tell_of_station first, State.tell_offer_of_station second]

theorem State.refuseNamed_source {s : State} {n : StationNumber} {h : Handle} {r : Station}
    (source : s.lookup n = some (h, r)) (c : Instr) (reference : Reference) (reason : Reason) :
    (s.taking c).refuseNamed h reference reason = (s.taking c).offer ⟨n, .refuse reason none (some reference)⟩ :=
  State.tell_source source c _

/-- A message whose reference names a record of its source reaches the part of its owner after R24. -/
theorem State.Quiet.exec_of_named {s : State} (quiet : s.Quiet) {c : Instr} {drop : Drop} {n : StationNumber}
    {reference : Reference} (names : sourced c = some (drop, n, none, some reference)) {h : Handle} {r : Station}
    (source : s.lookup n = some (h, r)) (onDrop : r.drop = drop) {k : Connection} {role : Role}
    (party : (s.taking c).named reference h = .ok (k, role)) {f : Connection → Role → Handle → State → State}
    (owner : messageOwner c = State.onReference reference f) : exec c s = .next (f k role h (s.taking c)) := by
  rw [quiet.exec_eq_owner names source onDrop, owner, State.onReference_of_party party]

/-- Settles O29. -/
theorem declineAndReleaseRemove : Obligations.DeclineAndReleaseRemove := by
  intro s drop n reference h r x y k quiet source onDrop here current originator answerer decline release refused dropped
    toBoth declined
  have declines (role : Role) (party : (s.taking decline).named reference h = .ok (k, role)) :
      exec decline s = .next ((s.taking decline).takeDecline reference k role h) :=
    quiet.exec_of_named rfl source onDrop party rfl
  have releases (role : Role) (party : (s.taking release).named reference h = .ok (k, role)) :
      exec release s = .next ((s.taking release).takeRelease reference k role h) :=
    quiet.exec_of_named rfl source onDrop party rfl
  have refuses {c : Instr} {reason : Reason} (turned : exec c s = .next ((s.taking c).refuseNamed h reference reason)) :
      refused c reason :=
    turned.trans (congrArg _ (State.refuseNamed_source source c reference reason))
  have whole (c : Instr) : (s.taking c).referenceOf reference.index = reference := by
    have serial : (s.taking c).serial reference.index = reference.serial := current
    rw [State.referenceOf, serial]
  have ends (reason : Reason) (removed : exec release s = .next
      ((s.taking release).removeConnection reference.index k
        (some (.released ((s.taking release).referenceOf reference.index) reason))
        (some (.released ((s.taking release).referenceOf reference.index) reason))).servicePass) : toBoth reason := by
    rw [whole, State.removeConnection_to_both (s := s.taking release) originator answerer] at removed
    exact removed
  have turns {c : Instr} (turned : exec c s = .next ((s.taking c).turnDown reference.index k)) : declined c := by
    rw [State.turnDown, State.removeConnection_to_originator (s := s.taking c) originator] at turned
    exact turned
  constructor
  · intro isOriginator
    have party (c : Instr) : (s.taking c).named reference h = .ok (k, .originator) :=
      State.named_of_originator here current isOriginator
    have taken := releases _ (party release)
    refine ⟨refuses (declines _ (party decline)), fun pending => ?_, fun offered => ?_, fun active pinned => ?_,
      fun active unpinned => ?_⟩
    · simp only [State.takeRelease, pending, whole] at taken
      rw [taken, State.removeConnection_to_originator (s := s.taking release) originator]
    · simp only [State.takeRelease, offered] at taken
      exact ends _ taken
    · simp only [State.takeRelease, active, pinned, if_true] at taken
      exact refuses taken
    · simp only [State.takeRelease, active, unpinned, Bool.false_eq_true, if_false] at taken
      exact ends _ taken
  · intro notOriginator isAnswerer
    have party (c : Instr) : (s.taking c).named reference h = .ok (k, .answerer) :=
      State.named_of_answerer here current notOriginator isAnswerer
    have turned := declines _ (party decline)
    have taken := releases _ (party release)
    refine ⟨fun other => refuses ?_, fun offered => ⟨turns ?_, turns ?_⟩, fun pending => refuses ?_,
      fun active pinned => ?_, fun active unpinned => ?_⟩
    · cases state : k.state with
      | offered => exact absurd state other
      | pending => simpa only [State.takeDecline, state] using turned
      | active => simpa only [State.takeDecline, state] using turned
    · simpa only [State.takeDecline, offered] using turned
    · simpa only [State.takeRelease, offered] using taken
    · simpa only [State.takeRelease, pending] using taken
    · simp only [State.takeRelease, active, pinned, if_true] at taken
      exact refuses taken
    · simp only [State.takeRelease, active, unpinned, Bool.false_eq_true, if_false] at taken
      exact ends _ taken

/-- A lease granted to a connection whose originator has a record (R35, R40). -/
theorem State.grantLease_of_station {s : State} (i : Index) {c : Connection} {x : Station}
    (originator : s.station c.originator = some x) :
    s.grantLease i c = ({ s with
        connections := s.connections.set i
          (some { c with countdown := some ⟨(s.classPolicy c.cls).leasePeriod, s.timer.parity⟩ })
        connectionChanges := s.connectionChanges + 1 }.offer
      ⟨x.number, .renewed (s.referenceOf i) (s.classPolicy c.cls).leasePeriod⟩) :=
  State.tell_of_station (s := (s.setConnection i _).bumpConnections 1) originator _

/-- Settles O30. -/
theorem renewSetsTheLease : Obligations.RenewSetsTheLease := by
  intro s drop n reference h r k quiet source onDrop here current c refused period
  obtain ⟨known, number⟩ := s.station_of_lookup n h r source
  have renews (role : Role) (party : (s.taking c).named reference h = .ok (k, role)) :
      exec c s = .next ((s.taking c).takeRenew reference k role h) :=
    quiet.exec_of_named rfl source onDrop party rfl
  have refuses (role : Role) (party : (s.taking c).named reference h = .ok (k, role)) {reason : Reason}
      (fails : (s.taking c).renewRefusal k role = some reason) : refused reason := by
    change exec c s = _
    rw [renews role party, State.takeRenew, fails]
    exact congrArg _ (State.refuseNamed_source source c reference reason)
  constructor
  · intro notOriginator isAnswerer
    exact refuses .answerer (State.named_of_answerer here current notOriginator isAnswerer) rfl
  · intro isOriginator
    have party : (s.taking c).named reference h = .ok (k, .originator) :=
      State.named_of_originator here current isOriginator
    refine ⟨fun idle => refuses _ party ?_, fun active => ⟨fun pinned => refuses _ party ?_, fun unpinned =>
      ⟨fun draining => refuses _ party ?_, fun stays => ?_⟩⟩⟩
    · simp [State.renewRefusal, idle]
    · simp [State.renewRefusal, active, pinned]
    · simp [State.renewRefusal, active, unpinned, draining]
    · have accepted : (s.taking c).renewRefusal k .originator = none := by
        simp [State.renewRefusal, active, unpinned, stays]
      have serial : (s.taking c).serial reference.index = reference.serial := current
      have originator : (s.taking c).station k.originator = some r := isOriginator ▸ known
      rw [renews _ party, State.takeRenew, accepted]
      simp only [State.grantLease_of_station reference.index originator, number, State.referenceOf, serial]
      rfl

/-! ### QUERY -/

/-- Messages told to a station one after another all go to the number its record held before them (R23). -/
theorem State.foldl_tell_of_station {s : State} {h : Handle} {r : Station} (here : s.station h = some r)
    (bodies : List DownBody) :
    bodies.foldl (fun t body => t.tell h body) s = s.offerAll (bodies.map fun body => ⟨r.number, body⟩) := by
  have told := State.foldl_eq_offerAll (fun t body => t.tell h body) (fun t body => t.messagesTo h body)
    (fun t body => t.tell_eq_offerAll h body) (fun t sent body => t.messagesTo_offerAll sent h body) s bodies
  rw [told]
  simp only [State.messagesTo_of_station here]
  exact congrArg (fun list => s.offerAll list) (List.flatMap_pure_eq_map _ _)

/-- The answer to a QUERY of a station with a record (R43, R44). -/
theorem State.takeQuery_of_station {s : State} {h : Handle} {r : Station} (here : s.station h = some r) :
    s.takeQuery h r = ((s.statuses h).foldl (fun t body => t.offer ⟨r.number, body⟩) s).offer
      ⟨r.number, .statusEnd (s.statuses h).length ((s.entryOf h).map (·.tag))⟩ := by
  rw [State.takeQuery, State.foldl_tell_of_station here, State.tell_eq_offerAll, State.messagesTo_offerAll,
    State.messagesTo_of_station here]
  exact congrArg _ List.foldl_map

/-- Settles O31. -/
theorem queryListsConnections : Obligations.QueryListsConnections := by
  intro s drop n h r statuses quiet source onDrop listed
  obtain ⟨here, rfl⟩ := s.station_of_lookup n h r source
  let c : Instr := .query drop r.number
  have standing : (s.taking c).station h = some r := here
  have lists : (s.taking c).statuses h = statuses := by
    rw [listed]
    refine List.filterMap_congr fun i _ => ?_
    change s.statusFor h i = _
    unfold State.statusFor
    cases s.connection i <;> rfl
  have taken : exec c s = .next ((s.taking c).takeQuery h r) := quiet.exec_eq_owner rfl source onDrop
  rw [State.takeQuery_of_station standing, lists] at taken
  exact taken

end Sys2Proof.Machine
end

section
/-! A REQUEST at the Wait Queue (R28, R51 to R53). -/

namespace Sys2Proof.Machine

set_option Elab.async false -- one proof at a time: waiting proofs would hold a thread each

/-! ### Joining the queue -/

/-- An entry stands behind those of its class or a smaller one and before those of a greater one (R51). -/
theorem insertEntry_append {e : Entry} {front back : List Entry} (notAbove : ∀ x ∈ front, x.cls ≤ e.cls)
    (above : ∀ x ∈ back, e.cls < x.cls) : insertEntry e (front ++ back) = front ++ e :: back := by
  have passes : ∀ x ∈ front, decide (x.cls ≤ e.cls) = true := fun x there => decide_eq_true (notAbove x there)
  rw [insertEntry, List.takeWhile_append_of_pos passes, List.dropWhile_append_of_pos passes]
  cases back with
  | nil => simp
  | cons x rest =>
    have stops : ¬ x.cls ≤ e.cls := not_le.mpr (above x (List.mem_cons_self ..))
    simp [stops]

/-- A message to a station goes to the number its record holds (R23). -/
theorem State.tell_of_number {s : State} {h : Handle} {n : StationNumber}
    (number : (s.station h).map Station.number = some n) (body : DownBody) : s.tell h body = s.offer ⟨n, body⟩ := by
  obtain ⟨r, here, rfl⟩ := Option.map_eq_some_iff.mp number
  exact State.tell_of_station here body

theorem State.refuseNoSlots_of_station {s : State} {e : Entry} {r : Station} (source : s.station e.source = some r) :
    s.refuseNoSlots e = (s.offer ⟨r.number, .refuse .noSlots (some e.tag) none⟩).raise .refusal := by
  rw [State.refuseNoSlots, State.refuseEntry, State.tell_of_station source]

/-- With room in the queue an entry is inserted and its source told so (R52). -/
theorem State.joinQueue_of_room {s : State} {e : Entry} {r : Station} (source : s.station e.source = some r)
    (waits : e.countdown.remaining ≠ 0) (room : s.waitQueue.length < 16) :
    s.joinQueue e = ({ s with waitQueue := insertEntry e s.waitQueue }.offer ⟨r.number, .queued e.tag⟩) := by
  rw [State.joinQueue, if_neg waits, if_pos (show s.waitQueue.length < Config.queueCapacity from room)]
  exact State.tell_of_station (s := { s with waitQueue := insertEntry e s.waitQueue }) source _

/-- A full queue gives the place of its tail to an entry of a smaller class, and refuses any other (R53). -/
theorem State.joinQueue_of_full {s : State} {e tail : Entry} {rest : List Entry} (waits : e.countdown.remaining ≠ 0)
    (full : 16 ≤ s.waitQueue.length) (queue : s.waitQueue = rest ++ [tail]) :
    s.joinQueue e =
      if e.cls < tail.cls then
        (({ s with waitQueue := rest }.refuseEntry tail .queueDisplaced).raise .refusal).insertAndTell e
      else s.refuseNoSlots e := by
  rw [State.joinQueue, if_neg waits, if_neg (show ¬ s.waitQueue.length < Config.queueCapacity from not_lt.mpr full)]
  simp only [queue, List.getLast?_concat, List.dropLast_concat]

/-- The tail's source is told it is displaced, and then the new entry's source that it is queued (R53). -/
theorem State.displace_of_stations {s : State} {e tail : Entry} {r x : Station} (rest : List Entry)
    (source : s.station e.source = some r) (displaced : s.station tail.source = some x) :
    (({ s with waitQueue := rest }.refuseEntry tail .queueDisplaced).raise .refusal).insertAndTell e =
      ({ ({ s with waitQueue := rest }.offer ⟨x.number, .refuse .queueDisplaced (some tail.tag) none⟩).raise .refusal with
          waitQueue := insertEntry e rest }.offer ⟨r.number, .queued e.tag⟩) := by
  let shorter : State := { s with waitQueue := rest }
  let told := (shorter.offer ⟨x.number, .refuse .queueDisplaced (some tail.tag) none⟩).raise .refusal
  have refused : (shorter.refuseEntry tail .queueDisplaced).raise .refusal = told := by
    rw [State.refuseEntry, State.tell_of_station (s := shorter) displaced]
  have queue : told.waitQueue = rest := by simp [told, shorter]
  let joined : State := { told with waitQueue := insertEntry e rest }
  have number : (joined.station e.source).map Station.number = some r.number := by
    have same := shorter.station_number_offer ⟨x.number, .refuse .queueDisplaced (some tail.tag) none⟩ e.source
    have before : (shorter.station e.source).map Station.number = some r.number :=
      congrArg (Option.map Station.number) source
    rwa [before] at same
  rw [refused, State.insertAndTell, queue]
  exact State.tell_of_number number _

/-! ### A request without room -/

/-- A request without room whose class does not pre-empt, or finds too few victims, reaches the queue (R28, R63, R65). -/
theorem State.serveRequest_of_noVictims {s : State} {cls : ClassNo} {contiguous : Bool} {width : Nat}
    (full : s.unusedIndex = none ∨ s.searchSlots contiguous width = none)
    (noVictims : (s.classPolicy cls).mayPreempt = false ∨ contiguous = true ∨ s.victimsFor cls width = none) (h : Handle)
    (peer : StationNumber) (p : Handle) (tag : Tag) :
    s.serveRequest h peer p cls contiguous width tag = s.joinQueue (s.entryFor h peer p cls contiguous width tag) := by
  simp only [State.serveRequest, State.room_of_full full, State.handOn]
  obtain barred | rfl | tooFew := noVictims
  · simp [barred]
  · simp
  · simp [tooFew]

/-- Settles O24. -/
theorem requestsAreQueued : Obligations.RequestsAreQueued := by
  intro s drop n peer cls contiguous width tag h p r q quiet source onDrop passes full noVictims c taken period entry noSlots
  subst onDrop
  have noRoom : s.unusedIndex = none ∨ s.searchSlots contiguous width.val = none :=
    full.imp_left s.unusedIndex_eq_none_iff.mpr
  have served : exec c s = .next (taken.serveRequest h peer p cls contiguous width.val tag) :=
    execRequest_of_passes quiet source passes contiguous tag
  have joins : exec c s = .next (taken.joinQueue entry) := by
    rw [served, State.serveRequest_of_noVictims (s := taken) noRoom noVictims]
    rfl
  obtain ⟨here, rfl⟩ := s.station_of_lookup n h r source
  have standing : taken.station entry.source = some r := here
  have refuses : taken.refuseNoSlots entry = noSlots := State.refuseNoSlots_of_station standing
  refine ⟨fun none => ?_, fun some => ?_⟩
  · rw [joins, ← refuses, State.joinQueue, if_pos none]
  have waits : entry.countdown.remaining ≠ 0 := Nat.one_le_iff_ne_zero.mp some
  refine ⟨fun front back room queue notAbove above => ?_, fun front back tail x queueFull queue smaller notAbove above
    displaced => ?_, fun front tail queueFull queue notSmaller => ?_⟩
  · have inserted : insertEntry entry taken.waitQueue = front ++ entry :: back :=
      (congrArg (insertEntry entry) queue).trans (insertEntry_append notAbove above)
    rw [joins, State.joinQueue_of_room standing waits room, inserted]
  · have tailSource : taken.station tail.source = Option.some x := displaced
    rw [joins, State.joinQueue_of_full (s := taken) waits queueFull queue, if_pos smaller,
      State.displace_of_stations _ standing tailSource, insertEntry_append (e := entry) notAbove above]
  · rw [joins, ← refuses, State.joinQueue_of_full (s := taken) waits queueFull queue, if_neg (not_lt.mpr notSmaller)]

end Sys2Proof.Machine
end

section
/-! PIN, UNPIN and FORCE_RELEASE (R39 to R41). -/

namespace Sys2Proof.Machine

set_option Elab.async false -- one proof at a time: waiting proofs would hold a thread each

/-! ### The reference in an argument byte (R195) -/

theorem Reference.index_ofByte (b : Byte) : (Reference.ofByte b).index.val = b.toNat % 32 := by
  simp [Reference.ofByte]

theorem Reference.serial_ofByte (b : Byte) : (Reference.ofByte b).serial.toNat = b.toNat / 32 := by
  have small : b.toNat / 32 < 8 := by omega
  simp [Reference.ofByte, Nat.shiftRight_eq_div_pow, Nat.mod_eq_of_lt small]

/-- The argument names an index, and its serial is the current one or not (R40, R41). -/
theorem State.argConnection_eq {s : State} {i : Index} (index : i.val = (s.arg 0).toNat % 32) :
    s.argConnection =
      if (s.serial i).toNat = (s.arg 0).toNat / 32 then (s.connection i).map fun c => (i, c) else none := by
  have same : (Reference.ofByte (s.arg 0)).index = i := Fin.ext ((Reference.index_ofByte _).trans index.symm)
  have current : s.serial i = (Reference.ofByte (s.arg 0)).serial ↔ (s.serial i).toNat = (s.arg 0).toNat / 32 := by
    rw [← Reference.serial_ofByte, BitVec.toNat_inj]
  simp only [State.argConnection, same, current]

/-! ### FORCE_RELEASE and UNPIN -/

/-- Settles O53. -/
theorem unpinAndForceRelease : Obligations.UnpinAndForceRelease := by
  intro s i named reference answers index
  have unpins (ready : s.Latched 0x25) : exec .unpin s =
      .next (s.unpinWork.part.finished s.unpinWork.result s.unpinWork.readout) :=
    congrArg _ (ready.runCommand_eq State.unpinWork)
  have forces (ready : s.Latched 0x26) : exec .forceRelease s =
      .next (s.forceReleaseWork.part.finished s.forceReleaseWork.result s.forceReleaseWork.readout) :=
    congrArg _ (ready.runCommand_eq State.forceReleaseWork)
  have argument := State.argConnection_eq index
  refine ⟨fun unknown => ?_, fun k x y here current originator answerer => ?_⟩
  · have nothing : s.argConnection = none := by
      rw [argument]
      obtain unused | other := unknown
      · simp [unused]
      · exact if_neg other
    refine ⟨fun ready => ?_, fun ready => ?_⟩
    · change exec .unpin s = _
      simp only [unpins ready, State.unpinWork, nothing]
      rfl
    · change exec .forceRelease s = _
      simp only [forces ready, State.forceReleaseWork, nothing]
      rfl
  have found : s.argConnection = some (i, k) := by
    rw [argument, here]
    exact if_pos current
  refine ⟨fun ready => ⟨fun loose => ?_, fun pinned => ?_⟩, fun ready => ?_⟩
  · change exec .unpin s = _
    simp only [unpins ready, State.unpinWork, found, loose, Bool.false_eq_true, if_false]
    rfl
  · intro period record loosened
    have granted : s.grantLease i { k with pinned := false } = loosened :=
      State.grantLease_of_station (c := { k with pinned := false }) i originator
    have stands : loosened.connection i = some record := by
      simp [loosened, State.connection]
    change exec .unpin s = _
    simp only [unpins ready, State.unpinWork, found, pinned, if_true, granted, stands, Option.map_some, Option.getD_some]
  · intro dropped forced refused
    have named : s.referenceOf i = reference := rfl
    have done : exec .forceRelease s = .next (State.finished (State.servicePass (s.removeConnection i k
        (some (s.noticeToOriginator i k .forced)) (s.noticeToAnswerer i k .forced))) .ok (s.connectionForm i k)) := by
      simp only [forces ready, State.forceReleaseWork, found]
    refine ⟨fun pending => ?_, fun offered => ?_, fun active => ?_⟩
    · rw [State.noticeToOriginator, State.noticeToAnswerer, if_pos pending, if_neg (by simp [pending]),
        State.removeConnection_to_originator originator] at done
      exact done
    · rw [State.noticeToOriginator, State.noticeToAnswerer, if_neg (by simp [offered]), if_neg (by simp [offered]),
        State.removeConnection_to_both originator answerer, named] at done
      exact done
    · rw [State.noticeToOriginator, State.noticeToAnswerer, if_pos active, if_neg (by simp [active]),
        State.removeConnection_to_both originator answerer, named] at done
      exact done

/-! ### PIN -/

theorem State.length_argSlots {s : State} (high : s.argNat 9 ≤ 8) : s.argSlots.length = s.argNat 9 := by
  simp [State.argSlots]
  omega

theorem mem_ascending_iff (list : List Nat) (n : Nat) : n ∈ ascending list ↔ (2 ≤ n ∧ n ≤ 63) ∧ n ∈ list := by
  simp [ascending, mem_bearerSlots_iff]

/-- The slots of a PIN go HELD, as do those the index has RESERVED (R10, R11). -/
theorem State.slots_pinClaim (s : State) (i : Index) {slots : List Nat} :
    ((s.reserveClaim i (ascending slots)).holdClaim i).slots =
      s.slots.mapIdx fun j r => if j + 2 ∈ slots ∨ r = SlotRecord.reserved i then .held i else r := by
  refine Vector.ext fun j inside => ?_
  have bearer : j + 2 ∈ ascending slots ↔ j + 2 ∈ slots := by
    rw [mem_ascending_iff]
    exact and_iff_right (by omega)
  simp only [State.holdClaim_slots, State.reserveClaim_slots, Vector.getElem_mapIdx, bearer]
  by_cases listed : j + 2 ∈ slots
  · simp [listed]
  · simp [listed]

/-- A pinned connection is made between two stations with records (R39). -/
theorem State.makePinned_of_stations {s : State} (i : Index) {c : Connection} {x y : Station} {slots : List Nat}
    (list : c.slotList = ascending slots) (originator : s.station c.originator = some x)
    (answerer : s.station c.answerer = some y) :
    s.makePinned i c =
      (({ s with
          slots := s.slots.mapIdx fun j r => if j + 2 ∈ slots ∨ r = SlotRecord.reserved i then .held i else r
          serials := s.serials.set i (s.serial i + 1)
          connections := s.connections.set i (some c)
          connectionChanges := s.connectionChanges + 1
          flags := s.flags ||| 0x4 }.offer
        ⟨x.number, .grant ⟨i, s.serial i + 1⟩ .originator y.number c.cls c.tag c.width c.slotList c.remaining⟩).offer
          ⟨y.number, .grant ⟨i, s.serial i + 1⟩ .answerer x.number c.cls c.tag c.width c.slotList c.remaining⟩) := by
  let made : State := (((s.reserveClaim i c.slotList).holdClaim i).createConnection i c).raise .lease
  have reference : made.referenceOf i = ⟨i, s.serial i + 1⟩ := by
    simp [made, State.referenceOf, State.serial]
  have first : made.station c.originator = some x := by
    simpa [made, State.station] using originator
  have second : made.station c.answerer = some y := by
    simpa [made, State.station] using answerer
  have written : made = { s with
      slots := s.slots.mapIdx fun j r => if j + 2 ∈ slots ∨ r = SlotRecord.reserved i then .held i else r
      serials := s.serials.set i (s.serial i + 1)
      connections := s.connections.set i (some c)
      connectionChanges := s.connectionChanges + 1
      flags := s.flags ||| 0x4 } := by
    have claimed : (s.reserveClaim i c.slotList).holdClaim i = { s with
        slots := s.slots.mapIdx fun j r => if j + 2 ∈ slots ∨ r = SlotRecord.reserved i then .held i else r } := by
      rw [← s.slots_pinClaim i, ← list]
      rfl
    simp only [made, claimed, State.raise, State.createConnection, State.setConnection, State.bumpConnections]
    rfl
  change made.sendGrants i c = _
  rw [State.sendGrants_of_stations i first second, reference, written]

/-- The arguments of PIN fail the checks of R9 and R39 step 1. -/
def State.PinArgumentsBad (s : State) : Prop :=
  3 < s.argNat 8 ∨ s.argNat 9 < 1 ∨ 8 < s.argNat 9 ∨ (∃ n ∈ s.argSlots, n < 2 ∨ 63 < n) ∨ ¬ s.argSlots.Nodup ∨
    s.argNumber = s.argNumber4

theorem State.pinWork_of_bad {s : State} (bad : s.PinArgumentsBad) : s.pinWork = s.failed .badArgument := by
  unfold State.pinWork
  split
  · rename_i bound
    refine if_pos ?_
    by_contra passes
    obtain ⟨low, high, good, differ⟩ : 1 ≤ s.argNat 9 ∧ s.argNat 9 ≤ 8 ∧ slotArgumentsGood s.argSlots = true ∧
        s.argNumber ≠ s.argNumber4 := by
      simpa [Nat.one_le_iff_ne_zero] using passes
    obtain ⟨-, -, bearer, nodup⟩ := (slotArgumentsGood_iff _).mp good
    obtain wrong | wrong | wrong | ⟨n, named, outside⟩ | wrong | wrong := bad
    · omega
    · omega
    · omega
    · have inside := bearer n named
      omega
    · exact wrong nodup
    · exact differ wrong
  · rfl

theorem State.slots_of_good {s : State} (good : ¬ s.PinArgumentsBad) :
    s.argSlots.length = s.argNat 9 ∧ (∀ n ∈ s.argSlots, 2 ≤ n ∧ n ≤ 63) ∧ s.argSlots.Nodup := by
  simp only [State.PinArgumentsBad, not_or, not_exists, not_and, not_not, not_lt] at good
  obtain ⟨-, -, high, bearer, nodup, -⟩ := good
  exact ⟨State.length_argSlots high, bearer, nodup⟩

/-- With good arguments PIN looks at the highway and the directory (R39 steps 2 and 3). -/
theorem State.pinWork_of_good {s : State} (good : ¬ s.PinArgumentsBad) (cls : ClassNo) (named : cls.val = s.argNat 8) :
    (s.highway ≠ .opened → s.pinWork = s.failed .wrongState) ∧
    (s.highway = .opened →
      (s.lookup s.argNumber = none ∨ s.lookup s.argNumber4 = none → s.pinWork = s.failed .notFound) ∧
      ∀ originator answerer, s.lookup s.argNumber = some originator → s.lookup s.argNumber4 = some answerer →
        s.pinWork = s.pinParties originator answerer cls (ascending s.argSlots)) := by
  obtain ⟨length, bearer, nodup⟩ := State.slots_of_good good
  simp only [State.PinArgumentsBad, not_or, not_lt] at good
  obtain ⟨bound, low, high, -, -, differ⟩ := good
  have slots : slotArgumentsGood s.argSlots = true :=
    (slotArgumentsGood_iff _).mpr ⟨length ▸ low, length ▸ high, bearer, nodup⟩
  have passes : ¬ (s.argNat 9 < 1 ∨ 8 < s.argNat 9 ∨ (!slotArgumentsGood s.argSlots) = true ∨
      s.argNumber = s.argNumber4) := by
    simp only [slots, Bool.not_true, Bool.false_eq_true, differ, or_false, not_or, not_lt]
    exact ⟨low, high⟩
  obtain rfl : cls = ⟨s.argNat 8, Nat.lt_succ_of_le bound⟩ := Fin.ext named
  unfold State.pinWork
  rw [dif_pos (Nat.lt_succ_of_le bound), if_neg passes]
  refine ⟨fun other => if_pos other, fun opened => ?_⟩
  rw [if_neg (not_not.mpr opened)]
  refine ⟨fun unknown => ?_, fun originator answerer first second => ?_⟩
  · obtain missing | missing := unknown
    · simp only [missing]
    · rw [missing]
      cases s.lookup s.argNumber <;> rfl
  · simp only [first, second]

/-- The checks 4 to 7 of PIN, and what it makes (R39). -/
theorem State.pinParties_cases (s : State) {h k : Handle} {x y : Station} (cls : ClassNo) (slots : List Nat)
    (firstReady : x.state = .admitted) (secondReady : y.state = .admitted) :
    (8 ≤ s.partyCount h ∨ 8 ≤ s.partyCount k → s.pinParties (h, x) (k, y) cls slots = s.failed .partyLimit) ∧
    (s.partyCount h < 8 → s.partyCount k < 8 →
      ((∀ i, s.connection i ≠ none) → s.pinParties (h, x) (k, y) cls slots = s.failed .tableFull) ∧
      ∀ i, s.unusedIndex = some i →
        ((∃ n ∈ slots, s.slot n ≠ some .free) → s.pinParties (h, x) (k, y) cls slots = s.failed .slotBusy) ∧
        ((∀ n ∈ slots, s.slot n = some .free) →
          let made := s.makePinned i (pinnedRecord h k cls slots)
          s.pinParties (h, x) (k, y) cls slots =
            ⟨made, .ok, made.connectionForm i (pinnedRecord h k cls slots)⟩)) := by
  unfold State.pinParties
  rw [if_neg (by simp [firstReady, secondReady])]
  refine ⟨fun full => if_pos full, fun first second => ?_⟩
  have neither : ¬ (Config.partyLimit ≤ s.partyCount h ∨ Config.partyLimit ≤ s.partyCount k) :=
    not_or.mpr ⟨not_le.mpr first, not_le.mpr second⟩
  rw [if_neg neither]
  refine ⟨fun full => ?_, fun i unused => ⟨fun busy => ?_, fun free => ?_⟩⟩
  · simp only [s.unusedIndex_eq_none_iff.mpr full]
  all_goals simp only [unused, List.all_eq_true, State.slotFree_eq_true_iff]
  · exact if_neg (by simpa using busy)
  · exact if_pos free

/-- Settles O52. -/
theorem pinMakesAPinnedConnection : Obligations.PinMakesAPinnedConnection := by
  intro s ready a count slots list originator answerer bad answers
  have pins : exec .pin s = .next (s.pinWork.part.finished s.pinWork.result s.pinWork.readout) :=
    congrArg _ (ready.runCommand_eq State.pinWork)
  have fails {result : Result} (work : s.pinWork = s.failed result) : answers result := by
    change exec .pin s = _
    rw [pins, work]
    rfl
  refine ⟨fun wrong => fails (State.pinWork_of_bad wrong), fun good => ?_⟩
  obtain ⟨counted, bearer, nodup⟩ := State.slots_of_good (s := s) good
  have inRange : s.argNat 8 < 4 := Nat.lt_succ_of_le (not_lt.mp (not_or.mp good).1)
  obtain ⟨closed, opens⟩ := State.pinWork_of_good (s := s) good ⟨s.argNat 8, inRange⟩ rfl
  refine ⟨fun other => fails (closed other), fun opened => ?_⟩
  obtain ⟨unknown, known⟩ := opens opened
  refine ⟨fun missing => fails (unknown missing), fun h x k y first second => ?_⟩
  have parties := known _ _ first second
  refine ⟨fun notReady => fails (parties.trans (if_pos notReady)), fun firstReady secondReady => ?_⟩
  obtain ⟨atLimit, below⟩ := s.pinParties_cases (h := h) (k := k) ⟨s.argNat 8, inRange⟩ list firstReady secondReady
  refine ⟨fun full => fails (parties.trans (atLimit full)), fun firstBelow secondBelow => ?_⟩
  obtain ⟨tableFull, indexed⟩ := below firstBelow secondBelow
  refine ⟨fun full => fails (parties.trans (tableFull full)), fun i unused lowest => ?_⟩
  obtain ⟨busy, makes⟩ := indexed i ((s.unusedIndex_eq_some_iff i).mpr ⟨unused, lowest⟩)
  have listed (n : Nat) : n ∈ list ↔ n ∈ slots :=
    (mem_ascending_iff slots n).trans (and_iff_right_of_imp (bearer n))
  have width : list.length = count := (length_ascending nodup bearer).trans counted
  refine ⟨fun ⟨n, named, taken⟩ => fails (parties.trans (busy ⟨n, (listed n).mpr named, taken⟩)), fun cls named free => ?_⟩
  intro reference record made
  obtain rfl : cls = ⟨s.argNat 8, inRange⟩ := Fin.ext named
  have work := parties.trans (makes fun n there => free n ((listed n).mp there))
  have recorded : pinnedRecord h k ⟨s.argNat 8, inRange⟩ list = record := by
    simp only [pinnedRecord, isRun, slotRun, width]
    rfl
  have madeSo : s.makePinned i record = made := by
    exact State.makePinned_of_stations (c := record) (slots := slots) i rfl (s.station_of_lookup _ _ _ first).1
      (s.station_of_lookup _ _ _ second).1
  rw [pins, work, recorded, madeSo]

end Sys2Proof.Machine
end

section
/-! A walk that stands at an expiry is ended first (R36, R57, R107). -/

namespace Sys2Proof.Machine

set_option Elab.async false -- one proof at a time: waiting proofs would hold a thread each

/-! ### What a settled part makes of an event -/

section
variable {s : State} (running : s.hold = .running)
include running

theorem State.settled_settled : s.settled.settled = s.settled := (State.settled_ready running).1.settled_eq

theorem State.hold_settled : s.settled.hold = .running := (State.settled_ready running).1.1

theorem State.event_settled (f : State → State) : s.settled.event f = s.event f := by
  rw [(State.settled_ready running).1.event_eq, State.event, if_pos running]

theorem State.message_settled (command : Instr) (f : State → State) : s.settled.message command f = s.message command f :=
  State.event_settled running _

theorem State.lineEvent_settled (change : Pins → Pins) (f : State → State) :
    s.settled.lineEvent change f = s.lineEvent change f := by
  simp only [State.lineEvent, State.settled_settled running]

theorem State.hostCommand_settled (code : Byte) (take : State → State) :
    s.settled.hostCommand code take = s.hostCommand code take := by
  simp only [State.hostCommand, State.settled_settled running]

theorem execFrameStart_settled : execFrameStart s.settled = execFrameStart s := by
  simp only [execFrameStart, running, State.hold_settled running, if_true, State.finishFrame, State.settled_settled running]

end

/-- Settles O4. -/
theorem walksEndBeforeOtherEvents : Obligations.WalksEndBeforeOtherEvents := by
  refine ⟨fun s running => (State.settled_ready running).1, fun s quiet => quiet.settled_eq,
    fun c s running notExpiry notReset => Eq.symm ?_⟩
  have settled := State.settled_settled running
  cases c
  case powerUp | rstLow | rstHigh | resetRelease => cases notReset
  case leaseExpiry | answerExpiry | queueTimeout | rosterDeadlineExpiry => cases notExpiry
  case frameStart => exact execFrameStart_settled running
  case uplinkGrant | drqFall | dprFall | dprRise | presenceLoss =>
    exact congrArg Host.Outcome.next (State.lineEvent_settled running _ _)
  case uplinkHeader | uplinkWord | messageDeparture | guardEnd | leaseCountdownWalk | queueDeadlineWalk |
      rosterDeadlineWalk | commandCompletion =>
    exact congrArg Host.Outcome.next (State.event_settled running _)
  case attach | detach | request | accept | decline | renew | release | query | cancel | rosterBegin | rosterPart |
      rosterEnd =>
    exact congrArg Host.Outcome.next (State.message_settled running _ _)
  case spiReadCapture => simp only [exec, execSpiReadCapture, settled]
  case registerWrite => simp only [exec, execRegisterWrite, settled]
  case notifyPendingWrite => simp only [exec, execNotifyPendingWrite, settled]
  case notifyEnableWrite => simp only [exec, execNotifyEnableWrite, settled]
  case commandCollision => simp only [exec, execCommandCollision, settled]
  case unknownCommand => simp only [exec, execUnknownCommand, settled]
  case openHighway | drain | close | reset | readStation | readConnection | readSlots | readQueue | readDeny |
      readPolicy | denyAdd | denyRemove | evict | setQuota | pin | unpin | forceRelease | setPolicy | setTiming =>
    exact congrArg Host.Outcome.next (State.hostCommand_settled running _ _)

end Sys2Proof.Machine
end

section
/-! The Lease Engine's walk and its expiries (R36 to R38). -/

namespace Sys2Proof.Machine

set_option Elab.async false -- one proof at a time: waiting proofs would hold a thread each

/-! ### One countdown -/

/-- A connection the walk has passed at the parity: a countdown of the superframe that ends is lowered (R36). -/
def Connection.lowered (p : Parity) (k : Connection) : Connection :=
  match k.countdown with
  | some d => if d.superframe = p then k else { k with countdown := some ⟨d.remaining - 1, p⟩ }
  | none => k

/-- The connection's countdown reaches 0 when the walk passes it (R36). -/
def Connection.RunsOut (p : Parity) (k : Connection) : Prop :=
  ∃ d, k.countdown = some d ∧ d.superframe ≠ p ∧ d.remaining ≤ 1

theorem State.setConnection_self (s : State) (i : Index) : s.setConnection i (s.connection i) = s := by
  have same : s.connections.set i (s.connection i) = s.connections := by
    simp [State.connection]
  rw [State.setConnection, same]

/-- The walk has passed an index. -/
def State.lowerAt (s : State) (i : Index) : State :=
  s.setConnection i ((s.connection i).map (Connection.lowered s.timer.parity))

/-- The walk passes an index whose countdown does not run out there (R36). -/
theorem State.walkConnections_cons_of_stays {s : State} {i : Index}
    (stays : ∀ k, s.connection i = some k → ¬ k.RunsOut s.timer.parity) (rest : List Index) :
    s.walkConnections (i :: rest) = (s.lowerAt i).walkConnections rest := by
  have idle (same : (s.connection i).map (Connection.lowered s.timer.parity) = s.connection i) : s.lowerAt i = s := by
    rw [State.lowerAt, same, State.setConnection_self]
  simp only [State.walkConnections]
  split
  · rename_i unused
    rw [idle (by rw [unused]; rfl)]
  rename_i k here
  split
  · rename_i untimed
    rw [idle (by simp [here, Connection.lowered, untimed])]
  rename_i d timed
  have above (counted : d.superframe ≠ s.timer.parity) : d.remaining - 1 ≠ 0 := by
    intro zero
    exact stays k here ⟨d, timed, counted, by omega⟩
  by_cases kept : d.superframe = s.timer.parity
  · rw [if_neg (by simp [State.counts, kept]), idle (by simp [here, Connection.lowered, timed, kept])]
  · rw [if_pos (by simp [State.counts, kept])]
    simp only [State.lowered, above kept, if_false, State.lowerAt, here, Option.map_some, Connection.lowered, timed, kept]

/-- The walk stands at an index whose countdown runs out there (R36). -/
theorem State.walkConnections_cons_of_runsOut {s : State} {i : Index} {k : Connection} (here : s.connection i = some k)
    (out : k.RunsOut s.timer.parity) (rest : List Index) :
    s.walkConnections (i :: rest) = { s.lowerAt i with due := some (.connection i) } := by
  obtain ⟨d, timed, counted, low⟩ := out
  have zero : d.remaining - 1 = 0 := by omega
  simp only [State.walkConnections, here, timed]
  rw [if_pos (by simp [State.counts, counted])]
  simp only [State.lowered, zero, if_true, State.lowerAt, here, Option.map_some, Connection.lowered, timed, counted,
    if_false]

/-! ### A stretch of the walk -/

/-- The walk has passed the indices of a list. -/
def State.lowerEach (s : State) (list : List Index) : State := list.foldl State.lowerAt s

@[simp] theorem State.timer_lowerAt (s : State) (i : Index) : (s.lowerAt i).timer = s.timer := rfl

theorem State.connection_lowerAt (s : State) (i j : Index) :
    (s.lowerAt i).connection j =
      if i = j then (s.connection j).map (Connection.lowered s.timer.parity) else s.connection j := by
  rw [State.lowerAt, State.connection_setConnection]
  split
  · rename_i same
    rw [same]
  · rfl

/-- Each index of a list without repetition is lowered once. -/
theorem State.lowerEach_eq {s : State} {list : List Index} (nodup : list.Nodup) :
    s.lowerEach list = { s with
      connections := s.connections.mapIdx fun j k =>
        if ∃ i ∈ list, i.val = j then k.map (Connection.lowered s.timer.parity) else k } := by
  induction list generalizing s with
  | nil => simp [State.lowerEach, mapIdx_ignoring_index]
  | cons i rest ih =>
    obtain ⟨once, nodup⟩ := List.nodup_cons.mp nodup
    have stretch : s.lowerEach (i :: rest) = (s.lowerAt i).lowerEach rest := rfl
    rw [stretch, ih nodup]
    have table : ((s.lowerAt i).connections.mapIdx fun j k =>
        if ∃ a ∈ rest, a.val = j then k.map (Connection.lowered s.timer.parity) else k) =
        s.connections.mapIdx fun j k =>
          if ∃ a ∈ i :: rest, a.val = j then k.map (Connection.lowered s.timer.parity) else k := by
      refine connections_ext fun j => ?_
      have before := s.connection_lowerAt i j
      simp only [State.connection] at before
      simp only [Fin.getElem_fin, Vector.getElem_mapIdx, Fin.val_inj, exists_eq_right, List.mem_cons] at before ⊢
      rw [before]
      by_cases same : i = j
      · subst same
        simp [once]
      · simp [same, Ne.symm same]
    rw [State.timer_lowerAt, table]
    rfl

/-- The walk passes a stretch of indices whose countdowns do not run out (R36). -/
theorem State.walkConnections_append_of_stay {s : State} {stretch : List Index} (nodup : stretch.Nodup)
    (stay : ∀ i ∈ stretch, ∀ k, s.connection i = some k → ¬ k.RunsOut s.timer.parity) (rest : List Index) :
    s.walkConnections (stretch ++ rest) = (s.lowerEach stretch).walkConnections rest := by
  induction stretch generalizing s with
  | nil => rfl
  | cons i more ih =>
    obtain ⟨once, nodup⟩ := List.nodup_cons.mp nodup
    have others : ∀ j ∈ more, ∀ k, (s.lowerAt i).connection j = some k → ¬ k.RunsOut (s.lowerAt i).timer.parity := by
      intro j there k here
      have differ : i ≠ j := fun same => once (same ▸ there)
      rw [State.connection_lowerAt, if_neg differ] at here
      exact stay j (List.mem_cons_of_mem i there) k here
    rw [List.cons_append, State.walkConnections_cons_of_stays (stay i (List.mem_cons_self ..)), ih nodup others]
    rfl

/-- The walk's order at an index: the lower ones stand before it. -/
theorem allIndices_split (i : Index) : ∃ before after, allIndices = before ++ i :: after ∧ ∀ j, j ∈ before ↔ j < i := by
  obtain ⟨before, after, split⟩ := List.append_of_mem (List.mem_finRange i)
  have ascending : (before ++ i :: after).Pairwise (· < ·) := split ▸ List.pairwise_lt_finRange 32
  obtain ⟨-, upward, below⟩ := List.pairwise_append.mp ascending
  obtain ⟨above, -⟩ := List.pairwise_cons.mp upward
  refine ⟨before, after, split, fun j => ⟨fun there => below j there i (List.mem_cons_self ..), fun lower => ?_⟩⟩
  have listed : j ∈ before ++ i :: after := split ▸ List.mem_finRange j
  obtain there | same | later : j ∈ before ∨ j = i ∨ j ∈ after := by simpa using listed
  · exact there
  · exact absurd same lower.ne
  · exact absurd (above j later) lower.asymm

/-- The walk with no countdown to run out (R36). -/
theorem State.walkConnections_of_stay {s : State}
    (stay : ∀ i k, s.connection i = some k → ¬ k.RunsOut s.timer.parity) :
    s.walkConnections allIndices = { s with
      connections := s.connections.map fun k => k.map (Connection.lowered s.timer.parity)
      due := none } := by
  have table : (s.connections.mapIdx fun j k =>
      if ∃ i ∈ allIndices, i.val = j then k.map (Connection.lowered s.timer.parity) else k) =
      s.connections.map fun k => k.map (Connection.lowered s.timer.parity) := by
    refine connections_ext fun j => ?_
    have listed : ∃ i ∈ allIndices, i.val = j.val := ⟨j, List.mem_finRange j, rfl⟩
    simp [listed]
  have walked := State.walkConnections_append_of_stay (List.nodup_finRange 32) (fun i _ => stay i) []
  rw [List.append_nil, State.lowerEach_eq (List.nodup_finRange 32)] at walked
  exact walked.trans (by rw [State.walkConnections, ← table]; rfl)

/-- The walk stands at the first index whose countdown runs out (R36). -/
theorem State.walkConnections_of_runsOut {s : State} {i : Index} {k : Connection} (here : s.connection i = some k)
    (out : k.RunsOut s.timer.parity)
    (lower : ∀ j x, j < i → s.connection j = some x → ¬ x.RunsOut s.timer.parity) :
    s.walkConnections allIndices = { s with
      connections := s.connections.mapIdx fun j k =>
        if j ≤ i.val then k.map (Connection.lowered s.timer.parity) else k
      due := some (.connection i) } := by
  obtain ⟨before, after, split, below⟩ := allIndices_split i
  have nodup : (before ++ [i]).Nodup := by
    have all : (before ++ i :: after).Nodup := split ▸ List.nodup_finRange 32
    exact all.sublist (by simp)
  have reached : (s.lowerEach before).connection i = some k := by
    have absent : i ∉ before := fun there => lt_irrefl i ((below i).mp there)
    rw [State.lowerEach_eq (nodup.sublist (List.sublist_append_left ..))]
    simpa [State.connection, Fin.val_inj, absent] using here
  have parity : (s.lowerEach before).timer = s.timer := by
    rw [State.lowerEach_eq (nodup.sublist (List.sublist_append_left ..))]
  have passed : (s.lowerEach before).lowerAt i = s.lowerEach (before ++ [i]) := by
    simp [State.lowerEach]
  have table : (s.connections.mapIdx fun j k =>
      if ∃ a ∈ before ++ [i], a.val = j then k.map (Connection.lowered s.timer.parity) else k) =
      s.connections.mapIdx fun j k => if j ≤ i.val then k.map (Connection.lowered s.timer.parity) else k := by
    refine connections_ext fun j => ?_
    have listed : (∃ a ∈ before ++ [i], a.val = j.val) ↔ j.val ≤ i.val := by
      simp only [Fin.val_inj, exists_eq_right, List.mem_append, below, List.mem_singleton]
      exact le_iff_lt_or_eq.symm
    simp only [Fin.getElem_fin, Vector.getElem_mapIdx, listed]
  rw [split, State.walkConnections_append_of_stay (nodup.sublist (List.sublist_append_left ..))
      (fun j there x used => lower j x ((below j).mp there) used),
    State.walkConnections_cons_of_runsOut reached (parity ▸ out), passed, State.lowerEach_eq nodup, table]

/-- Settles O39. -/
theorem leaseWalkLowersAndExpires : Obligations.LeaseWalkLowersAndExpires := by
  refine ⟨fun s quiet => ?_, fun s none => ?_, fun s i k x y running due here originator answerer => ?_⟩
  · intro lowered runsOut
    have walks : exec .leaseCountdownWalk s = .next s.takeOwedLeaseWalk := congrArg _ (quiet.event_eq _)
    refine ⟨fun idle => ?_, fun owed => ⟨fun stay => ?_, fun i k here out lower => ?_⟩⟩
    · rw [walks, State.takeOwedLeaseWalk, if_neg (by simp [idle])]
    all_goals
      rw [walks, State.takeOwedLeaseWalk, if_pos owed]
      let begun : State := { s with owed := { s.owed with leaseWalk := false } }
    · have walked : begun.walkConnections allIndices = _ := State.walkConnections_of_stay (s := begun) stay
      rw [walked, ← quiet.2]
      rfl
    · have walked : begun.walkConnections allIndices = _ := State.walkConnections_of_runsOut (s := begun) here out lower
      rw [walked]
      rfl
  · have never (state : ConnectionState) : s.dueIn state = false := by
      simp only [State.dueIn, none]
    constructor
    · simp only [exec, execLeaseExpiry, never, Bool.false_eq_true, and_false, if_false]
    · simp only [exec, execAnswerExpiry, never, Bool.false_eq_true, and_false, if_false]
  · intro reference onward
    have dueIn (state : ConnectionState) : s.dueIn state = decide (k.state = state) := by
      simp only [State.dueIn, due, here, Option.any_some]
    have taken : s.takeDue = (s.expireConnection i).walkConnections onward := by
      simp only [State.takeDue, due]
      rfl
    have named : s.referenceOf i = reference := rfl
    refine ⟨fun active => ⟨?_, ?_⟩, fun offered => ⟨?_, ?_⟩⟩
    · simp [exec, execAnswerExpiry, dueIn, active]
    · simp only [exec, execLeaseExpiry, dueIn, active, running, decide_true, and_self, if_true, taken,
        State.expireConnection, here, State.removeConnection_to_both originator answerer, named]
    · simp [exec, execLeaseExpiry, dueIn, offered]
    · simp only [exec, execAnswerExpiry, dueIn, offered, running, decide_true, and_self, if_true, taken,
        State.expireConnection, here, State.removeConnection_to_both originator answerer, named]

end Sys2Proof.Machine
end

section
/-! The drain, exactly (R47, R61, R158, R159). -/

namespace Sys2Proof.Machine

set_option Elab.async false -- one proof at a time: waiting proofs would hold a thread each

/-! ### A change of the tables and an offer do not meet -/

/-- The Slot Map, the Connection Table, the Wait Queue and the change counter are replaced, and flags are added. -/
def State.withTables (slots : Vector SlotRecord 62) (connections : Vector (Option Connection) 32)
    (waitQueue : List Entry) (changes : BitVec 16) (flags : BitVec 10) (s : State) : State :=
  { s with
    slots := slots
    connections := connections
    waitQueue := waitQueue
    connectionChanges := changes
    flags := s.flags ||| flags }

theorem State.offer_withTables (s : State) (slots : Vector SlotRecord 62) (connections : Vector (Option Connection) 32)
    (waitQueue : List Entry) (changes : BitVec 16) (flags : BitVec 10) (m : DownMessage) :
    (s.withTables slots connections waitQueue changes flags).offer m =
      (s.offer m).withTables slots connections waitQueue changes flags := by
  have room : (s.withTables slots connections waitQueue changes flags).downlinkFree = s.downlinkFree := rfl
  have raised : (s.withTables slots connections waitQueue changes flags).raise .sync =
      (s.raise .sync).withTables slots connections waitQueue changes flags := by
    have flipped : s.flags ||| flags ||| Flag.sync.mask = s.flags ||| Flag.sync.mask ||| flags := by
      rw [BitVec.or_assoc, BitVec.or_comm flags, ← BitVec.or_assoc]
    simp only [State.withTables, State.raise, flipped]
  have found : ((s.raise .sync).withTables slots connections waitQueue changes flags).lookup m.destination =
      (s.raise .sync).lookup m.destination := rfl
  unfold State.offer State.oweSync
  rw [room, raised, found]
  split
  · rfl
  · split
    · split <;> rfl
    · rfl

theorem State.offerAll_withTables (s : State) (slots : Vector SlotRecord 62) (connections : Vector (Option Connection) 32)
    (waitQueue : List Entry) (changes : BitVec 16) (flags : BitVec 10) (messages : List DownMessage) :
    (s.withTables slots connections waitQueue changes flags).offerAll messages =
      (s.offerAll messages).withTables slots connections waitQueue changes flags := by
  induction messages generalizing s with
  | nil => rfl
  | cons m rest ih => rw [State.offerAll_cons, State.offer_withTables, ih, State.offerAll_cons]

@[simp] theorem State.offerAll_highway (s : State) (messages : List DownMessage) :
    (s.offerAll messages).highway = s.highway :=
  s.offerAll_keeps (fun t => t.highway = s.highway) (fun t m same => by simpa using same) messages rfl

@[simp] theorem State.offerAll_waitQueue (s : State) (messages : List DownMessage) :
    (s.offerAll messages).waitQueue = s.waitQueue :=
  s.offerAll_keeps (fun t => t.waitQueue = s.waitQueue) (fun t m same => by simpa using same) messages rfl

@[simp] theorem State.offerAll_connection (s : State) (messages : List DownMessage) (i : Index) :
    (s.offerAll messages).connection i = s.connection i := (s.sameMap_offerAll messages).connection i

/-- A walk whose every step changes the tables and offers messages makes all its changes and then offers all its messages,
where no offer and no earlier step bears on a later one. -/
theorem State.foldl_eq_offerAll_after {α : Type} (f change : State → α → State) (messages : State → α → List DownMessage)
    (step : ∀ t a, f t a = (change t a).offerAll (messages t a))
    (through : ∀ (t : State) sent a, change (t.offerAll sent) a = (change t a).offerAll sent)
    (stable : ∀ (t : State) sent a, messages (t.offerAll sent) a = messages t a) {list : List α}
    (apart : list.Pairwise fun a b => ∀ t, messages (change t a) b = messages t b) (s : State) :
    list.foldl f s = (list.foldl change s).offerAll (list.flatMap (messages s)) := by
  have changes (rest : List α) (t : State) (sent : List DownMessage) :
      rest.foldl change (t.offerAll sent) = (rest.foldl change t).offerAll sent := by
    induction rest generalizing t with
    | nil => rfl
    | cons a more ih => rw [List.foldl_cons, through, ih, List.foldl_cons]
  induction list generalizing s with
  | nil => rfl
  | cons a rest ih =>
    obtain ⟨first, apart⟩ := List.pairwise_cons.mp apart
    have same : rest.flatMap (messages (f s a)) = rest.flatMap (messages s) :=
      List.flatMap_congr fun b there => by rw [step, stable, first b there s]
    rw [List.foldl_cons, ih apart, same, step, changes, ← State.offerAll_append, List.foldl_cons, List.flatMap_cons]

/-! ### The Wait Queue's part (R61) -/

/-- The refusals of a drain, in queue order (R61). -/
def State.drainRefusals (s : State) : List DownMessage :=
  s.waitQueue.flatMap fun e => s.messagesTo e.source (.refuse .highwayDraining (some e.tag) none)

theorem State.removeEntry_eq_withTables (s : State) (e : Entry) :
    s.removeEntry e = s.withTables s.slots s.connections (s.waitQueue.erase e) s.connectionChanges 0 := by
  have flags : s.flags ||| 0 = s.flags := BitVec.or_zero
  rw [State.withTables, flags]
  rfl

theorem State.removeEntry_offerAll (s : State) (sent : List DownMessage) (e : Entry) :
    (s.offerAll sent).removeEntry e = (s.removeEntry e).offerAll sent := by
  have same := s.sameMap_offerAll sent
  rw [State.removeEntry_eq_withTables, State.removeEntry_eq_withTables, State.offerAll_withTables, same.slots,
    same.connections, State.offerAll_waitQueue, State.offerAll_connectionChanges]

theorem State.foldl_removeEntry (s : State) (list : List Entry) :
    list.foldl (fun (t : State) e => t.removeEntry e) s = { s with waitQueue := list.foldl List.erase s.waitQueue } := by
  induction list generalizing s with
  | nil => rfl
  | cons e rest ih => rw [List.foldl_cons, ih]; rfl

theorem foldl_erase_self {α : Type} [BEq α] [LawfulBEq α] (list : List α) : list.foldl List.erase list = [] := by
  induction list with
  | nil => rfl
  | cons a rest ih => rw [List.foldl_cons, List.erase_cons_head, ih]

/-- The queue is emptied, and every source told (R61). -/
theorem State.drainEntries_eq (s : State) : s.drainEntries = State.offerAll s.drainRefusals { s with waitQueue := [] } := by
  have walked := State.foldl_eq_offerAll_after State.drainEntry (fun t e => t.removeEntry e)
    (fun t e => t.messagesTo e.source (.refuse .highwayDraining (some e.tag) none))
    (fun t e => State.tell_eq_offerAll ..) (fun t sent e => t.removeEntry_offerAll sent e)
    (fun t sent e => t.messagesTo_offerAll ..) (list := s.waitQueue) (List.pairwise_of_forall fun _ _ _ => rfl) s
  rw [State.foldl_removeEntry, foldl_erase_self] at walked
  exact walked

/-! ### The Lease Engine's part (R47) -/

/-- The drain withdraws the record of the index: it is not ACTIVE (R47). -/
def State.drains (s : State) (i : Index) : Bool := (s.connection i).any fun k => k.state ≠ .active

/-- The notices of one withdrawal, the originator's first; the answerer of a PENDING connection is told nothing (R47). -/
def State.drainNotices (s : State) (i : Index) : List DownMessage :=
  match s.connection i with
  | none => []
  | some k =>
    if k.state = .active then []
    else
      s.messagesTo k.originator (.refuse .drained (some k.tag) none) ++
        if k.state = .offered then s.messagesTo k.answerer (.released (s.referenceOf i) .drained) else []

/-- One withdrawal of a drain, its notices apart. -/
def State.drainAt (s : State) (i : Index) : State :=
  match s.connection i with
  | none => s
  | some k => if k.state = .active then s else s.dropConnection i k

theorem State.drainAt_of_none {s : State} {i : Index} (unused : s.connection i = none) : s.drainAt i = s := by
  simp only [State.drainAt, unused]

theorem State.drainAt_of_active {s : State} {i : Index} {k : Connection} (here : s.connection i = some k)
    (active : k.state = .active) : s.drainAt i = s := by
  simp only [State.drainAt, here, active, if_true]

theorem State.drainAt_of_waiting {s : State} {i : Index} {k : Connection} (here : s.connection i = some k)
    (waits : k.state ≠ .active) : s.drainAt i = s.dropConnection i k := by
  simp only [State.drainAt, here, waits, if_false]

theorem State.dropConnection_eq_withTables (s : State) (i : Index) (c : Connection) :
    s.dropConnection i c =
      s.withTables (s.slots.map (SlotRecord.dropped c.state i s.timer.parity)) (s.connections.set i none) s.waitQueue
        (s.connectionChanges + 1)
        ((if c.state = .active then 0x4 else 0) |||
          (if s.highway = .draining ∧ ∀ j, j ≠ i → s.connection j = none then 0x80 else 0)) := by
  rw [s.dropConnection_eq i c _ fun _ => rfl, BitVec.or_assoc]
  rfl

theorem State.dropConnection_offerAll (s : State) (sent : List DownMessage) (i : Index) (c : Connection) :
    (s.offerAll sent).dropConnection i c = (s.dropConnection i c).offerAll sent := by
  have same := s.sameMap_offerAll sent
  rw [State.dropConnection_eq_withTables, State.dropConnection_eq_withTables, State.offerAll_withTables, same.slots,
    same.connections]
  simp only [State.offerAll_waitQueue, State.offerAll_connectionChanges, State.offerAll_timer, State.offerAll_highway,
    State.offerAll_connection]

theorem State.drainAt_offerAll (s : State) (sent : List DownMessage) (i : Index) :
    (s.offerAll sent).drainAt i = (s.drainAt i).offerAll sent := by
  simp only [State.drainAt, State.offerAll_connection, State.dropConnection_offerAll]
  split
  · rfl
  · split <;> rfl

theorem State.drainNotices_offerAll (s : State) (sent : List DownMessage) (i : Index) :
    (s.offerAll sent).drainNotices i = s.drainNotices i := by
  simp only [State.drainNotices, State.offerAll_connection, State.messagesTo_offerAll, State.referenceOf,
    State.offerAll_serial]

theorem State.messagesTo_dropConnection (s : State) (i : Index) (c : Connection) (h : Handle) (body : DownBody) :
    (s.dropConnection i c).messagesTo h body = s.messagesTo h body := by
  simp only [State.messagesTo, State.station, State.dropConnection_stations]

theorem State.drainNotices_drainAt (s : State) {i j : Index} (other : i ≠ j) :
    (s.drainAt i).drainNotices j = s.drainNotices j := by
  unfold State.drainAt
  split
  · rfl
  split
  · rfl
  · simp only [State.drainNotices, State.dropConnection_connection, if_neg other, State.messagesTo_dropConnection,
      State.referenceOf, State.serial, State.dropConnection_serials]

/-- One withdrawal of a drain with its notices (R47). -/
theorem State.drainConnection_eq (s : State) (i : Index) :
    s.drainConnection i = (s.drainAt i).offerAll (s.drainNotices i) := by
  cases here : s.connection i with
  | none => simp only [State.drainConnection, State.drainAt, State.drainNotices, here, State.offerAll_nil]
  | some k =>
    have told (body : DownBody) : (s.dropConnection i k).tell k.originator body =
        (s.dropConnection i k).offerAll (s.messagesTo k.originator body) := by
      rw [State.tell_eq_offerAll, State.messagesTo_dropConnection]
    simp only [State.drainConnection, State.drainAt, State.drainNotices, here, State.removeConnection, State.tellOpt,
      State.noticeToOriginator, State.noticeToAnswerer, told]
    cases k.state with
    | active => simp
    | pending => simp
    | offered =>
      simp only [reduceCtorEq, if_false, if_true, State.tell_eq_offerAll, State.messagesTo_offerAll,
        State.messagesTo_dropConnection, State.offerAll_append]

/-! ### What one withdrawal of a drain changes -/

theorem State.drains_eq_false_of_none {s : State} {i : Index} (unused : s.connection i = none) : s.drains i = false := by
  simp only [State.drains, unused, Option.any_none]

theorem State.drains_eq {s : State} {i : Index} {k : Connection} (here : s.connection i = some k) :
    s.drains i = decide (k.state ≠ .active) := by
  simp only [State.drains, here, Option.any_some]

/-- A withdrawal of a drain happens, or nothing does. -/
theorem State.drainAt_cases (s : State) (i : Index) :
    s.drains i = false ∧ s.drainAt i = s ∨
      ∃ k, s.drains i = true ∧ s.connection i = some k ∧ k.state ≠ .active ∧ s.drainAt i = s.dropConnection i k := by
  cases here : s.connection i with
  | none => exact .inl ⟨State.drains_eq_false_of_none here, State.drainAt_of_none here⟩
  | some k =>
    by_cases active : k.state = .active
    · exact .inl ⟨by simp [State.drains_eq here, active], State.drainAt_of_active here active⟩
    · exact .inr ⟨k, by simp [State.drains_eq here, active], rfl, active, State.drainAt_of_waiting here active⟩

/-- What withdrawals of the indices that leave make of a slot record (R14). -/
def SlotRecord.withdrawnWhere (leaves : Index → Bool) : SlotRecord → SlotRecord
  | .reserved i => if leaves i then .free else .reserved i
  | .guard (some i) p => if leaves i then .guard none p else .guard (some i) p
  | .guard none p => .guard none p
  | .held i => .held i
  | .free => .free

theorem SlotRecord.withdrawnWhere_of_none (x : SlotRecord) : x.withdrawnWhere (fun _ => false) = x := by
  match x with
  | .reserved _ | .guard (some _) _ => simp [SlotRecord.withdrawnWhere]
  | .guard none _ | .held _ | .free => rfl

theorem SlotRecord.withdrawn_eq_withdrawnWhere (i : Index) (x : SlotRecord) :
    x.withdrawn i = x.withdrawnWhere fun j => j = i := by
  match x with
  | .reserved _ | .guard (some _) _ => simp [SlotRecord.withdrawnWhere, SlotRecord.withdrawn]
  | .guard none _ | .held _ | .free => rfl

theorem SlotRecord.withdrawnWhere_withdrawnWhere (p q : Index → Bool) (x : SlotRecord) :
    (x.withdrawnWhere p).withdrawnWhere q = x.withdrawnWhere fun i => p i || q i := by
  match x with
  | .reserved j | .guard (some j) _ => cases first : p j <;> simp [SlotRecord.withdrawnWhere, first]
  | .guard none _ | .held _ | .free => rfl

theorem State.connection_drainAt (s : State) (i j : Index) :
    (s.drainAt i).connection j = if i = j ∧ s.drains i = true then none else s.connection j := by
  obtain ⟨stays, same⟩ | ⟨k, leaves, -, -, same⟩ := s.drainAt_cases i
  · simp [stays, same]
  · simp [leaves, same]

theorem State.slots_drainAt (s : State) (i : Index) :
    (s.drainAt i).slots = s.slots.map (SlotRecord.withdrawnWhere fun j => j = i && s.drains i) := by
  obtain ⟨stays, same⟩ | ⟨k, leaves, -, waits, same⟩ := s.drainAt_cases i
  · have nothing : (SlotRecord.withdrawnWhere fun j => j = i && s.drains i) = id :=
      funext fun x => by simpa [stays] using x.withdrawnWhere_of_none
    rw [same, nothing, Vector.map_id]
  · rw [same, State.dropConnection_eq_withTables]
    refine congrArg (s.slots.map ·) (funext fun x => ?_)
    rw [SlotRecord.dropped, if_neg waits, SlotRecord.withdrawn_eq_withdrawnWhere, leaves]
    simp only [Bool.and_true]

theorem State.changes_drainAt (s : State) (i : Index) :
    (s.drainAt i).connectionChanges = s.connectionChanges + if s.drains i then 1 else 0 := by
  obtain ⟨stays, same⟩ | ⟨k, leaves, -, -, same⟩ := s.drainAt_cases i
  · simp [stays, same]
  · rw [same, State.dropConnection_eq_withTables, leaves]
    rfl

/-- A withdrawal that empties the table in DRAINING raises DRAINED (R161). -/
theorem State.flags_drainAt {s : State} (draining : s.highway = .draining) (i : Index) :
    (s.drainAt i).flags =
      s.flags ||| if s.drains i = true ∧ ∀ j, (s.drainAt i).connection j = none then 0x80 else 0 := by
  obtain ⟨stays, same⟩ | ⟨k, leaves, -, waits, same⟩ := s.drainAt_cases i
  · simp [stays, same]
  · have empties : (∀ j, (s.dropConnection i k).connection j = none) ↔ ∀ j, j ≠ i → s.connection j = none := by
      simp only [State.dropConnection_connection, ite_eq_left_iff]
      exact forall_congr' fun j => imp_congr_left ne_comm
    rw [same, State.flags_dropConnection, if_neg waits, if_congr (and_congr_left' (iff_of_true draining leaves)) rfl rfl,
      if_congr (and_congr_right' empties) rfl rfl]
    exact congrArg (· ||| _) BitVec.or_zero

/-- A withdrawal of a drain leaves the rest of the part alone. -/
theorem State.drainAt_frame (s : State) (i : Index) :
    s.drainAt i = { s with
      slots := (s.drainAt i).slots
      connections := (s.drainAt i).connections
      connectionChanges := (s.drainAt i).connectionChanges
      flags := (s.drainAt i).flags } := by
  obtain ⟨-, same⟩ | ⟨k, -, -, -, same⟩ := s.drainAt_cases i
  · rw [same]
  · rw [same, State.dropConnection_eq_withTables]
    rfl

/-! ### The withdrawals of a drain together -/

/-- The withdrawals of a list of indices, their notices apart. -/
def State.drainEach (s : State) (list : List Index) : State := list.foldl State.drainAt s

theorem State.drainEach_concat (s : State) (list : List Index) (i : Index) :
    s.drainEach (list ++ [i]) = (s.drainEach list).drainAt i := List.foldl_concat ..

theorem State.drainEach_frame (s : State) (list : List Index) :
    s.drainEach list = { s with
      slots := (s.drainEach list).slots
      connections := (s.drainEach list).connections
      connectionChanges := (s.drainEach list).connectionChanges
      flags := (s.drainEach list).flags } := by
  induction list using List.reverseRecOn with
  | nil => rfl
  | append_singleton before i ih =>
    rw [State.drainEach_concat, State.drainAt_frame, ih]

theorem State.connection_drainEach (s : State) (list : List Index) (j : Index) :
    (s.drainEach list).connection j = if j ∈ list ∧ s.drains j = true then none else s.connection j := by
  induction list using List.reverseRecOn with
  | nil => simp [State.drainEach]
  | append_singleton earlier i ih =>
    rw [State.drainEach_concat, State.connection_drainAt, ih]
    by_cases same : i = j
    · subst same
      by_cases before : i ∈ earlier ∧ s.drains i = true
      · simp [before]
      · have still : State.drains (State.drainEach s earlier) i = s.drains i := by
          rw [State.drains, ih, if_neg before, State.drains]
        simp [still, before]
    · simp [same, Ne.symm same]

theorem State.drains_drainEach {s : State} {list : List Index} {i : Index} (fresh : i ∉ list) :
    (s.drainEach list).drains i = s.drains i := by
  simp only [State.drains, State.connection_drainEach, fresh, false_and, if_false]

theorem State.slots_drainEach {s : State} {list : List Index} (nodup : list.Nodup) :
    (s.drainEach list).slots = s.slots.map (SlotRecord.withdrawnWhere fun j => j ∈ list && s.drains j) := by
  induction list using List.reverseRecOn with
  | nil =>
    have nothing : (SlotRecord.withdrawnWhere fun j => j ∈ ([] : List Index) && s.drains j) = id :=
      funext fun x => by simpa using x.withdrawnWhere_of_none
    rw [nothing, Vector.map_id]
    rfl
  | append_singleton before i ih =>
    obtain ⟨earlier, -, apart⟩ := List.nodup_append.mp nodup
    have fresh : i ∉ before := fun there => apart i there i (List.mem_singleton_self i) rfl
    rw [State.drainEach_concat, State.slots_drainAt, ih earlier, State.drains_drainEach fresh, Vector.map_map]
    refine congrArg (s.slots.map ·) (funext fun x => ?_)
    rw [Function.comp_apply, SlotRecord.withdrawnWhere_withdrawnWhere]
    refine congrArg (x.withdrawnWhere ·) (funext fun j => ?_)
    by_cases same : j = i
    · subst same
      simp [fresh]
    · simp [same]

theorem State.changes_drainEach {s : State} {list : List Index} (nodup : list.Nodup) :
    (s.drainEach list).connectionChanges =
      s.connectionChanges + BitVec.ofNat 16 (list.filter s.drains).length := by
  induction list using List.reverseRecOn with
  | nil => simp [State.drainEach]
  | append_singleton before i ih =>
    obtain ⟨earlier, -, apart⟩ := List.nodup_append.mp nodup
    have fresh : i ∉ before := fun there => apart i there i (List.mem_singleton_self i) rfl
    rw [State.drainEach_concat, State.changes_drainAt, ih earlier, State.drains_drainEach fresh, BitVec.add_assoc]
    cases leaves : s.drains i with
    | false => simp [leaves]
    | true => simp [leaves, BitVec.ofNat_add]

/-- DRAINED is raised where withdrawals have emptied the table (R161). -/
theorem State.flags_drainEach {s : State} (draining : s.highway = .draining) {list : List Index} (nodup : list.Nodup) :
    (s.drainEach list).flags =
      s.flags ||| if (∃ i ∈ list, s.drains i = true) ∧ ∀ j, (s.drainEach list).connection j = none then 0x80 else 0 := by
  induction list using List.reverseRecOn with
  | nil => simp [State.drainEach]
  | append_singleton before i ih =>
    obtain ⟨earlier, -, apart⟩ := List.nodup_append.mp nodup
    have fresh : i ∉ before := fun there => apart i there i (List.mem_singleton_self i) rfl
    have highway : (s.drainEach before).highway = .draining := by
      rw [State.drainEach_frame]
      exact draining
    rw [State.drainEach_concat, State.flags_drainAt highway, ih earlier, State.drains_drainEach fresh]
    cases leaves : s.drains i with
    | false =>
      have same : (s.drainEach before).drainAt i = s.drainEach before := by
        obtain ⟨-, same⟩ | ⟨k, other, -⟩ := (s.drainEach before).drainAt_cases i
        · exact same
        · rw [State.drains_drainEach fresh, leaves] at other
          cases other
      simp [same, leaves]
    | true =>
      have stands : ¬ ∀ j, (s.drainEach before).connection j = none := by
        intro empty
        have none := State.drains_eq_false_of_none (empty i)
        rw [State.drains_drainEach fresh, leaves] at none
        cases none
      simp [stands, leaves]

/-! ### The drain -/

theorem flatMap_filter_eq {α β : Type} (p : α → Bool) (f : α → List β) (list : List α) :
    (list.filter p).flatMap f = list.flatMap fun a => if p a then f a else [] := by
  induction list with
  | nil => rfl
  | cons a rest ih => cases here : p a <;> simp [here, ih]

theorem State.filter_active_eq (s : State) (i : Index) :
    ((s.connection i).filter fun k => k.state = .active) = if s.drains i = true then none else s.connection i := by
  cases here : s.connection i with
  | none => simp
  | some k => by_cases active : k.state = .active <;> simp [State.drains_eq here, active, Option.filter]

/-- No connection is ACTIVE: a drain leaves none. -/
theorem State.drains_all_iff (s : State) :
    (∀ i, ∀ k ∈ s.connection i, k.state ≠ .active) ↔ ∀ i, s.connection i = none ∨ s.drains i = true := by
  refine forall_congr' fun i => ?_
  cases here : s.connection i with
  | none => simp
  | some k => simp [State.drains_eq here]

theorem State.connections_drainEach_all (s : State) :
    (s.drainEach allIndices).connections =
      s.connections.map fun k : Option Connection => k.filter fun k => k.state = .active := by
  refine connections_ext fun i => ?_
  have left : (s.drainEach allIndices).connection i = (s.connection i).filter fun k => k.state = .active := by
    rw [State.connection_drainEach, State.filter_active_eq]
    exact if_congr (and_iff_right (List.mem_finRange i)) rfl rfl
  simpa [State.connection] using left

/-- A drain empties a table in use where no connection is ACTIVE. -/
theorem State.drainEach_empties_iff {s : State} (used : ¬ s.tableEmpty = true) :
    ((∃ i ∈ allIndices, s.drains i = true) ∧ ∀ j, (s.drainEach allIndices).connection j = none) ↔
      ∀ i, ∀ k ∈ s.connection i, k.state ≠ .active := by
  have empties (j : Index) : (s.drainEach allIndices).connection j = none ↔ s.connection j = none ∨ s.drains j = true := by
    have listed : j ∈ allIndices := List.mem_finRange j
    rw [State.connection_drainEach, if_congr (and_iff_right listed) rfl rfl]
    cases s.drains j <;> simp
  rw [State.drains_all_iff, forall_congr' empties, and_iff_right_of_imp]
  intro all
  obtain ⟨i, here⟩ := not_forall.mp (mt s.tableEmpty_iff.mpr used)
  exact ⟨i, List.mem_finRange i, (all i).resolve_left here⟩

/-- The withdrawals of the whole table (R14, R47, R161); a table already empty is reported as one (R159 step 4). -/
theorem State.drainEach_all {s : State} (draining : s.highway = .draining) :
    (if s.tableEmpty then s.reportIfEmpty else s.drainEach allIndices) =
      s.withTables (s.slots.map (SlotRecord.withdrawnWhere s.drains))
        (s.connections.map fun k : Option Connection => k.filter fun k => k.state = .active) s.waitQueue
        (s.connectionChanges + BitVec.ofNat 16 (allIndices.filter s.drains).length)
        (if ∀ i, ∀ k ∈ s.connection i, k.state ≠ .active then 0x80 else 0) := by
  split
  · rename_i empty
    have unused := s.tableEmpty_iff.mp empty
    have stays : s.drains = fun _ => false := funext fun i => State.drains_eq_false_of_none (unused i)
    have slots : s.slots.map (SlotRecord.withdrawnWhere s.drains) = s.slots := by
      rw [stays, show SlotRecord.withdrawnWhere (fun _ => false) = id from funext SlotRecord.withdrawnWhere_of_none,
        Vector.map_id]
    have table : (s.connections.map fun k : Option Connection => k.filter fun k => k.state = .active) = s.connections := by
      refine connections_ext fun i => ?_
      have none : s.connections[i] = none := unused i
      simp only [Fin.getElem_fin, Vector.getElem_map] at none ⊢
      rw [none]
      rfl
    have report : s.reportIfEmpty = s.raise .drained := by
      simp [State.reportIfEmpty, State.raiseIf, empty, draining]
    rw [slots, table, report, if_pos (by simp [unused]), stays]
    simp only [List.filter_false, List.length_nil, BitVec.ofNat_eq_ofNat, BitVec.add_zero]
    rfl
  · rename_i used
    have nodup : allIndices.Nodup := List.nodup_finRange 32
    have slots : (s.drainEach allIndices).slots = s.slots.map (SlotRecord.withdrawnWhere s.drains) := by
      have listed : (fun j => decide (j ∈ allIndices) && s.drains j) = s.drains :=
        funext fun j => by simp [allIndices]
      rw [State.slots_drainEach nodup, listed]
    rw [State.drainEach_frame, slots, State.changes_drainEach nodup, State.flags_drainEach draining nodup,
      State.connections_drainEach_all, if_congr (State.drainEach_empties_iff used) rfl rfl]
    rfl

/-- The Lease Engine's part of a drain: its withdrawals, and then its notices (R47). -/
theorem State.drainConnections_eq {s : State} (draining : s.highway = .draining) :
    s.drainConnections =
      (s.withTables (s.slots.map (SlotRecord.withdrawnWhere s.drains))
        (s.connections.map fun k : Option Connection => k.filter fun k => k.state = .active) s.waitQueue
        (s.connectionChanges + BitVec.ofNat 16 (allIndices.filter s.drains).length)
        (if ∀ i, ∀ k ∈ s.connection i, k.state ≠ .active then 0x80 else 0)).offerAll
          (allIndices.flatMap s.drainNotices) := by
  rw [← State.drainEach_all draining, State.drainConnections]
  split
  · rename_i empty
    have silent : allIndices.flatMap s.drainNotices = [] :=
      List.flatMap_eq_nil_iff.mpr fun i _ => by simp only [State.drainNotices, s.tableEmpty_iff.mp empty i]
    rw [silent, State.offerAll_nil]
  · exact State.foldl_eq_offerAll_after State.drainConnection State.drainAt State.drainNotices State.drainConnection_eq
      State.drainAt_offerAll State.drainNotices_offerAll
      ((List.nodup_finRange 32).imp fun other t => t.drainNotices_drainAt other) s

theorem State.clearQueue_offerAll (s : State) (sent : List DownMessage) :
    { s.offerAll sent with waitQueue := [] } = State.offerAll sent { s with waitQueue := [] } := by
  have cleared (t : State) : { t with waitQueue := [] } = t.withTables t.slots t.connections [] t.connectionChanges 0 := by
    have flags : t.flags ||| 0 = t.flags := BitVec.or_zero
    rw [State.withTables, flags]
  have same := s.sameMap_offerAll sent
  rw [cleared, cleared, State.offerAll_withTables, same.slots, same.connections, State.offerAll_connectionChanges]

theorem State.drains_offerAll (s : State) (sent : List DownMessage) : (s.offerAll sent).drains = s.drains :=
  funext fun i => by simp only [State.drains, State.offerAll_connection]

/-- The tables after a drain, its messages apart (R47, R61, R161). -/
def State.drained (s : State) : State :=
  s.withTables (s.slots.map (SlotRecord.withdrawnWhere s.drains))
    (s.connections.map fun k : Option Connection => k.filter fun k => k.state = .active) []
    (s.connectionChanges + BitVec.ofNat 16 (allIndices.filter s.drains).length)
    (if ∀ i, ∀ k ∈ s.connection i, k.state ≠ .active then 0x80 else 0)

/-- The two parts of a drain in either order (R159; notes/assumptions/13.md). -/
theorem State.drain_eq {s : State} (draining : s.highway = .draining) (waitQueueFirst : Bool) :
    (if waitQueueFirst then s.drainEntries.drainConnections else s.drainConnections.drainEntries) =
      s.drained.offerAll
        (if waitQueueFirst then s.drainRefusals ++ allIndices.flatMap s.drainNotices
          else allIndices.flatMap s.drainNotices ++ s.drainRefusals) := by
  cases waitQueueFirst with
  | false =>
    have refusals : s.drainConnections.drainRefusals = s.drainRefusals := by
      rw [State.drainConnections_eq draining]
      simp only [State.drainRefusals, State.offerAll_waitQueue, State.messagesTo_offerAll]
      rfl
    simp only [Bool.false_eq_true, if_false]
    rw [State.drainEntries_eq, refusals, State.drainConnections_eq draining, State.clearQueue_offerAll,
      State.offerAll_append]
    rfl
  | true =>
    let emptied : State := { s with waitQueue := [] }
    have standing : (emptied.offerAll s.drainRefusals).highway = .draining := (State.offerAll_highway ..).trans draining
    have same := emptied.sameMap_offerAll s.drainRefusals
    have notices : (emptied.offerAll s.drainRefusals).drainNotices = s.drainNotices :=
      funext fun i => (emptied.drainNotices_offerAll s.drainRefusals i).trans rfl
    simp only [if_true]
    rw [State.drainEntries_eq, State.drainConnections_eq standing, notices, State.drains_offerAll, same.slots,
      same.connections, State.offerAll_waitQueue, State.offerAll_connectionChanges, State.offerAll_append]
    simp only [State.offerAll_connection, ← State.offerAll_withTables]
    rfl

/-- Settles O47. -/
theorem drainTurnsAwayWhatWaits : Obligations.DrainTurnsAwayWhatWaits := by
  intro s waitQueueFirst ready c leaves notices refusals told
  have drains : exec c s = .next ((s.drainWork waitQueueFirst).part.finished (s.drainWork waitQueueFirst).result
      (s.drainWork waitQueueFirst).readout) :=
    congrArg _ (ready.runCommand_eq (State.drainWork waitQueueFirst))
  refine ⟨fun closed => ?_, fun draining => ?_, fun opened => ?_⟩
  · simp only [drains, State.drainWork, closed]
    rfl
  · simp only [drains, State.drainWork, draining]
    rfl
  · have standing : told.highway = .draining := State.broadcast_highway ..
    have work : s.drainWork waitQueueFirst = State.done (told.drained.offerAll
        (if waitQueueFirst then told.drainRefusals ++ allIndices.flatMap told.drainNotices
          else allIndices.flatMap told.drainNotices ++ told.drainRefusals)) := by
      rw [← State.drain_eq standing]
      simp only [State.drainWork, opened]
      rfl
    have connection (i : Index) : told.connection i = s.connection i := by simp [told, State.connection]
    have serial (i : Index) : told.serial i = s.serial i := by simp [told, State.serial]
    have messages (h : Handle) (body : DownBody) : told.messagesTo h body =
        (s.station h).toList.map fun x => ⟨x.number, body⟩ := by simp [told, State.messagesTo, State.station]
    have leaving : told.drains = leaves := funext fun i => by simp only [State.drains, connection, leaves]
    have refusing : told.drainRefusals = refusals := by
      simp only [State.drainRefusals, messages, refusals]
      simp [told]
    have noticing : allIndices.flatMap told.drainNotices = notices := by
      simp only [notices, flatMap_filter_eq]
      refine List.flatMap_congr fun i _ => ?_
      cases here : s.connection i with
      | none => simp [State.drainNotices, connection, here]
      | some k =>
        by_cases active : k.state = .active
        · simp [State.drainNotices, connection, here, leaves, active]
        · simp [State.drainNotices, connection, here, leaves, active, messages, State.referenceOf, serial]
    have slots : told.slots.map (SlotRecord.withdrawnWhere told.drains) = s.slots.map fun x : SlotRecord =>
        match x with
        | .reserved i => if leaves i then .free else x
        | .guard (some i) p => if leaves i then .guard none p else x
        | .guard none _ => x
        | .held _ => x
        | .free => x := by
      rw [leaving, State.broadcast_slots]
      refine congrArg (s.slots.map ·) (funext fun x => ?_)
      match x with
      | .reserved _ | .guard (some _) _ | .guard none _ | .held _ | .free => rfl
    rw [drains, work, State.done, State.drained, slots, leaving, refusing, noticing]
    have connections : told.connections = s.connections := State.broadcast_connections ..
    have changes : told.connectionChanges = s.connectionChanges := State.broadcast_connectionChanges ..
    simp only [connection, connections, changes]
    rfl

end Sys2Proof.Machine
end

section
/-! What removals and service passes leave as it is (R25, R55, R83). -/

namespace Sys2Proof.Machine

set_option Elab.async false -- one proof at a time: waiting proofs would hold a thread each

/-! ### The rest of the part -/

/-- The second part differs from the first in connections, queue entries, slots, SYNC OWED and CONNECTION CHANGES alone, but for
messages that have come behind the ones held and flags that have become pending. -/
structure State.Steady (s t : State) : Prop where
  frame : t = { s with
    slots := t.slots
    connections := t.connections
    serials := t.serials
    waitQueue := t.waitQueue
    stations := t.stations
    downlink := t.downlink
    flags := t.flags
    connectionChanges := t.connectionChanges }
  records : ∀ h, (t.station h).map Station.settledFields = (s.station h).map Station.settledFields
  messages : s.downlink.held <+: t.downlink.held
  flags : ∀ f, s.pendingFlag f = true → t.pendingFlag f = true

theorem State.Steady.refl (s : State) : s.Steady s := ⟨rfl, fun _ => rfl, List.prefix_refl _, fun _ => id⟩

theorem State.Steady.trans {s t u : State} (first : s.Steady t) (second : t.Steady u) : s.Steady u where
  frame := second.frame.trans (by rw [first.frame])
  records h := (second.records h).trans (first.records h)
  messages := first.messages.trans second.messages
  flags f pending := second.flags f (first.flags f pending)

theorem State.Steady.assemblies {s t : State} (steady : s.Steady t) : t.assemblies = s.assemblies := by
  rw [steady.frame]

theorem State.Steady.directoryChanges {s t : State} (steady : s.Steady t) : t.directoryChanges = s.directoryChanges := by
  rw [steady.frame]

theorem State.Steady.pins {s t : State} (steady : s.Steady t) : t.pins = s.pins := by
  rw [steady.frame]

theorem State.Steady.untouched {s t : State} (steady : s.Steady t) :
    t.denyList = s.denyList ∧ t.policy = s.policy ∧ t.answerPeriod = s.answerPeriod ∧ t.rosterPeriod = s.rosterPeriod ∧
      t.timer = s.timer ∧ t.owed = s.owed ∧ t.arbiter = s.arbiter ∧ t.highway = s.highway ∧ t.port = s.port ∧
      t.spi = s.spi ∧ t.hold = s.hold ∧ t.due = s.due := by
  rw [steady.frame]
  exact ⟨rfl, rfl, rfl, rfl, rfl, rfl, rfl, rfl, rfl, rfl, rfl, rfl⟩

theorem State.steady_tables (s : State) (slots : Vector SlotRecord 62) (connections : Vector (Option Connection) 32)
    (serials : Vector Serial 32) (waitQueue : List Entry) (changes : BitVec 16) :
    s.Steady { s with
      slots := slots
      connections := connections
      serials := serials
      waitQueue := waitQueue
      connectionChanges := changes } := ⟨rfl, fun _ => rfl, List.prefix_refl _, fun _ => id⟩

theorem State.steady_withTables (s : State) (slots : Vector SlotRecord 62) (connections : Vector (Option Connection) 32)
    (waitQueue : List Entry) (changes : BitVec 16) (flags : BitVec 10) :
    s.Steady (s.withTables slots connections waitQueue changes flags) := by
  refine ⟨rfl, fun _ => rfl, List.prefix_refl _, fun f pending => ?_⟩
  simp only [State.pendingFlag, State.withTables, BitVec.getLsbD_or, Bool.or_eq_true] at pending ⊢
  exact .inl pending

theorem State.steady_offer (s : State) (m : DownMessage) : s.Steady (s.offer m) where
  frame := by
    obtain same | same | ⟨_, _, -, same⟩ := s.offer_cases m <;> rw [same] <;> rfl
  records := s.settledFields_offer m
  messages := s.held_prefix_offer m
  flags f := s.pendingFlag_offer_of f m

theorem State.steady_tell (s : State) (h : Handle) (body : DownBody) : s.Steady (s.tell h body) := by
  unfold State.tell
  split
  · exact s.steady_offer _
  · exact State.Steady.refl s

theorem State.steady_tellOpt (s : State) (h : Handle) (body : Option DownBody) : s.Steady (s.tellOpt h body) := by
  unfold State.tellOpt
  split
  · exact s.steady_tell ..
  · exact State.Steady.refl s

theorem State.steady_removeConnection (s : State) (i : Index) (c : Connection) (a b : Option DownBody) :
    s.Steady (s.removeConnection i c a b) := by
  have dropped : s.Steady (s.dropConnection i c) := by
    rw [State.dropConnection_eq_withTables]
    exact s.steady_withTables ..
  exact (dropped.trans (State.steady_tellOpt ..)).trans (State.steady_tellOpt ..)

theorem State.steady_removeEntry (s : State) (e : Entry) : s.Steady (s.removeEntry e) :=
  s.steady_tables s.slots s.connections s.serials (s.waitQueue.erase e) s.connectionChanges

theorem State.steady_place (s : State) (i : Index) (c : Connection) : s.Steady (s.place i c) := by
  have claimed : s.Steady ((s.reserveClaim i c.slotList).createConnection i c) := s.steady_tables ..
  exact claimed.trans (State.steady_tell ..)

theorem State.steady_examine (s : State) (e : Entry) : s.Steady (s.examine e) := by
  obtain same | same | ⟨i, slots, -, -, -, same⟩ := s.examine_cases e <;> rw [same]
  · exact State.Steady.refl s
  · exact (s.steady_removeEntry e).trans (State.steady_tell ..)
  · exact (s.steady_removeEntry e).trans (State.steady_place ..)

theorem State.steady_servicePasses (s : State) (n : Nat) : s.Steady (s.servicePasses n) :=
  s.servicePasses_keeps s.Steady
    (fun t steady => t.servicePass_keeps s.Steady (fun u e before => before.trans (u.steady_examine e)) steady) n
    (State.Steady.refl s)

theorem State.steady_cutOff (s : State) (set : List Handle) (reason : Reason) : s.Steady (s.cutOff set reason) := by
  have connections : s.Steady (s.cutConnections set reason) :=
    foldl_keeps s s.Steady _ (fun t i before => before.trans (by
      unfold State.cutConnection
      split
      · exact State.Steady.refl t
      · exact t.steady_removeConnection ..)) _ (State.Steady.refl s)
  refine foldl_keeps (s.cutConnections set reason) s.Steady _ (fun t e before => before.trans ?_) _ connections
  unfold State.cutEntry
  split
  · exact t.steady_removeEntry e
  split
  · exact (t.steady_removeEntry e).trans (State.steady_tell ..)
  · exact State.Steady.refl t

/-! ### The connections that stay -/

/-- The connections of the second part hold those of the first that do not leave, with their references and slots. -/
structure State.Beside (s t : State) (leaves : Index → Prop) : Prop where
  connections : ∀ i c, ¬ leaves i → s.connection i = some c → t.connection i = some c
  references : ∀ i c, ¬ leaves i → s.connection i = some c → t.serial i = s.serial i
  slots : ∀ n r, s.slot n = some r → r ≠ .free → (∀ i, r.owner = some i → ¬ leaves i) → t.slot n = some r

theorem State.Beside.trans {s t u : State} {leaves : Index → Prop} (first : s.Beside t leaves)
    (second : t.Beside u leaves) : s.Beside u leaves where
  connections i c stays here := second.connections i c stays (first.connections i c stays here)
  references i c stays here :=
    (second.references i c stays (first.connections i c stays here)).trans (first.references i c stays here)
  slots n r slot used stays := second.slots n r (first.slots n r slot used stays) used stays

/-- A step that leaves the map, the table and the serials as they are. -/
theorem State.Beside.of_sameMap {s t : State} (same : s.SameMap t) (serials : t.serials = s.serials)
    (leaves : Index → Prop) : s.Beside t leaves where
  connections i c _ here := (same.connection i).trans here
  references i _ _ _ := by simp only [State.serial, serials]
  slots n r slot _ _ := (same.slot n).trans slot

theorem State.beside_removeConnection (s : State) (i : Index) (c : Connection) (a b : Option DownBody)
    {leaves : Index → Prop} (gone : leaves i) : s.Beside (s.removeConnection i c a b) leaves := by
  have dropped : s.Beside (s.dropConnection i c) leaves := by
    refine ⟨fun j d stays here => ?_, fun j d _ _ => by rw [State.serial, State.dropConnection_serials]; rfl,
      fun n r slot _ stays => ?_⟩
    · rw [State.dropConnection_connection, if_neg, here]
      exact fun same : i = j => stays (same ▸ gone)
    · rw [State.slot_dropConnection, slot, Option.map_some, r.dropped_of_owner_ne]
      exact fun owner => stays i owner gone
  have told : (s.dropConnection i c).SameMap (s.removeConnection i c a b) :=
    (State.sameMap_tellOpt ..).trans (State.sameMap_tellOpt ..)
  exact dropped.trans (.of_sameMap told (by simp [State.removeConnection]) leaves)

/-- Placement at an unused index on FREE slots disturbs no connection (R10, R27). -/
theorem State.beside_place {s : State} {i : Index} {c : Connection} (unused : s.connection i = none)
    (free : ∀ n ∈ c.slotList, s.slot n = some .free) (leaves : Index → Prop) : s.Beside (s.place i c) leaves where
  connections j d _ here := by
    rw [State.place_connection, if_neg, here]
    rintro rfl
    cases unused ▸ here
  references j d _ here := by
    have other : i ≠ j := by
      rintro rfl
      cases unused ▸ here
    have serials : (s.place i c).serials = s.serials.set i (s.serial i + 1) := by
      simp [State.place, State.sendOffer, State.createConnection]
    rw [State.serial, serials]
    exact Vector.getElem_set_ne _ _ (Fin.val_ne_of_ne other)
  slots n r slot used _ := by
    rw [State.place_slot, slot]
    have unlisted : n ∉ c.slotList := fun listed => used (Option.some.inj (slot ▸ free n listed))
    simp [unlisted]

theorem State.beside_examine (s : State) (e : Entry) (leaves : Index → Prop) : s.Beside (s.examine e) leaves := by
  have removed : s.Beside (s.removeEntry e) leaves := .of_sameMap (s.sameMap_removeEntry e) rfl leaves
  obtain same | same | ⟨i, slots, room, -, -, same⟩ := s.examine_cases e <;> rw [same]
  · exact .of_sameMap (State.SameMap.refl s) rfl leaves
  · exact removed.trans (.of_sameMap (State.sameMap_tell ..) (by simp) leaves)
  · obtain ⟨unused, found⟩ := (s.room_eq_some_iff ..).mp room
    exact removed.trans (State.beside_place (s := s.removeEntry e) ((s.unusedIndex_eq_some_iff i).mp unused).1
      (State.searchSlots_found found).1 leaves)

theorem State.beside_servicePasses (s : State) (n : Nat) (leaves : Index → Prop) : s.Beside (s.servicePasses n) leaves :=
  s.servicePasses_keeps (s.Beside · leaves)
    (fun t beside => t.servicePass_keeps (s.Beside · leaves)
      (fun u e before => before.trans (u.beside_examine e leaves)) beside) n
    (.of_sameMap (State.SameMap.refl s) rfl leaves)

/-- The walks of the cascade disturb the connections with a party in the set alone (R45). -/
theorem State.beside_cutOff (s : State) (set : List Handle) (reason : Reason) :
    s.Beside (s.cutOff set reason) (· ∈ s.touching set) := by
  have start : s.Beside s (· ∈ s.touching set) := .of_sameMap (State.SameMap.refl s) rfl _
  have walk (list : List Index) (within : ∀ i ∈ list, i ∈ s.touching set) (t : State)
      (before : s.Beside t (· ∈ s.touching set)) :
      s.Beside (list.foldl (State.cutConnection set reason) t) (· ∈ s.touching set) := by
    induction list generalizing t with
    | nil => exact before
    | cons i rest ih =>
      refine ih (fun j there => within j (List.mem_cons_of_mem i there)) _ (before.trans ?_)
      unfold State.cutConnection
      split
      · exact .of_sameMap (State.SameMap.refl t) rfl _
      · exact t.beside_removeConnection _ _ _ _ (within i (List.mem_cons_self ..))
  refine (walk _ (fun _ => id) s start).trans ?_
  refine .of_sameMap (State.sameMap_foldl _ _ (fun t e => t.sameMap_cutEntry set e) _) ?_ _
  refine foldl_keeps _ (fun t => t.serials = (s.cutConnections set reason).serials) _ (fun t e before => ?_) _ rfl
  unfold State.cutEntry
  split
  · exact before
  split
  · simpa [State.refuseEntry] using before
  · exact before

/-! ### Who is named no more -/

/-- Service passes name no one anew: each connection they make is an entry's (R55). -/
theorem State.Unnamed.examine {s : State} {h : Handle} (unnamed : s.Unnamed h) {e : Entry} (queued : e ∈ s.waitQueue) :
    (s.examine e).Unnamed h := by
  refine ⟨fun i c there => ?_, fun x there => ?_⟩
  · obtain same | same | ⟨j, slots, -, -, -, same⟩ := s.examine_cases e <;> rw [same] at there
    · exact unnamed.connections i c there
    · have told := State.sameMap_tell (s.removeEntry e) e.source (.refuse .badWidth (some e.tag) none)
      exact unnamed.connections i c ((told.connection i).symm.trans there)
    · rw [State.place_connection] at there
      split at there
      · cases there
        exact unnamed.entries e queued
      · exact unnamed.connections i c there
  · refine unnamed.entries x ?_
    obtain same | same := s.waitQueue_examine e <;> rw [same] at there
    · exact there
    · exact List.mem_of_mem_erase there

theorem State.Unnamed.servicePasses {s : State} {h : Handle} (unnamed : s.Unnamed h) (n : Nat) :
    (s.servicePasses n).Unnamed h :=
  s.servicePasses_keeps (·.Unnamed h)
    (fun t named => t.servicePass_keeps_of_queued (·.Unnamed h) (fun _ _ queued before => before.examine queued) named) n
    unnamed

/-! ### The records that go (R83 step 3) -/

theorem State.assembly_deleteStations (s : State) (list : List Handle) (h : Handle) :
    (s.deleteStations list).assembly h = if h ∈ list then none else s.assembly h := by
  rw [State.deleteStations_eq]
  simp only [State.assembly, Fin.getElem_fin, Vector.getElem_mapIdx, Fin.val_inj, exists_eq_right]

theorem State.pendingFlag_deleteStations (s : State) (list : List Handle) (f : Flag) :
    (s.deleteStations list).pendingFlag f = (s.pendingFlag f || (list ≠ [] && f = .left)) := by
  rw [State.deleteStations_eq]
  by_cases none : list = []
  · simp [none, State.pendingFlag]
  · simp only [State.pendingFlag, if_neg none, BitVec.getLsbD_or]
    cases f <;> simp [none, Flag.bit]

theorem State.downlink_deleteStations (s : State) (list : List Handle) :
    (s.deleteStations list).downlink = s.downlink := by
  rw [State.deleteStations_eq]

theorem State.untouched_deleteStations (s : State) (list : List Handle) :
    (s.deleteStations list).denyList = s.denyList ∧ (s.deleteStations list).policy = s.policy ∧
      (s.deleteStations list).answerPeriod = s.answerPeriod ∧ (s.deleteStations list).rosterPeriod = s.rosterPeriod ∧
      (s.deleteStations list).timer = s.timer ∧ (s.deleteStations list).owed = s.owed ∧
      (s.deleteStations list).arbiter = s.arbiter ∧ (s.deleteStations list).highway = s.highway ∧
      (s.deleteStations list).port = s.port ∧ (s.deleteStations list).spi = s.spi ∧
      (s.deleteStations list).hold = s.hold ∧ (s.deleteStations list).due = s.due := by
  rw [State.deleteStations_eq]
  exact ⟨rfl, rfl, rfl, rfl, rfl, rfl, rfl, rfl, rfl, rfl, rfl, rfl⟩

theorem State.pins_deleteStations (s : State) (list : List Handle) : (s.deleteStations list).pins = s.pins := by
  rw [State.deleteStations_eq]

theorem State.beside_deleteStations (s : State) (list : List Handle) (leaves : Index → Prop) :
    s.Beside (s.deleteStations list) leaves := by
  have same : s.SameMap (s.deleteStations list) := by
    rw [State.deleteStations_eq]
    exact ⟨rfl, rfl⟩
  exact .of_sameMap same (by rw [State.deleteStations_eq]) leaves

/-! ### The cascade of a departure -/

/-- The cascade up to its service passes, its walks named (R83). -/
theorem State.cascade_eq (s : State) (set deleted : List Handle) (reason : Reason) (after : State → State) :
    s.cascade set deleted reason after =
      (after ((s.cutOff set reason).deleteStations deleted)).servicePasses (s.touching set).length := rfl

theorem State.not_mem_touching_of {s : State} {set : List Handle} {i : Index}
    (stays : ∀ c, s.connection i = some c → c.originator ∉ set ∧ c.answerer ∉ set) : i ∉ s.touching set := by
  rw [State.mem_touching_iff]
  rintro ⟨c, here, leaves | leaves⟩
  · exact (stays c here).1 leaves
  · exact (stays c here).2 leaves

/-- A set that leaves by the cascade has left every table, and the lines are as they were (R83). -/
theorem State.left_cascade (s : State) (set : List Handle) (reason : Reason) :
    s.Left (s.cascade set set reason fun t => t) set none ∧ (s.cascade set set reason fun t => t).pins = s.pins := by
  let off := s.cutOff set reason
  let deleted := off.deleteStations set
  let t := deleted.servicePasses (s.touching set).length
  have walked : s.Steady off := s.steady_cutOff set reason
  have passed : deleted.Steady t := deleted.steady_servicePasses _
  have beside : s.Beside t (· ∈ s.touching set) :=
    ((s.beside_cutOff set reason).trans (off.beside_deleteStations set _)).trans (deleted.beside_servicePasses _ _)
  have unnamed (h : Handle) (leaves : h ∈ set) : t.Unnamed h :=
    ((s.unnamed_cutOff reason leaves).deleteStations set).servicePasses _
  have station (h : Handle) := off.station_deleteStations set h
  have assembly (h : Handle) : t.assembly h = if h ∈ set then none else s.assembly h := by
    have kept : off.assembly h = s.assembly h := by rw [State.assembly, walked.assemblies]; rfl
    rw [State.assembly, passed.assemblies, ← kept]
    exact off.assembly_deleteStations set h
  have untouched (i : Index) (c : Connection) (here : s.connection i = some c) (first : c.originator ∉ set)
      (second : c.answerer ∉ set) : i ∉ s.touching set :=
    State.not_mem_touching_of fun d same => by
      cases here ▸ same
      exact ⟨first, second⟩
  change s.Left t set none ∧ t.pins = s.pins
  refine ⟨⟨fun h leaves => ⟨?_, ?_⟩, fun h stays _ => ?_, fun h _ shortened => (nomatch shortened), fun h stays => ?_,
    fun i c here => ?_, fun i c here first second => ?_, fun i c here first second => ?_, fun n r slot used stays => ?_,
    fun e there => ?_, ?_, ?_, fun some => ?_, ?_⟩, ?_⟩
  · have gone := passed.records h
    rw [station h, if_pos leaves] at gone
    simpa using gone
  · rw [assembly, if_pos leaves]
  · rw [passed.records h, station h, if_neg stays, walked.records h]
  · rw [assembly, if_neg stays]
  · exact ⟨fun leaves => ((unnamed _ leaves).connections i c here).1 rfl,
      fun leaves => ((unnamed _ leaves).connections i c here).2 rfl⟩
  · exact beside.connections i c (untouched i c here first second) here
  · exact beside.references i c (untouched i c here first second) here
  · exact beside.slots n r slot used fun i owner => State.not_mem_touching_of fun c here => stays i c owner here
  · exact ⟨fun leaves => ((unnamed _ leaves).entries e there).1 rfl, fun leaves => ((unnamed _ leaves).entries e there).2 rfl⟩
  · exact (walked.messages.trans (by rw [off.downlink_deleteStations set])).trans passed.messages
  · rw [passed.directoryChanges, off.directoryChanges_deleteStations set, walked.directoryChanges]
    rfl
  · exact passed.flags .left (by simp [deleted, State.pendingFlag_deleteStations, some])
  · simpa only [deleted, State.untouched_deleteStations, walked.untouched] using passed.untouched
  · rw [passed.pins, off.pins_deleteStations set, walked.pins]

/-- Settles O19. -/
theorem departuresClearTheirSet : Obligations.DeparturesClearTheirSet := by
  refine ⟨fun s drop n h r quiet source onDrop => ?_, fun s drop quiet => ?_⟩
  · intro under set left
    have taken : exec (.detach drop n) s = .next ((s.taking (.detach drop n)).takeDetach h r) :=
      quiet.exec_eq_owner rfl source onDrop
    refine ⟨fun top => ?_, fun managed => ?_⟩
    · have leaves : (s.taking (.detach drop n)).removalSet h r = set := by
        simp only [State.removalSet, Station.topRelay, top, decide_true, Bool.and_true, decide_eq_true_eq, set]
        rfl
      rw [taken, State.takeDetach, if_pos top, State.departWithSubtree, leaves]
      exact ⟨rfl, { (State.left_cascade (s.taking (.detach drop n)) set .departed).1 with }⟩
    · rw [taken, State.takeDetach, if_neg managed, State.refusePlain, State.tell_source source]
  · intro set lines left
    have taken : exec (.presenceLoss drop) s = .next left := congrArg _ (quiet.lineEvent_eq _ _)
    obtain ⟨gone, pins⟩ := State.left_cascade { s with pins := lines } set .departed
    exact ⟨taken, { gone with }, pins⟩

end Sys2Proof.Machine
end

section
/-! A rejection for content (R105, R106). -/

namespace Sys2Proof.Machine

set_option Elab.async false -- one proof at a time: waiting proofs would hold a thread each

/-! ### The faulted relay -/

theorem State.steady_raise (s : State) (f : Flag) : s.Steady (s.raise f) :=
  ⟨rfl, fun _ => rfl, List.prefix_refl _, fun g => s.pendingFlag_raise_of g f⟩

/-- An offered message is held, or SYNC is pending (R147). -/
theorem State.held_or_sync_offer (s : State) (m : DownMessage) :
    m ∈ (s.offer m).downlink.held ∨ (s.offer m).pendingFlag .sync = true := by
  obtain same | same | ⟨h, r, -, same⟩ := s.offer_cases m <;> rw [same]
  · left
    simp [State.enqueue]
  · exact .inr (s.pendingFlag_raise_self .sync)
  · exact .inr (s.pendingFlag_raise_self .sync)

/-- What is counted of the relay's change of state (R106). -/
def Station.stateChange (r : Station) : Nat := if r.state = .rosterFault then 0 else 1

/-- What is counted of the relay's change of roster and generation (R106). -/
def Station.rosterChange (r : Station) : Nat := if r.roster.getD [] = [] ∧ r.generation = none then 0 else 1

/-- A relay's record after a rejection for content (R105). -/
def Station.faulted (x : Station) (deadline : Countdown) : Station :=
  { x with state := .rosterFault, roster := some [], generation := none, deadline := some deadline }

/-- The relay's record is changed and the changes are counted, before the answer (R105, R106). -/
def State.withFault (h : Handle) (r x : Station) (s : State) : State :=
  { s with
    stations := s.stations.set h (some (x.faulted ⟨s.rosterPeriod, s.timer.parity⟩))
    directoryChanges := s.directoryChanges + BitVec.ofNat 16 (r.stateChange + r.rosterChange) }

theorem Station.faultChanges (r : Station) :
    changeIf (r.state ≠ .rosterFault) + changeIf (r.roster.getD [] ≠ [] || r.generation.isSome) =
      r.stateChange + r.rosterChange := by
  unfold changeIf Station.stateChange Station.rosterChange
  congr 1
  · by_cases fault : r.state = .rosterFault <;> simp [fault]
  · by_cases empty : r.roster.getD [] = [] <;> cases r.generation <;> simp [empty]

theorem State.station_withFault (s : State) (h k : Handle) (r x : Station) :
    (s.withFault h r x).station k =
      if h = k then some (x.faulted ⟨s.rosterPeriod, s.timer.parity⟩) else s.station k :=
  s.station_setStation h k (some _)

theorem State.faultRelay_eq {s : State} {h : Handle} {x : Station} (here : s.station h = some x) (r : Station)
    (generation : Byte) (reason : Reason) :
    s.faultRelay h r generation reason =
      ((s.withFault h r x).offer ⟨x.number, .rosterReject generation reason⟩).raise .roster := by
  have changed : (s.modifyStation h fun x => x.faulted (s.countdownOf s.rosterPeriod)).bumpDirectory
      (r.stateChange + r.rosterChange) = s.withFault h r x := by
    rw [State.modifyStation, here]
    rfl
  have number : (s.withFault h r x).station h = some (x.faulted ⟨s.rosterPeriod, s.timer.parity⟩) := by
    rw [State.station_withFault, if_pos rfl]
  unfold State.faultRelay
  rw [r.faultChanges]
  change ((s.modifyStation h fun x => x.faulted (s.countdownOf s.rosterPeriod)).bumpDirectory
      (r.stateChange + r.rosterChange)).rejectRoster h generation reason = _
  rw [changed, State.rejectRoster, State.tell, number]
  rfl

/-- What follows the change of the record is the answer, the flag and the service passes, which are steady (R105). -/
theorem State.steady_withFault_faultRelay {s : State} {h : Handle} {x : Station} (here : s.station h = some x)
    (r : Station) (generation : Byte) (reason : Reason) :
    (s.withFault h r x).Steady (s.faultRelay h r generation reason) := by
  rw [State.faultRelay_eq here]
  exact ((s.withFault h r x).steady_offer _).trans (State.steady_raise _ .roster)

theorem State.beside_faultRelay {s : State} {h : Handle} {x : Station} (here : s.station h = some x) (r : Station)
    (generation : Byte) (reason : Reason) (leaves : Index → Prop) :
    s.Beside (s.faultRelay h r generation reason) leaves := by
  refine .of_sameMap (s.sameMap_faultRelay ..) ?_ leaves
  rw [State.faultRelay_eq here, State.raise_serials, State.offer_serials]
  rfl

theorem State.Unnamed.faultRelay {s : State} {h k : Handle} {x : Station} (here : s.station h = some x)
    (unnamed : s.Unnamed k) (r : Station) (generation : Byte) (reason : Reason) :
    (s.faultRelay h r generation reason).Unnamed k where
  connections i c there := unnamed.connections i c (((s.sameMap_faultRelay ..).connection i).symm.trans there)
  entries e there := by
    rw [State.faultRelay_eq here, State.raise_waitQueue, State.offer_waitQueue] at there
    exact unnamed.entries e there

/-- The answer is held, or SYNC is pending (R106, R147). -/
theorem State.held_or_sync_faultRelay {s : State} {h : Handle} {x : Station} (here : s.station h = some x) (r : Station)
    (generation : Byte) (reason : Reason) :
    ⟨x.number, .rosterReject generation reason⟩ ∈ (s.faultRelay h r generation reason).downlink.held ∨
      (s.faultRelay h r generation reason).pendingFlag .sync = true := by
  rw [State.faultRelay_eq here]
  exact ((s.withFault h r x).held_or_sync_offer _).imp id (State.pendingFlag_raise_of _ .sync .roster)

/-! ### The relay's subtree -/

/-- The relay's record apart from SYNC OWED, changed as a rejection for content changes it. -/
theorem Station.settledFields_faulted {x r : Station} (same : x.settledFields = r.settledFields) (deadline : Countdown) :
    (x.faulted deadline).settledFields = r.settledFields.faulted deadline :=
  congrArg (·.faulted deadline) same

/-- A top relay is not among its own downstream records. -/
theorem State.not_mem_downstream {s : State} {h : Handle} {r : Station} (here : s.station h = some r)
    (top : r.via = none) : h ∉ s.downstream h := by
  rw [State.mem_downstream_iff]
  rintro ⟨x, there, under⟩
  cases here ▸ there
  cases top ▸ under

/-- The cascade of a rejection for content up to the change of the relay's record (R105). -/
def State.emptyRelay (h : Handle) (s : State) : State :=
  ((s.setAssembly h none).cutOff (h :: s.downstream h) .rosterFault).deleteStations (s.downstream h)

theorem State.rejectContent_eq (s : State) (h : Handle) (r : Station) (generation : Byte) (reason : Reason) :
    s.rejectContent h r generation reason =
      ((s.emptyRelay h).faultRelay h r generation reason).servicePasses (s.touching (h :: s.downstream h)).length := rfl

theorem State.station_emptyRelay (s : State) (h k : Handle) :
    ((s.emptyRelay h).station k).map Station.settledFields =
      if k ∈ s.downstream h then none else (s.station k).map Station.settledFields := by
  rw [State.emptyRelay, State.station_deleteStations]
  split
  · rfl
  · exact (State.steady_cutOff (s.setAssembly h none) _ _).records k

theorem State.assembly_emptyRelay (s : State) (h k : Handle) :
    (s.emptyRelay h).assembly k = if k = h ∨ k ∈ s.downstream h then none else s.assembly k := by
  have walked : ((s.setAssembly h none).cutOff (h :: s.downstream h) .rosterFault).assembly k =
      if h = k then none else s.assembly k := by
    rw [State.assembly, (State.steady_cutOff (s.setAssembly h none) _ _).assemblies]
    exact s.assembly_setAssembly h k none
  rw [State.emptyRelay, State.assembly_deleteStations, walked]
  by_cases below : k ∈ s.downstream h
  · simp [below]
  · simp [below, eq_comm]

theorem State.directoryChanges_emptyRelay (s : State) (h : Handle) :
    (s.emptyRelay h).directoryChanges = s.directoryChanges + BitVec.ofNat 16 (s.downstream h).length := by
  rw [State.emptyRelay, State.directoryChanges_deleteStations,
    (State.steady_cutOff (s.setAssembly h none) _ _).directoryChanges]
  rfl

theorem State.pendingFlag_left_emptyRelay {s : State} {h : Handle} (some : s.downstream h ≠ []) :
    (s.emptyRelay h).pendingFlag .left = true := by
  simp [State.emptyRelay, State.pendingFlag_deleteStations, some]

theorem State.untouched_emptyRelay (s : State) (h : Handle) :
    (s.emptyRelay h).denyList = s.denyList ∧ (s.emptyRelay h).policy = s.policy ∧
      (s.emptyRelay h).highway = s.highway ∧ (s.emptyRelay h).port = s.port ∧ (s.emptyRelay h).timer = s.timer ∧
      (s.emptyRelay h).rosterPeriod = s.rosterPeriod := by
  have walked := (State.steady_cutOff (s.setAssembly h none) (h :: s.downstream h) .rosterFault).untouched
  obtain ⟨denyList, policy, -, rosterPeriod, timer, -, -, highway, port, -⟩ :=
    State.untouched_deleteStations ((s.setAssembly h none).cutOff (h :: s.downstream h) .rosterFault) (s.downstream h)
  simp only [walked] at denyList policy rosterPeriod timer highway port
  exact ⟨denyList, policy, highway, port, timer, rosterPeriod⟩

theorem State.unnamed_emptyRelay {s : State} {h k : Handle} (leaves : k ∈ h :: s.downstream h) :
    (s.emptyRelay h).Unnamed k :=
  (State.unnamed_cutOff (s.setAssembly h none) .rosterFault leaves).deleteStations _

theorem State.beside_emptyRelay (s : State) (h : Handle) :
    s.Beside (s.emptyRelay h) (· ∈ s.touching (h :: s.downstream h)) :=
  have closed : s.Beside (s.setAssembly h none) (· ∈ s.touching (h :: s.downstream h)) :=
    .of_sameMap (s := s) (t := s.setAssembly h none) ⟨rfl, rfl⟩ rfl _
  (closed.trans (State.beside_cutOff (s.setAssembly h none) _ _)).trans (State.beside_deleteStations _ _ _)

/-! ### The rejection -/

/-- Settles O37: the passes and the answer are steady, so what the statement says is read off the emptied relay. -/
theorem rejectionFaultsTheRelay : Obligations.RejectionFaultsTheRelay := by
  intro s h r generation reason here top t under stateChange rosterChange
  let emptied := s.emptyRelay h
  let faulted := emptied.faultRelay h r generation reason
  have above : h ∉ under := State.not_mem_downstream here top
  obtain ⟨x, relay, settled⟩ : ∃ x, emptied.station h = some x ∧ x.settledFields = r.settledFields := by
    have kept := s.station_emptyRelay h h
    simpa [above, here, under] using kept
  have number : x.number = r.number := by simpa using congrArg Station.number settled
  have passed : faulted.Steady t := faulted.steady_servicePasses _
  have steady : (emptied.withFault h r x).Steady t :=
    (State.steady_withFault_faultRelay relay r generation reason).trans passed
  have unnamed (k : Handle) (leaves : k ∈ h :: under) : t.Unnamed k :=
    ((State.unnamed_emptyRelay leaves).faultRelay relay r generation reason).servicePasses _
  have beside : s.Beside t (· ∈ s.touching (h :: under)) :=
    ((s.beside_emptyRelay h).trans (State.beside_faultRelay relay r generation reason _)).trans
      (faulted.beside_servicePasses _ _)
  have station (k : Handle) (other : k ≠ h) : (t.station k).map Station.settledFields =
      if k ∈ under then none else (s.station k).map Station.settledFields := by
    rw [steady.records, State.station_withFault, if_neg (Ne.symm other)]
    exact s.station_emptyRelay h k
  have assembly (k : Handle) : t.assembly k = if k = h ∨ k ∈ under then none else s.assembly k := by
    rw [State.assembly, steady.assemblies]
    exact s.assembly_emptyRelay h k
  obtain ⟨denyList, policy, highway, port, timer, rosterPeriod⟩ := s.untouched_emptyRelay h
  refine ⟨rfl, fun u y there => ?_, ?_, ?_, ?_, fun k below => ⟨?_, ?_⟩, fun k other stays => ⟨?_, ?_⟩, fun i c there => ?_,
    fun i c there first second => ?_, fun e there => ?_, ?_, ?_, fun some => ?_, ?_⟩
  · exact State.faultRelay_eq there r generation reason
  · rw [← number]
    exact (State.held_or_sync_faultRelay relay r generation reason).imp (passed.messages.subset ·) (passed.flags .sync)
  · rw [assembly, if_pos (.inl rfl)]
  · rw [steady.records, State.station_withFault, if_pos rfl, Option.map_some, Station.settledFields_faulted settled,
      rosterPeriod, timer]
    rfl
  · have gone := station k fun same => above (same ▸ below)
    simpa [below] using gone
  · rw [assembly, if_pos (.inr below)]
  · rw [station k other, if_neg stays]
  · rw [assembly, if_neg (by simp [other, stays])]
  · exact ⟨fun leaves => ((unnamed _ leaves).connections i c there).1 rfl,
      fun leaves => ((unnamed _ leaves).connections i c there).2 rfl⟩
  · refine beside.connections i c (State.not_mem_touching_of fun d same => ?_) there
    cases there ▸ same
    exact ⟨first, second⟩
  · exact ⟨fun leaves => ((unnamed _ leaves).entries e there).1 rfl, fun leaves => ((unnamed _ leaves).entries e there).2 rfl⟩
  · have counted : t.directoryChanges =
        emptied.directoryChanges + BitVec.ofNat 16 (stateChange + rosterChange) := steady.directoryChanges
    rw [counted, s.directoryChanges_emptyRelay h, Nat.add_assoc, BitVec.ofNat_add under.length, BitVec.add_assoc]
  · refine passed.flags .roster ?_
    rw [show faulted = _ from State.faultRelay_eq relay r generation reason]
    exact State.pendingFlag_raise_self ..
  · exact steady.flags .left (State.pendingFlag_left_emptyRelay some)
  · obtain ⟨keptDeny, keptPolicy, -, -, keptTimer, -, -, keptHighway, keptPort, -⟩ := steady.untouched
    exact ⟨keptDeny.trans denyList, keptPolicy.trans policy, keptHighway.trans highway, keptPort.trans port,
      keptTimer.trans timer⟩

end Sys2Proof.Machine
end

section
/-! The ranking and the shortest sufficient run of victims (R63 to R65). -/

namespace Sys2Proof.Machine

set_option Elab.async false -- one proof at a time: waiting proofs would hold a thread each

/-! ### The candidates (R63) -/

theorem Connection.candidateFor_iff (cls : ClassNo) (c : Connection) :
    c.candidateFor cls = true ↔ c.state = .active ∧ c.pinned = false ∧ cls < c.cls := by
  simp [Connection.candidateFor, and_assoc]

theorem State.mem_candidates_iff (s : State) (cls : ClassNo) (v : Index × Connection) :
    v ∈ s.candidates cls ↔ s.connection v.1 = some v.2 ∧ v.2.candidateFor cls = true := by
  obtain ⟨i, c⟩ := v
  simp only [State.candidates, List.mem_filterMap, Option.bind_eq_some_iff, Option.ite_none_right_eq_some,
    Option.some.injEq, Prod.mk.injEq]
  constructor
  · rintro ⟨j, -, d, here, passes, rfl, rfl⟩
    exact ⟨here, passes⟩
  · rintro ⟨here, passes⟩
    exact ⟨i, List.mem_finRange i, c, here, passes, rfl, rfl⟩

theorem State.mem_ranking_iff (s : State) (cls : ClassNo) (v : Index × Connection) :
    v ∈ s.ranking cls ↔ s.connection v.1 = some v.2 ∧ v.2.state = .active ∧ v.2.pinned = false ∧ cls < v.2.cls := by
  rw [State.ranking, List.mem_insertionSort, State.mem_candidates_iff, Connection.candidateFor_iff]

/-! ### The order of the ranking (R64) -/

theorem rankedBefore_iff (a b : Index × Connection) :
    rankedBefore a b = true ↔ b.2.cls < a.2.cls ∨ (b.2.cls = a.2.cls ∧ (a.2.remaining < b.2.remaining ∨
      (a.2.remaining = b.2.remaining ∧ b.1 ≤ a.1))) := by
  simp [rankedBefore, eq_comm (a := a.2.cls)]

theorem rankedBefore_total (a b : Index × Connection) : rankedBefore a b = true ∨ rankedBefore b a = true := by
  simp only [rankedBefore_iff, Fin.lt_def, Fin.le_def, Fin.ext_iff]
  omega

theorem rankedBefore_trans (a b c : Index × Connection) (first : rankedBefore a b = true)
    (second : rankedBefore b c = true) : rankedBefore a c = true := by
  simp only [rankedBefore_iff, Fin.lt_def, Fin.le_def, Fin.ext_iff] at first second ⊢
  omega

/-- The ranking stands in its order (R64). -/
theorem State.pairwise_rankedBefore_ranking (s : State) (cls : ClassNo) :
    (s.ranking cls).Pairwise fun a b => rankedBefore a b = true :=
  have : Std.Total fun a b : Index × Connection => rankedBefore a b = true := ⟨rankedBefore_total⟩
  have : IsTrans (Index × Connection) fun a b => rankedBefore a b = true := ⟨rankedBefore_trans⟩
  List.pairwise_insertionSort _ _

/-- No index stands twice in the ranking, so its order is strict. -/
theorem State.pairwise_ranking (s : State) (cls : ClassNo) :
    (s.ranking cls).Pairwise fun a b => b.2.cls < a.2.cls ∨ (b.2.cls = a.2.cls ∧ (a.2.remaining < b.2.remaining ∨
      (a.2.remaining = b.2.remaining ∧ b.1 < a.1))) := by
  have distinct : (s.ranking cls).Pairwise fun a b => a.1 ≠ b.1 :=
    List.pairwise_map.mp (s.victims_ranking cls).distinct
  refine ((s.pairwise_rankedBefore_ranking cls).and distinct).imp fun {a b} ⟨before, differ⟩ => ?_
  simp only [rankedBefore_iff, ne_eq, Fin.lt_def, Fin.le_def, Fin.ext_iff] at before differ ⊢
  omega

/-! ### The shortest sufficient run (R65) -/

/-- Taken victims that suffice still do when more are taken. -/
theorem victimsSuffice_append {width covered : Nat} {needOne : Bool} {taken : List (Index × Connection)}
    (enough : victimsSuffice width needOne covered taken = true) (more : List (Index × Connection)) :
    victimsSuffice width needOne (covered + (more.map (·.2.width)).sum) (taken ++ more) = true := by
  obtain ⟨wide, one⟩ := (victimsSuffice_iff ..).mp enough
  exact (victimsSuffice_iff ..).mpr
    ⟨Nat.le_add_right_of_le wide, fun needed => List.append_ne_nil_of_left_ne_nil (one needed) more⟩

/-- No victims are found just where the whole ranking does not suffice (R65). -/
theorem takeVictims_eq_none_iff {width covered : Nat} {needOne : Bool} {ranking taken : List (Index × Connection)} :
    takeVictims width needOne ranking covered taken = none ↔
      ¬ victimsSuffice width needOne (covered + (ranking.map (·.2.width)).sum) (taken ++ ranking) = true := by
  induction ranking generalizing covered taken with
  | nil => simp [takeVictims]
  | cons v rest ih =>
    rw [takeVictims]
    split
    · rename_i enough
      exact iff_of_false (Option.some_ne_none _) (not_not.mpr (victimsSuffice_append enough (v :: rest)))
    · rw [ih]
      simp [Nat.add_assoc]

/-- Victims are taken one at a time: no shorter run from the head of the ranking suffices (R65). -/
theorem takeVictims_shortest {width covered : Nat} {needOne : Bool} {ranking taken victims shorter : List (Index × Connection)}
    (found : takeVictims width needOne ranking covered taken = some victims) (head : shorter <+: ranking)
    (fewer : (taken ++ shorter).length < victims.length) :
    ¬ victimsSuffice width needOne (covered + (shorter.map (·.2.width)).sum) (taken ++ shorter) = true := by
  induction ranking generalizing covered taken shorter with
  | nil =>
    simp only [takeVictims, Option.ite_none_right_eq_some, Option.some.injEq] at found
    obtain ⟨-, rfl⟩ := found
    rw [List.length_append] at fewer
    omega
  | cons v rest ih =>
    rw [takeVictims] at found
    split at found
    · cases found
      rw [List.length_append] at fewer
      omega
    · rename_i tooFew
      obtain rfl | ⟨more, rfl, below⟩ := List.prefix_cons_iff.mp head
      · simpa using tooFew
      · have onward := ih found below (by simpa using fewer)
        simpa [Nat.add_assoc] using onward

/-- The victims cover the width and, where the table is full, there is one (R65). -/
def State.VictimsCover (s : State) (width : Nat) (victims : List (Index × Connection)) : Prop :=
  width ≤ s.freeSlots.length + (victims.map (·.2.width)).sum ∧ ((∀ i, s.connection i ≠ none) → victims ≠ [])

theorem State.victimsCover_iff (s : State) (width : Nat) (victims : List (Index × Connection)) :
    s.VictimsCover width victims ↔
      victimsSuffice width s.unusedIndex.isNone (s.freeSlots.length + (victims.map (·.2.width)).sum) victims = true := by
  rw [victimsSuffice_iff, State.VictimsCover, Option.isNone_iff_eq_none, s.unusedIndex_eq_none_iff]

theorem State.victimsFor_eq_none_iff (s : State) (cls : ClassNo) (width : Nat) :
    s.victimsFor cls width = none ↔ ¬ s.VictimsCover width (s.ranking cls) := by
  rw [State.victimsFor, takeVictims_eq_none_iff, State.victimsCover_iff, List.nil_append]

/-- What is found is a run from the head of the ranking that covers, and no shorter one does. -/
theorem State.victimsFor_shortest {s : State} {cls : ClassNo} {width : Nat} {victims : List (Index × Connection)}
    (found : s.victimsFor cls width = some victims) :
    victims <+: s.ranking cls ∧ s.VictimsCover width victims ∧
      ∀ shorter, shorter <+: s.ranking cls → shorter.length < victims.length → ¬ s.VictimsCover width shorter := by
  obtain ⟨more, head, rfl, -, -⟩ := takeVictims_eq_some found
  obtain ⟨-, wide, one⟩ := State.victimsFor_found found
  refine ⟨head, ⟨wide, fun full => one (s.unusedIndex_eq_none_iff.mpr full)⟩, fun shorter run fewer => ?_⟩
  rw [State.victimsCover_iff]
  exact takeVictims_shortest found run fewer

/-- A run that covers is found where no shorter one does: runs of one length from one head are the same. -/
theorem State.victimsFor_of_shortest {s : State} {cls : ClassNo} {width : Nat} {victims : List (Index × Connection)}
    (head : victims <+: s.ranking cls) (cover : s.VictimsCover width victims)
    (shortest : ∀ shorter, shorter <+: s.ranking cls → shorter.length < victims.length →
      ¬ s.VictimsCover width shorter) : s.victimsFor cls width = some victims := by
  cases found : s.victimsFor cls width with
  | none =>
    have tooFew := (s.victimsFor_eq_none_iff cls width).mp found
    obtain ⟨rest, whole⟩ := head
    have enough := victimsSuffice_append ((s.victimsCover_iff ..).mp cover) rest
    rw [whole, Nat.add_assoc, ← List.sum_append, ← List.map_append, whole, ← State.victimsCover_iff] at enough
    exact absurd enough tooFew
  | some others =>
    obtain ⟨run, coverOthers, shortestOthers⟩ := State.victimsFor_shortest found
    have notLonger : ¬ victims.length < others.length := fun fewer => shortestOthers victims head fewer cover
    have notShorter : ¬ others.length < victims.length := fun fewer => shortest others run fewer coverOthers
    have same : others <+: victims := List.prefix_of_prefix_length_le run head (not_lt.mp notLonger)
    rw [same.eq_of_length (le_antisymm (not_lt.mp notLonger) (not_lt.mp notShorter))]

/-- Settles O25: the order and the members of the ranking, then the shortest run from its head. -/
theorem victimsAreTakenInRankOrder : Obligations.VictimsAreTakenInRankOrder := fun s cls width =>
  ⟨s.pairwise_ranking cls, s.mem_ranking_iff cls,
    fun _ => ⟨State.victimsFor_shortest, fun ⟨head, cover, shortest⟩ => State.victimsFor_of_shortest head cover shortest⟩,
    s.victimsFor_eq_none_iff cls width⟩

end Sys2Proof.Machine
end

section
/-! The Wait Queue's own events: CANCEL, the walk of its deadlines and the service pass (R54, R55, R57, R59). -/

namespace Sys2Proof.Machine

set_option Elab.async false -- one proof at a time: waiting proofs would hold a thread each

/-! ### CANCEL (R59) -/

/-- A source's entry is the first of its entries in the queue. -/
theorem State.entryOf_of_split {s : State} {front back : List Entry} {e : Entry} {h : Handle}
    (queue : s.waitQueue = front ++ e :: back) (own : e.source = h) (first : ∀ x ∈ front, x.source ≠ h) :
    s.entryOf h = some e := by
  have passed : front.find? (fun x => decide (x.source = h)) = none := by simpa using first
  rw [State.entryOf, queue, List.find?_append, passed, Option.none_or, List.find?_cons_of_pos (by simpa using own)]

/-- The removal of a source's entry closes the queue up over it (R50). -/
theorem State.removeEntry_of_split {s : State} {front back : List Entry} {e : Entry}
    (queue : s.waitQueue = front ++ e :: back) (first : ∀ x ∈ front, x.source ≠ e.source) :
    s.removeEntry e = { s with waitQueue := front ++ back } := by
  have absent : e ∉ front := fun there => first e there rfl
  rw [State.removeEntry, queue, List.erase_append_right _ absent, List.erase_cons_head]

/-- Settles O32. -/
theorem cancelRemovesTheEntry : Obligations.CancelRemovesTheEntry := by
  intro s drop n tag h r quiet source onDrop c refusedFrom
  have taken : exec c s = .next ((s.taking c).takeCancel tag h r) := quiet.exec_eq_owner rfl source onDrop
  have turned {reason : Reason}
      (told : (s.taking c).takeCancel tag h r = (s.taking c).tell h (.refuse reason (some tag) none)) :
      refusedFrom (s.taking c) reason := by
    change exec c s = _
    rw [taken, told, State.tell_source source]
  refine ⟨fun notReady => turned ?_, fun ready => ⟨fun none => turned ?_, fun front e back queue own first =>
    ⟨fun other => turned ?_, fun same => ?_⟩⟩⟩
  · rw [State.takeCancel, if_pos notReady]
  · have noEntry : (s.taking c).entryOf h = Option.none := (State.entryOf_eq_none_iff ..).mpr none
    simp [State.takeCancel, ready, noEntry]
  · have entry : (s.taking c).entryOf h = some e := State.entryOf_of_split (s := s.taking c) queue own first
    simp [State.takeCancel, ready, entry, other]
  · have entry : (s.taking c).entryOf h = some e := State.entryOf_of_split (s := s.taking c) queue own first
    have removed := State.removeEntry_of_split (s := s.taking c) queue (own ▸ first)
    obtain ⟨here, rfl⟩ := s.station_of_lookup n h r source
    change exec c s = _
    simp only [taken, State.takeCancel, ready, entry, same, removed, ne_eq, not_true_eq_false, if_false, if_true]
    exact congrArg _ (State.tell_of_station (s := { s.taking c with waitQueue := front ++ back }) here _)

/-! ### The walk of the deadlines (R57) -/

/-- An entry the walk has passed at the parity: a countdown of the superframe that ends is lowered (R57). -/
def Entry.lowered (p : Parity) (e : Entry) : Entry :=
  if e.countdown.superframe = p then e else { e with countdown := ⟨e.countdown.remaining - 1, p⟩ }

/-- The entry's countdown reaches 0 when the walk passes it (R57). -/
def Entry.RunsOut (p : Parity) (e : Entry) : Prop := e.countdown.superframe ≠ p ∧ e.countdown.remaining ≤ 1

/-- The walk passes an entry whose countdown does not run out (R57). -/
theorem State.walkEntries_cons_of_stays {s : State} {before rest : List Entry} {e : Entry}
    (queue : s.waitQueue = before ++ e :: rest) (stays : ¬ e.RunsOut s.timer.parity) :
    s.walkEntries (e :: rest) before.length =
      { s with waitQueue := before ++ e.lowered s.timer.parity :: rest }.walkEntries rest (before.length + 1) := by
  rw [State.walkEntries]
  by_cases kept : e.countdown.superframe = s.timer.parity
  · rw [if_neg (by simp [State.counts, kept]), Entry.lowered, if_pos kept, ← queue]
  · have above : e.countdown.remaining - 1 ≠ 0 := fun zero => stays ⟨kept, by omega⟩
    rw [if_pos (by simp [State.counts, kept])]
    simp only [State.lowered, above, if_false, queue, List.set_append_right _ _ le_rfl, Nat.sub_self, List.set_cons_zero,
      Entry.lowered, kept]

/-- The walk stands at an entry whose countdown runs out (R57). -/
theorem State.walkEntries_cons_of_runsOut {s : State} {before rest : List Entry} {e : Entry}
    (queue : s.waitQueue = before ++ e :: rest) (out : e.RunsOut s.timer.parity) :
    s.walkEntries (e :: rest) before.length =
      { s with
        waitQueue := before ++ e.lowered s.timer.parity :: rest
        due := some (.entry before.length) } := by
  obtain ⟨counted, low⟩ := out
  have zero : e.countdown.remaining - 1 = 0 := by omega
  rw [State.walkEntries, if_pos (by simp [State.counts, counted])]
  simp only [State.lowered, zero, if_true, queue, List.set_append_right _ _ le_rfl, Nat.sub_self, List.set_cons_zero,
    Entry.lowered, counted, if_false]

/-- The walk passes a stretch of entries whose countdowns do not run out (R57). -/
theorem State.walkEntries_append_of_stay {s : State} {before stretch rest : List Entry}
    (queue : s.waitQueue = before ++ (stretch ++ rest)) (stay : ∀ e ∈ stretch, ¬ e.RunsOut s.timer.parity) :
    s.walkEntries (stretch ++ rest) before.length =
      { s with waitQueue := before ++ (stretch.map (Entry.lowered s.timer.parity) ++ rest) }.walkEntries rest
        (before.length + stretch.length) := by
  induction stretch generalizing s before with
  | nil =>
    rw [List.nil_append] at queue
    simp [← queue]
  | cons e more ih =>
    let passed : State := { s with waitQueue := before ++ e.lowered s.timer.parity :: (more ++ rest) }
    have onward := ih (s := passed) (before := before ++ [e.lowered s.timer.parity]) (by simp [passed])
      fun x there => stay x (List.mem_cons_of_mem e there)
    rw [List.length_append, List.length_singleton] at onward
    have next : s.waitQueue = before ++ e :: (more ++ rest) := queue
    rw [List.cons_append, State.walkEntries_cons_of_stays next (stay e (List.mem_cons_self ..)), onward]
    simp [passed, Nat.add_assoc, Nat.add_comm 1]

/-- The walk with no countdown to run out (R57). -/
theorem State.walkEntries_of_stay {s : State} (stay : ∀ e ∈ s.waitQueue, ¬ e.RunsOut s.timer.parity) :
    s.walkEntries s.waitQueue 0 =
      { s with waitQueue := s.waitQueue.map (Entry.lowered s.timer.parity), due := none } := by
  have walked := State.walkEntries_append_of_stay (before := []) (rest := []) (List.append_nil _).symm stay
  simp only [List.append_nil, List.nil_append, List.length_nil] at walked
  exact walked

/-- The walk stands at the first entry whose countdown runs out (R57). -/
theorem State.walkEntries_of_runsOut {s : State} {front back : List Entry} {e : Entry}
    (queue : s.waitQueue = front ++ e :: back) (stay : ∀ x ∈ front, ¬ x.RunsOut s.timer.parity)
    (out : e.RunsOut s.timer.parity) :
    s.walkEntries s.waitQueue 0 =
      { s with
        waitQueue := front.map (Entry.lowered s.timer.parity) ++ e.lowered s.timer.parity :: back
        due := some (.entry front.length) } := by
  let reached : State := { s with waitQueue := front.map (Entry.lowered s.timer.parity) ++ e :: back }
  have walked := State.walkEntries_append_of_stay (before := []) queue stay
  have stands := State.walkEntries_cons_of_runsOut (s := reached) rfl out
  rw [List.length_map] at stands
  simp only [List.length_nil, Nat.zero_add, List.nil_append] at walked
  rw [queue, walked]
  exact stands

/-- The timeout of an entry whose source has a record (R57). -/
theorem State.timeOutEntry_of_split {s : State} {front back : List Entry} {e : Entry} {x : Station}
    (queue : s.waitQueue = front ++ e :: back) (source : s.station e.source = some x) :
    s.timeOutEntry front.length =
      ({ s with waitQueue := front ++ back }.offer ⟨x.number, .refuse .queueTimeout (some e.tag) none⟩).raise .refusal := by
  have there : s.waitQueue[front.length]? = some e := by simp [queue]
  have closed : s.waitQueue.eraseIdx front.length = front ++ back := by simp [queue, List.eraseIdx_append_of_length_le]
  simp only [State.timeOutEntry, there, closed, State.refuseEntry]
  exact congrArg (State.raise .refusal) (State.tell_of_station (s := { s with waitQueue := front ++ back }) source _)

/-- Settles O40. -/
theorem queueWalkLowersAndTimesOut : Obligations.QueueWalkLowersAndTimesOut := by
  refine ⟨fun s quiet => ?_, fun s none => ?_, fun s front back e x running due queue source => ?_⟩
  · intro lowered runsOut
    have walks : exec .queueDeadlineWalk s = .next s.takeOwedQueueWalk := congrArg _ (quiet.event_eq _)
    refine ⟨fun idle => ?_, fun owed => ⟨fun stay => ?_, fun front e back queue stay out => ?_⟩⟩
    · rw [walks, State.takeOwedQueueWalk_of_taken idle]
    all_goals
      rw [walks, State.takeOwedQueueWalk, if_pos owed]
      let begun : State := { s with owed := { s.owed with queueWalk := false } }
    · have walked : begun.walkEntries begun.waitQueue 0 = _ := State.walkEntries_of_stay (s := begun) stay
      rw [walked, ← quiet.2]
      rfl
    · have walked : begun.walkEntries begun.waitQueue 0 = _ := State.walkEntries_of_runsOut (s := begun) queue stay out
      rw [walked]
      rfl
  · simp [exec, execQueueTimeout, State.entryDue, none]
  · have entryDue : s.entryDue = true := by simp only [State.entryDue, due]
    have taken : s.takeDue = s.takeEntryTimeout front.length := by simp only [State.takeDue, due]
    simp only [exec, execQueueTimeout, running, entryDue, and_self, if_true, taken, State.takeEntryTimeout,
      State.timeOutEntry_of_split queue source, State.raise_waitQueue, State.offer_waitQueue, List.drop_left]

/-! ### The service pass (R54, R55) -/

/-- An entry too wide for its class leaves with BAD_WIDTH (R55 check 1). -/
theorem State.examine_of_wide {s : State} {e : Entry} {x : Station} (source : s.station e.source = some x)
    (wide : (s.classPolicy e.cls).maxWidth < e.width) :
    s.examine e =
      { s with waitQueue := s.waitQueue.erase e }.offer ⟨x.number, .refuse .badWidth (some e.tag) none⟩ := by
  rw [State.examine, if_pos wide]
  exact State.tell_of_station (s := s.removeEntry e) source _

/-- An entry that fails a check of R55 behind the first stays. -/
theorem State.examine_of_barred {s : State} {e : Entry} {x : Station} (source : s.station e.source = some x)
    (fits : e.width ≤ (s.classPolicy e.cls).maxWidth)
    (barred : 8 ≤ s.partyCount e.source ∨ 8 ≤ s.partyCount e.peer ∨ x.quota < s.usage e.source + e.width ∨
      s.unusedIndex = none ∨ s.searchSlots e.contiguous e.width = none) : s.examine e = s := by
  rw [State.examine, if_neg (not_lt.mpr fits)]
  split
  · rfl
  rename_i parties
  split
  · rfl
  rename_i quota
  simp only [source, Option.map_some, Option.getD_some] at quota
  simp only [Config.partyLimit, not_or] at parties
  obtain sourceBusy | peerBusy | above | full := barred
  · exact absurd sourceBusy parties.1
  · exact absurd peerBusy parties.2
  · exact absurd above quota
  · rw [State.room_of_full full]

/-- An entry that passes the checks of R55 leaves the queue and is placed. -/
theorem State.examine_of_room {s : State} {e : Entry} {x : Station} {i : Index} {slots : List Nat}
    (source : s.station e.source = some x) (fits : e.width ≤ (s.classPolicy e.cls).maxWidth)
    (sourceFree : s.partyCount e.source < 8) (peerFree : s.partyCount e.peer < 8)
    (quota : s.usage e.source + e.width ≤ x.quota) (room : s.room e.contiguous e.width = some (i, slots)) :
    s.examine e = (s.removeEntry e).place i
      (s.offeredRecord e.source e.peer e.cls e.contiguous e.width e.tag slots) := by
  have parties : ¬ (Config.partyLimit ≤ s.partyCount e.source ∨ Config.partyLimit ≤ s.partyCount e.peer) :=
    not_or.mpr ⟨not_le.mpr sourceFree, not_le.mpr peerFree⟩
  have within : ¬ ((s.station e.source).map (·.quota)).getD 0 < s.usage e.source + e.width := by
    simpa [source] using quota
  rw [State.examine, if_neg (not_lt.mpr fits), if_neg parties, if_neg within]
  simp only [room]

/-- Settles O45. -/
theorem servicePassExaminesInQueueOrder : Obligations.ServicePassExaminesInQueueOrder := by
  refine ⟨State.servicePass_of_not_opened, fun s opened => if_pos opened, fun s e x y source peer =>
    ⟨State.examine_of_wide source, fun fits => ⟨fun barred => ?_,
      fun i slots sourceFree peerFree quota unused lowest searched => ?_⟩⟩⟩
  · rw [← s.unusedIndex_eq_none_iff] at barred
    exact State.examine_of_barred source fits barred
  · have room : s.room e.contiguous e.width = some (i, slots) :=
      (State.room_eq_some_iff ..).mpr ⟨(s.unusedIndex_eq_some_iff i).mpr ⟨unused, lowest⟩, searched⟩
    have placed := State.place_of_station (s := s.removeEntry e) i
      (c := s.offeredRecord e.source e.peer e.cls e.contiguous e.width e.tag slots) peer
    have number : (s.removeEntry e).numberOf e.source = x.number :=
      State.numberOf_of_station (s := s.removeEntry e) source
    rw [State.examine_of_room source fits sourceFree peerFree quota room, placed]
    simp only [State.offeredRecord, number]
    rfl

end Sys2Proof.Machine
end

section
/-! What the Downlink Queue makes of an offer and a broadcast, and the Directory of an ATTACH (R72, R76 to R78, R147, R148). -/

namespace Sys2Proof.Machine

set_option Elab.async false -- one proof at a time: waiting proofs would hold a thread each

/-! ### Offers (R147) -/

/-- With 3 entries free an offer is taken (R147). -/
theorem State.offer_of_room {s : State} (room : s.downlink.held.length ≤ 37) (m : DownMessage) :
    s.offer m = s.enqueue m := by
  refine if_pos ?_
  simp only [State.downlinkFree, Config.downlinkCapacity, Config.downlinkAdmission]
  omega

/-- With fewer than 3 entries free an offer is dropped (R147). -/
theorem State.offer_of_full {s : State} (full : 37 < s.downlink.held.length) (m : DownMessage) :
    s.offer m = (s.raise .sync).oweSync m.destination := by
  refine if_neg ?_
  simp only [State.downlinkFree, Config.downlinkCapacity, Config.downlinkAdmission]
  omega

/-- A dropped message for no record marks none (R89). -/
theorem State.oweSync_of_unknown {s : State} {n : StationNumber} (unknown : s.lookup n = none ∨ validNumber n = false) :
    s.oweSync n = s := by
  unfold State.oweSync
  split
  · rename_i h r found
    obtain none | invalid := unknown
    · cases none ▸ found
    · rw [if_neg (by simp [invalid])]
  · rfl

/-- A dropped message for a record marks it (R89). -/
theorem State.oweSync_of_lookup {s : State} {n : StationNumber} {h : Handle} {r : Station}
    (found : s.lookup n = some (h, r)) (valid : validNumber n = true) :
    s.oweSync n = s.setStation h (some { r with syncOwed := true }) := by
  have here := (s.station_of_lookup n h r found).1
  simp only [State.oweSync, found, valid, if_true, State.modifyStation, here, Option.map_some]

/-! ### Broadcasts of the highway's state (R148) -/

/-- A message that is a HIGHWAY_STATE carries one. -/
theorem DownMessage.isHighwayState_iff (m : DownMessage) :
    m.isHighwayState = true ↔ ∃ state, m.body = .highwayState state := by
  obtain ⟨destination, body⟩ := m
  cases body <;> simp [DownMessage.isHighwayState]

/-- The first HIGHWAY_STATE of a list is the one replaced. -/
theorem replaceWaiting_append {m old : DownMessage} {front : List DownMessage} (back : List DownMessage)
    (none : ∀ x ∈ front, x.isHighwayState = false) (waits : old.isHighwayState = true) :
    replaceWaiting m (front ++ old :: back) = front ++ m :: back := by
  induction front with
  | nil => simp [replaceWaiting, waits]
  | cons x rest ih =>
    have kept := ih fun y there => none y (List.mem_cons_of_mem x there)
    simp [replaceWaiting, none x (List.mem_cons_self ..), kept]

/-- With a HIGHWAY_STATE waiting behind the message in transmission, a new one takes its place (R148). -/
theorem State.broadcast_of_waiting {s : State} {front back : List DownMessage} {old : DownMessage}
    (held : s.downlink.held = front ++ old :: back) (sending : s.downlink.sending ≤ front.length)
    (waits : old.isHighwayState = true) (first : ∀ x ∈ front.drop s.downlink.sending, x.isHighwayState = false)
    (state : HighwayState) :
    s.broadcast (.highwayState state) =
      { s with downlink := { s.downlink with held := front ++ ⟨0xFFFFFFFF, .highwayState state⟩ :: back } } := by
  have waiting : s.downlink.held.drop s.downlink.sending = front.drop s.downlink.sending ++ old :: back := by
    rw [held, List.drop_append_of_le_length sending]
  have sent : s.downlink.held.take s.downlink.sending = front.take s.downlink.sending := by
    rw [held, List.take_append_of_le_length sending]
  have found : (front.drop s.downlink.sending ++ old :: back).any (·.isHighwayState) = true := by
    simp [waits]
  have own : (⟨0xFFFFFFFF, .highwayState state⟩ : DownMessage).isHighwayState = true := rfl
  simp only [State.broadcast, waiting, sent, found, own, Bool.and_self, if_true, replaceWaiting_append back first waits,
    ← List.append_assoc, List.take_append_drop]

/-- With none waiting, a new HIGHWAY_STATE is taken with an entry free and dropped with none (R148). -/
theorem State.broadcast_of_none_waiting {s : State}
    (none : ∀ x ∈ s.downlink.held.drop s.downlink.sending, x.isHighwayState = false) (state : HighwayState) :
    s.broadcast (.highwayState state) =
      if 1 ≤ s.downlinkFree then s.enqueue ⟨0xFFFFFFFF, .highwayState state⟩ else s.raise .sync := by
  have absent : (s.downlink.held.drop s.downlink.sending).any (·.isHighwayState) = false := by
    simpa using none
  simp only [State.broadcast, absent, Bool.and_false, Bool.false_eq_true, if_false]

/-- Settles O13. -/
theorem offersAreTakenOrDropped : Obligations.OffersAreTakenOrDropped := by
  have other {x : DownMessage} (differs : ∀ old, x.body ≠ .highwayState old) : x.isHighwayState = false := by
    rw [Bool.eq_false_iff, ne_eq, DownMessage.isHighwayState_iff]
    exact fun ⟨old, carries⟩ => differs old carries
  refine ⟨fun s m => ⟨fun room => ?_, fun full unknown => ?_, fun h r full found valid => ?_⟩, fun s state => ?_⟩
  · exact State.offer_of_room room m
  · rw [State.offer_of_full full, State.oweSync_of_unknown (s := s.raise .sync) unknown]
    rfl
  · rw [State.offer_of_full full, State.oweSync_of_lookup (s := s.raise .sync) found valid]
    rfl
  · intro m
    refine ⟨fun front back old held sending first => ?_, fun none => ⟨fun room => ?_, fun full => ?_⟩⟩
    · refine State.broadcast_of_waiting held ?_ rfl (fun x there => other (first x there)) state
      unfold Downlink.sending
      split
      · exact List.length_pos_of_ne_nil (sending ‹_›)
      · exact Nat.zero_le _
    · rw [State.broadcast_of_none_waiting fun x there => other (none x there), if_pos]
      · rfl
      · simp only [State.downlinkFree, Config.downlinkCapacity]
        omega
    · rw [State.broadcast_of_none_waiting fun x there => other (none x there), if_neg]
      · rfl
      · simp only [State.downlinkFree, Config.downlinkCapacity]
        omega

/-! ### The checks of ATTACH (R76) -/

theorem State.dropHolder_eq_none_iff (s : State) (d : Drop) :
    s.dropHolder d = none ↔ ∀ h r, s.station h = some r → r.drop = d → r.via ≠ none := by
  simp [State.dropHolder, allHandles, Option.any_eq_false]

/-- No restart where the number is in no record (R79). -/
theorem State.restartOf_of_unknown {s : State} {n : StationNumber} (unknown : s.lookup n = none) (drop : Drop) :
    s.restartOf drop n = none := by
  simp only [State.restartOf, unknown]

/-- No restart where the number is in a record of another drop or behind a relay (R76, R79). -/
theorem State.restartOf_of_elsewhere {s : State} {n : StationNumber} {h : Handle} {r : Station}
    (found : s.lookup n = some (h, r)) {drop : Drop} (elsewhere : r.drop ≠ drop ∨ r.via ≠ none) :
    s.restartOf drop n = none := by
  simp only [State.restartOf, found]
  exact if_neg (by simpa [or_iff_not_imp_left] using elsewhere)

/-- The part an ATTACH meets passes the checks of R76 up to the search for the number. -/
structure State.Attachable (s : State) (n : StationNumber) : Prop where
  opened : s.highway = .opened
  valid : validNumber n = true
  unlisted : s.listed n = false

/-- The last checks of R76, for a number in no record. -/
theorem State.Attachable.attachRefusal_of_unknown {s : State} {n : StationNumber} (attachable : s.Attachable n)
    (unknown : s.lookup n = none) (drop : Drop) :
    s.attachRefusal drop n =
      if (s.dropHolder drop).isSome then some .dropOccupied
      else if s.freeHandle.isNone then some .directoryFull
      else none := by
  simp [State.attachRefusal, attachable.opened, attachable.valid, attachable.unlisted, unknown,
    State.restartOf_of_unknown unknown]

/-- A number in a record that is not the drop's tier-0 record is a DUPLICATE (R76). -/
theorem State.Attachable.attachRefusal_of_elsewhere {s : State} {n : StationNumber} (attachable : s.Attachable n)
    {h : Handle} {r : Station} (found : s.lookup n = some (h, r)) {drop : Drop} (elsewhere : r.drop ≠ drop ∨ r.via ≠ none) :
    s.attachRefusal drop n = some .duplicate := by
  simp [State.attachRefusal, attachable.opened, attachable.valid, attachable.unlisted, found,
    State.restartOf_of_elsewhere found elsewhere]

theorem State.Quiet.exec_attach_eq {s : State} (quiet : s.Quiet) (drop : Drop) (n : StationNumber) (kind : StationKind)
    (cls : ClassNo) :
    exec (.attach drop n kind cls) s = .next ((s.taking (.attach drop n kind cls)).takeAttach drop n kind cls) :=
  congrArg _ (quiet.message_eq _ _)

/-- A refused ATTACH is answered to the drop address (R77). -/
theorem State.takeAttach_of_refusal {s : State} {drop : Drop} {n : StationNumber} {reason : Reason}
    (refused : s.attachRefusal drop n = some reason) (kind : StationKind) (cls : ClassNo) :
    s.takeAttach drop n kind cls =
      (if reason = .denied then s.denyHit n else s).refuseAtDrop drop reason none none n := by
  simp only [State.takeAttach, refused]

/-- An ATTACH that passes the checks and is no restart is an admission (R78). -/
theorem State.takeAttach_of_fresh {s : State} {drop : Drop} {n : StationNumber}
    (accepted : s.attachRefusal drop n = none) (unknown : s.lookup n = none) (kind : StationKind) (cls : ClassNo) :
    s.takeAttach drop n kind cls = s.admitByAttach drop n kind cls := by
  simp only [State.takeAttach, accepted, State.restartOf_of_unknown unknown]

/-- The checks of R76 pass for a number in no record, on a drop without a tier-0 record, with a handle free. -/
theorem State.Attachable.attachRefusal_eq_none {s : State} {n : StationNumber} (attachable : s.Attachable n)
    (unknown : s.lookup n = none) {drop : Drop} (vacant : s.dropHolder drop = none) {h : Handle}
    (free : s.freeHandle = some h) : s.attachRefusal drop n = none := by
  simp [attachable.attachRefusal_of_unknown unknown, vacant, free]

/-- Settles O16. -/
theorem attachAdmits : Obligations.AttachAdmits := by
  intro s drop n kind cls h quiet opened valid unlisted unknown vacant unused lowest quota record
  let taken := s.taking (.attach drop n kind cls)
  have attachable : taken.Attachable n := ⟨opened, valid, unlisted⟩
  have noRecord : taken.lookup n = none := (taken.lookup_eq_none_iff n).mpr unknown
  have holder : taken.dropHolder drop = none := (taken.dropHolder_eq_none_iff drop).mpr vacant
  have free : taken.freeHandle = some h := (taken.freeHandle_eq_some_iff h).mpr ⟨unused, lowest⟩
  have made : taken.attachedRecord drop n kind cls = record := by
    cases kind <;> rfl
  rw [quiet.exec_attach_eq, State.takeAttach_of_fresh (attachable.attachRefusal_eq_none noRecord holder free) noRecord]
  simp only [State.admitByAttach, taken, free, made]
  rw [← made]
  rfl

/-- Settles O17. -/
theorem attachIsRefused : Obligations.AttachIsRefused := by
  intro s drop n kind cls quiet taken refusedFrom
  have refuses {reason : Reason} (refused : taken.attachRefusal drop n = some reason) (other : reason ≠ .denied) :
      refusedFrom taken reason := by
    change exec _ s = _
    rw [quiet.exec_attach_eq, State.takeAttach_of_refusal refused, if_neg other]
    rfl
  refine ⟨fun closed => refuses ?_ nofun, fun draining => refuses ?_ nofun, fun opened => ⟨fun invalid => refuses ?_ nofun,
    fun valid => ⟨fun listed => ?_, fun unlisted => ?_⟩⟩⟩
  · simp [State.attachRefusal, show taken.highway = .closed from closed]
  · simp [State.attachRefusal, show taken.highway = .draining from draining]
  · simp [State.attachRefusal, show taken.highway = .opened from opened, invalid]
  · have refused : taken.attachRefusal drop n = some .denied := by
      simp [State.attachRefusal, show taken.highway = .opened from opened, valid, show taken.listed n = true from listed]
    change exec _ s = _
    rw [quiet.exec_attach_eq, State.takeAttach_of_refusal refused, if_pos rfl]
    rfl
  · have attachable : taken.Attachable n := ⟨opened, valid, unlisted⟩
    refine ⟨fun h r found elsewhere => refuses (attachable.attachRefusal_of_elsewhere found elsewhere) nofun,
      fun unknown => ⟨fun ⟨h, r, here, onDrop, top⟩ => refuses ?_ nofun, fun vacant full => refuses ?_ nofun⟩⟩
    · have held : taken.dropHolder drop ≠ none := fun none =>
        (taken.dropHolder_eq_none_iff drop).mp none h r here onDrop top
      rw [attachable.attachRefusal_of_unknown unknown, if_pos (Option.isSome_iff_ne_none.mpr held)]
    · have holder : taken.dropHolder drop = none := (taken.dropHolder_eq_none_iff drop).mpr vacant
      have noHandle : taken.freeHandle = none := taken.freeHandle_eq_none_iff.mpr full
      simp [attachable.attachRefusal_of_unknown unknown, holder, noHandle]

end Sys2Proof.Machine
end

section
/-! What leaves the directory as it is: the records apart from what R70's laws do not read, the declared counts of assemblies
and the numbers listed. -/

namespace Sys2Proof.Machine

set_option Elab.async false -- one proof at a time: waiting proofs would hold a thread each

/-! ### Parts with the same directory -/

/-- A record as the laws of the Directory read it: number, kind, drop, VIA and state (R70). -/
def Station.directoryFields (r : Station) : Station :=
  { r.settledFields with tier := 0, cls := 0, quota := 0, roster := none, generation := none, deadline := none }

/-- Records that are alike in what the laws read are alike in each of it. -/
theorem Station.alike_of_directoryFields {x r : Station} (same : x.directoryFields = r.directoryFields) :
    x.number = r.number ∧ x.kind = r.kind ∧ x.drop = r.drop ∧ x.via = r.via ∧ x.state = r.state := by
  simpa [Station.directoryFields, Station.settledFields] using same

/-- Two parts have the same directory, as its laws read it. -/
structure State.SameDirectory (s t : State) : Prop where
  records : ∀ h, (t.station h).map Station.directoryFields = (s.station h).map Station.directoryFields
  declared : ∀ h, (t.assembly h).map Assembly.declaredCount = (s.assembly h).map Assembly.declaredCount
  listed : ∀ n, t.listed n = s.listed n

theorem State.SameDirectory.refl (s : State) : s.SameDirectory s := ⟨fun _ => rfl, fun _ => rfl, fun _ => rfl⟩

theorem State.SameDirectory.trans {s t u : State} (first : s.SameDirectory t) (second : t.SameDirectory u) :
    s.SameDirectory u where
  records h := (second.records h).trans (first.records h)
  declared h := (second.declared h).trans (first.declared h)
  listed n := (second.listed n).trans (first.listed n)

/-- An update of other fields leaves the directory as it is. -/
theorem State.SameDirectory.of_unchanged {s t : State} (stations : t.stations = s.stations := by rfl)
    (assemblies : t.assemblies = s.assemblies := by rfl) (denyList : t.denyList = s.denyList := by rfl) :
    s.SameDirectory t where
  records h := by simp only [State.station, stations]
  declared h := by simp only [State.assembly, assemblies]
  listed n := by simp only [State.listed, denyList]

/-- Tables that are the same, with the same assemblies, hold the same directory. -/
theorem State.SameTables.sameDirectory {s t : State} (same : s.SameTables t) (assemblies : t.assemblies = s.assemblies) :
    s.SameDirectory t where
  records h := by
    have alike := congrArg (Option.map Station.directoryFields) (same.records h)
    rwa [Option.map_map, Option.map_map] at alike
  declared h := by simp only [State.assembly, assemblies]
  listed n := by simp only [State.listed, same.denyList]

/-- What is steady leaves the directory as it is. -/
theorem State.Steady.sameDirectory {s t : State} (steady : s.Steady t) : s.SameDirectory t where
  records h := by
    have alike := congrArg (Option.map Station.directoryFields) (steady.records h)
    rwa [Option.map_map, Option.map_map] at alike
  declared h := by simp only [State.assembly, steady.assemblies]
  listed n := by simp only [State.listed, steady.untouched]

theorem State.sameDirectory_foldl {α : Type} (s : State) (f : State → α → State)
    (same : ∀ (t : State) (a : α), t.SameDirectory (f t a)) (list : List α) : s.SameDirectory (list.foldl f s) :=
  foldl_keeps s s.SameDirectory f (fun t a before => before.trans (same t a)) list (State.SameDirectory.refl s)

/-- A record changes in what the laws do not read. -/
theorem State.sameDirectory_setStation {s : State} {h : Handle} {r x : Station} (here : s.station h = some r)
    (alike : x.directoryFields = r.directoryFields) : s.SameDirectory (s.setStation h (some x)) := by
  refine ⟨fun k => ?_, fun _ => rfl, fun _ => rfl⟩
  rw [State.station_setStation]
  split
  · rename_i same
    rw [← same, here, Option.map_some, alike]
    rfl
  · rfl

theorem State.sameDirectory_modifyStation (s : State) (h : Handle) {f : Station → Station}
    (alike : ∀ r, (f r).directoryFields = r.directoryFields) : s.SameDirectory (s.modifyStation h f) := by
  refine ⟨fun k => ?_, fun _ => rfl, fun _ => rfl⟩
  rw [State.station_modifyStation]
  split
  · rename_i same
    subst same
    cases s.station h with
    | none => rfl
    | some r => exact congrArg some (alike r)
  · rfl

/-! ### Messages, removals, placements and service passes -/

theorem State.sameDirectory_offer (s : State) (m : DownMessage) : s.SameDirectory (s.offer m) :=
  (s.steady_offer m).sameDirectory

theorem State.sameDirectory_tell (s : State) (h : Handle) (body : DownBody) : s.SameDirectory (s.tell h body) :=
  (s.steady_tell h body).sameDirectory

theorem State.sameDirectory_raise (s : State) (f : Flag) : s.SameDirectory (s.raise f) := .of_unchanged

theorem State.sameDirectory_removeConnection (s : State) (i : Index) (c : Connection) (a b : Option DownBody) :
    s.SameDirectory (s.removeConnection i c a b) := (s.steady_removeConnection i c a b).sameDirectory

theorem State.sameDirectory_servicePasses (s : State) (n : Nat) : s.SameDirectory (s.servicePasses n) :=
  (s.steady_servicePasses n).sameDirectory

theorem State.sameDirectory_servicePass (s : State) : s.SameDirectory s.servicePass := s.sameDirectory_servicePasses 1

theorem State.sameDirectory_refuseEntry (s : State) (e : Entry) (reason : Reason) :
    s.SameDirectory (s.refuseEntry e reason) := s.sameDirectory_tell ..

theorem State.sameDirectory_removeEntry (s : State) (e : Entry) : s.SameDirectory (s.removeEntry e) := .of_unchanged

/-! ### The boundary's walks (R15, R36, R57, R107) -/

theorem State.sameDirectory_walkConnections (s : State) (list : List Index) : s.SameDirectory (s.walkConnections list) := by
  induction list generalizing s with
  | nil => exact .of_unchanged
  | cons i rest ih =>
    have passed (o : Option Connection) : s.SameDirectory ((s.setConnection i o).walkConnections rest) :=
      State.SameDirectory.trans .of_unchanged (ih _)
    simp only [State.walkConnections]
    split
    · exact ih s
    split
    · exact ih s
    split
    · split
      · exact .of_unchanged
      · exact passed _
    · exact ih s

theorem State.sameDirectory_expireConnection (s : State) (i : Index) : s.SameDirectory (s.expireConnection i) := by
  unfold State.expireConnection
  split
  · exact State.SameDirectory.refl s
  split
  · exact (s.sameDirectory_removeConnection ..).trans (State.sameDirectory_servicePass _)
  · exact (s.sameDirectory_removeConnection ..).trans (State.sameDirectory_servicePass _)
  · exact State.SameDirectory.refl s

theorem State.sameDirectory_walkEntries (s : State) (list : List Entry) (position : Nat) :
    s.SameDirectory (s.walkEntries list position) := by
  induction list generalizing s position with
  | nil => exact .of_unchanged
  | cons e rest ih =>
    have passed (queue : List Entry) :
        s.SameDirectory ({ s with waitQueue := queue }.walkEntries rest (position + 1)) :=
      State.SameDirectory.trans .of_unchanged (ih ..)
    simp only [State.walkEntries]
    split
    · split
      · exact .of_unchanged
      · exact passed _
    · exact ih ..

theorem State.sameDirectory_timeOutEntry (s : State) (position : Nat) : s.SameDirectory (s.timeOutEntry position) := by
  unfold State.timeOutEntry
  split
  · exact State.SameDirectory.refl s
  · have left : s.SameDirectory { s with waitQueue := s.waitQueue.eraseIdx position } := .of_unchanged
    exact (left.trans (State.sameDirectory_refuseEntry ..)).trans (State.sameDirectory_raise ..)

theorem State.sameDirectory_walkRelays (s : State) (list : List Handle) : s.SameDirectory (s.walkRelays list) := by
  induction list generalizing s with
  | nil => exact .of_unchanged
  | cons h rest ih =>
    simp only [State.walkRelays]
    split
    · exact ih s
    rename_i r here
    split
    · exact ih s
    rename_i d _
    split
    · have lowered : s.SameDirectory (s.setStation h (some { r with deadline := some (s.lowered d) })) :=
        State.sameDirectory_setStation here rfl
      split
      · exact lowered.trans .of_unchanged
      · exact lowered.trans (ih _)
    · exact ih s

theorem State.sameDirectory_completeEarmark (s : State) (i : Index) : s.SameDirectory (s.completeEarmark i) := by
  unfold State.completeEarmark
  split
  · exact State.SameDirectory.refl s
  · dsimp only
    split
    · exact State.SameDirectory.trans .of_unchanged (State.sameDirectory_tell ..)
    · exact State.SameDirectory.refl s

theorem State.sameDirectory_takeGuardEnd (s : State) : s.SameDirectory s.takeGuardEnd := by
  have completed : s.SameDirectory ((s.completing (!s.timer.parity)).foldl State.completeEarmark
      (s.mapSlots fun _ r => r.guardEnded (!s.timer.parity))) :=
    State.SameDirectory.trans .of_unchanged
      (State.sameDirectory_foldl _ _ (fun t i => t.sameDirectory_completeEarmark i) _)
  simp only [State.takeGuardEnd]
  split
  · exact completed.trans (State.sameDirectory_servicePass _)
  · exact completed

theorem State.sameDirectory_takeOwedGuardEnd (s : State) : s.SameDirectory s.takeOwedGuardEnd := by
  unfold State.takeOwedGuardEnd
  split
  · exact State.SameDirectory.trans .of_unchanged (State.sameDirectory_takeGuardEnd _)
  · exact State.SameDirectory.refl s

theorem State.sameDirectory_takeOwedLeaseWalk (s : State) : s.SameDirectory s.takeOwedLeaseWalk := by
  unfold State.takeOwedLeaseWalk
  split
  · exact State.SameDirectory.trans .of_unchanged (State.sameDirectory_walkConnections ..)
  · exact State.SameDirectory.refl s

theorem State.sameDirectory_takeOwedQueueWalk (s : State) : s.SameDirectory s.takeOwedQueueWalk := by
  unfold State.takeOwedQueueWalk
  split
  · exact State.SameDirectory.trans .of_unchanged (State.sameDirectory_walkEntries ..)
  · exact State.SameDirectory.refl s

theorem State.sameDirectory_takeOwedRosterWalk (s : State) : s.SameDirectory s.takeOwedRosterWalk := by
  unfold State.takeOwedRosterWalk
  split
  · exact State.SameDirectory.trans .of_unchanged (State.sameDirectory_walkRelays ..)
  · exact State.SameDirectory.refl s

/-! ### The Lease Engine and the Wait Queue (R26 to R35, R43, R59) -/

theorem State.sameDirectory_refuseNoSlots (s : State) (e : Entry) : s.SameDirectory (s.refuseNoSlots e) :=
  (s.sameDirectory_refuseEntry ..).trans (State.sameDirectory_raise ..)

theorem State.sameDirectory_joinQueue (s : State) (e : Entry) : s.SameDirectory (s.joinQueue e) := by
  have inserted (t : State) : t.SameDirectory (t.insertAndTell e) :=
    State.SameDirectory.trans .of_unchanged (State.sameDirectory_tell ..)
  unfold State.joinQueue
  split
  · exact s.sameDirectory_refuseNoSlots e
  split
  · exact inserted s
  split
  · exact s.sameDirectory_refuseNoSlots e
  split
  · have left : s.SameDirectory { s with waitQueue := s.waitQueue.dropLast } := .of_unchanged
    exact ((left.trans (State.sameDirectory_refuseEntry ..)).trans (State.sameDirectory_raise ..)).trans (inserted _)
  · exact s.sameDirectory_refuseNoSlots e

theorem State.sameDirectory_preempt (s : State) (victims : List (Index × Connection)) (source peer : Handle)
    (cls : ClassNo) (width : Nat) (tag : Tag) : s.SameDirectory (s.preempt victims source peer cls width tag) := by
  cases unused : (s.endVictims victims).unusedIndex with
  | none =>
    rw [State.preempt_of_full unused]
    exact State.SameDirectory.refl s
  | some i =>
    rw [State.preempt_of_unused unused, State.preemptMessages_eq_offerAll]
    have ended : s.SameDirectory (s.endVictims victims) := by
      rw [State.endVictims_frame]
      exact .of_unchanged
    exact (ended.trans .of_unchanged).trans (State.sameDirectory_foldl _ _ (fun t m => t.sameDirectory_offer m) _)

theorem State.sameDirectory_takeRequest (s : State) (peer : StationNumber) (cls : ClassNo) (contiguous : Bool)
    (width : Nat) (tag : Tag) (h : Handle) (r : Station) :
    s.SameDirectory (s.takeRequest peer cls contiguous width tag h r) := by
  unfold State.takeRequest
  split
  · exact s.sameDirectory_tell ..
  split
  · exact State.SameDirectory.refl s
  unfold State.serveRequest
  split
  · exact (s.steady_place ..).sameDirectory
  simp only [State.handOn]
  split
  · split
    · exact (s.sameDirectory_preempt ..).trans (State.sameDirectory_servicePasses ..)
    · exact s.sameDirectory_joinQueue _
  · exact s.sameDirectory_joinQueue _

theorem State.sameDirectory_refuseNamed (s : State) (h : Handle) (reference : Reference) (reason : Reason) :
    s.SameDirectory (s.refuseNamed h reference reason) := s.sameDirectory_tell ..

theorem State.sameDirectory_sendGrants (s : State) (i : Index) (c : Connection) : s.SameDirectory (s.sendGrants i c) :=
  (s.sameDirectory_tell ..).trans (State.sameDirectory_tell ..)

theorem State.sameDirectory_takeAccept (s : State) (reference : Reference) (c : Connection) (role : Role) (h : Handle) :
    s.SameDirectory (s.takeAccept reference c role h) := by
  unfold State.takeAccept
  split
  · exact s.sameDirectory_refuseNamed ..
  · exact State.SameDirectory.trans .of_unchanged (State.sameDirectory_sendGrants ..)
  · exact s.sameDirectory_refuseNamed ..
  · exact s.sameDirectory_refuseNamed ..

theorem State.sameDirectory_turnDown (s : State) (i : Index) (c : Connection) : s.SameDirectory (s.turnDown i c) :=
  (s.sameDirectory_removeConnection ..).trans (State.sameDirectory_servicePass _)

theorem State.sameDirectory_takeDecline (s : State) (reference : Reference) (c : Connection) (role : Role) (h : Handle) :
    s.SameDirectory (s.takeDecline reference c role h) := by
  unfold State.takeDecline
  split
  · exact s.sameDirectory_refuseNamed ..
  · exact s.sameDirectory_turnDown ..
  · exact s.sameDirectory_refuseNamed ..
  · exact s.sameDirectory_refuseNamed ..

theorem State.sameDirectory_grantLease (s : State) (i : Index) (c : Connection) : s.SameDirectory (s.grantLease i c) :=
  State.SameDirectory.trans .of_unchanged (State.sameDirectory_tell ..)

theorem State.sameDirectory_takeRenew (s : State) (reference : Reference) (c : Connection) (role : Role) (h : Handle) :
    s.SameDirectory (s.takeRenew reference c role h) := by
  unfold State.takeRenew
  split
  · exact s.sameDirectory_refuseNamed ..
  · exact s.sameDirectory_grantLease ..

theorem State.sameDirectory_takeRelease (s : State) (reference : Reference) (c : Connection) (role : Role) (h : Handle) :
    s.SameDirectory (s.takeRelease reference c role h) := by
  have removed (a b : Option DownBody) :=
    (s.sameDirectory_removeConnection reference.index c a b).trans (State.sameDirectory_servicePass _)
  have refused (reason : Reason) := s.sameDirectory_refuseNamed h reference reason
  simp only [State.takeRelease]
  split
  · exact removed ..
  · exact refused _
  · exact removed ..
  · exact s.sameDirectory_turnDown ..
  · split
    · exact refused _
    · exact removed ..
  · split
    · exact refused _
    · exact removed ..

theorem State.sameDirectory_takeQuery (s : State) (h : Handle) (r : Station) : s.SameDirectory (s.takeQuery h r) :=
  (s.sameDirectory_foldl _ (fun t body => t.sameDirectory_tell h body) _).trans (State.sameDirectory_tell ..)

theorem State.sameDirectory_takeCancel (s : State) (tag : Tag) (h : Handle) (r : Station) :
    s.SameDirectory (s.takeCancel tag h r) := by
  unfold State.takeCancel
  split
  · exact s.sameDirectory_tell ..
  split
  · exact s.sameDirectory_tell ..
  split
  · exact (s.sameDirectory_removeEntry _).trans (State.sameDirectory_tell ..)
  · exact s.sameDirectory_tell ..

/-! ### The signalling channel and the frame (R137 to R151) -/

theorem State.sameDirectory_considerGrant (s : State) : s.SameDirectory s.considerGrant := by
  unfold State.considerGrant
  split <;> exact .of_unchanged

theorem State.sameDirectory_closeWindow (s : State) : s.SameDirectory s.closeWindow := .of_unchanged

theorem State.sameDirectory_closeWindow_makeNak (s : State) (d : Drop) (reason : Reason) (kind : BitVec 6) :
    s.SameDirectory (s.closeWindow.makeNak d reason kind) :=
  (s.sameDirectory_closeWindow.trans (State.sameDirectory_offer ..)).trans (State.sameDirectory_raise ..)

theorem State.sameDirectory_judgeHeader (s : State) (d : Drop) (word : Word) : s.SameDirectory (s.judgeHeader d word) := by
  simp only [State.judgeHeader]
  split
  · exact s.sameDirectory_closeWindow
  split
  · exact .of_unchanged
  · exact s.sameDirectory_closeWindow_makeNak ..

theorem State.sameDirectory_takeWord (s : State) (d : Drop) (expected : Nat) (words : List Word) (word : Word) :
    s.SameDirectory (s.takeWord d expected words word) := by
  simp only [State.takeWord, State.judgeMessage]
  split
  · split
    · split
      · exact .of_unchanged
      · exact s.sameDirectory_closeWindow_makeNak ..
    · exact s.sameDirectory_closeWindow_makeNak ..
  · exact .of_unchanged

theorem State.sameDirectory_depart (s : State) : s.SameDirectory s.depart :=
  s.sameTables_depart.sameDirectory (by
    unfold State.depart State.issueSync
    split
    · split <;> rfl
    · rfl)

theorem State.sameDirectory_chooseWord (s : State) : s.SameDirectory s.chooseWord := by
  unfold State.chooseWord
  split <;> exact .of_unchanged

theorem State.sameDirectory_startFrame (s : State) : s.SameDirectory s.startFrame := by
  unfold State.startFrame
  refine State.SameDirectory.trans ?_ (State.sameDirectory_chooseWord _)
  exact .of_unchanged

/-! ### The Host Port and the highway (R157 to R174) -/

theorem State.sameDirectory_takeAddress (s : State) (byte : Byte) : s.SameDirectory (s.takeAddress byte) := by
  obtain ⟨-, same⟩ | ⟨-, _, -, same⟩ | ⟨-, same⟩ := s.takeAddress_cases byte <;> rw [same] <;> exact .of_unchanged

theorem State.sameDirectory_writeLocation (s : State) (a : BitVec 6) (value : Byte) :
    s.SameDirectory (s.writeLocation a value) := by
  unfold State.writeLocation
  split
  · unfold State.writeCommand
    split
    · split <;> exact .of_unchanged
    · exact .of_unchanged
  · repeat' split
    all_goals exact .of_unchanged

theorem State.sameDirectory_dataByte (s : State) (value : Byte) : s.SameDirectory (s.dataByte value) := by
  obtain ⟨a, -, same⟩ | ⟨a, -, same⟩ | ⟨a, -, same⟩ | ⟨-, -, same⟩ := s.dataByte_cases value <;> rw [same]
  · exact State.SameDirectory.trans .of_unchanged (State.sameDirectory_writeLocation ..)
  · exact .of_unchanged
  · exact .of_unchanged
  · exact State.SameDirectory.refl s

theorem State.sameDirectory_firstByte (s : State) (address value : Byte) : s.SameDirectory (s.firstByte address value) := by
  have selected : s.SameDirectory s.select := .of_unchanged
  exact (selected.trans (State.sameDirectory_takeAddress ..)).trans (State.sameDirectory_dataByte ..)

theorem State.sameDirectory_broadcast (s : State) (body : DownBody) : s.SameDirectory (s.broadcast body) :=
  .of_unchanged (by simp) (by simp) (by simp)

theorem State.sameDirectory_openWork (s : State) : s.SameDirectory s.openWork.part := by
  have opened : s.SameDirectory (State.broadcast (.highwayState .opened) { s with highway := .opened }) :=
    State.SameDirectory.trans .of_unchanged (State.sameDirectory_broadcast ..)
  unfold State.openWork
  split
  · exact State.SameDirectory.refl s
  · exact opened
  · exact opened

theorem State.sameDirectory_drainConnections (s : State) : s.SameDirectory s.drainConnections := by
  unfold State.drainConnections
  split
  · rw [State.reportIfEmpty, State.raiseIf_eq]
    exact .of_unchanged
  · refine s.sameDirectory_foldl _ (fun t i => ?_) _
    unfold State.drainConnection
    split
    · exact State.SameDirectory.refl t
    split
    · exact State.SameDirectory.refl t
    · exact t.sameDirectory_removeConnection ..

theorem State.sameDirectory_drainEntries (s : State) : s.SameDirectory s.drainEntries :=
  s.sameDirectory_foldl _ (fun t e => (t.sameDirectory_removeEntry e).trans (State.sameDirectory_refuseEntry ..)) _

theorem State.sameDirectory_drainWork (s : State) (waitQueueFirst : Bool) :
    s.SameDirectory (s.drainWork waitQueueFirst).part := by
  unfold State.drainWork
  split
  · exact State.SameDirectory.refl s
  · exact State.SameDirectory.refl s
  · have told : s.SameDirectory (State.broadcast (.highwayState .draining) { s with highway := .draining }) :=
      State.SameDirectory.trans .of_unchanged (State.sameDirectory_broadcast ..)
    cases waitQueueFirst
    · exact (told.trans (State.sameDirectory_drainConnections _)).trans (State.sameDirectory_drainEntries _)
    · exact (told.trans (State.sameDirectory_drainEntries _)).trans (State.sameDirectory_drainConnections _)

/-! ### Commands that administer (R39 to R41, R88, R128, R129) -/

theorem State.sameDirectory_setQuotaWork (s : State) : s.SameDirectory s.setQuotaWork.part := by
  simp only [State.setQuotaWork]
  split
  · exact State.SameDirectory.refl s
  split
  · exact State.SameDirectory.refl s
  · rename_i h r found
    have changed : s.SameDirectory (s.setStation h (some { r with quota := s.argNat 4 })) :=
      State.sameDirectory_setStation (s.station_of_lookup _ h r found).1 rfl
    exact (changed.trans .of_unchanged).trans (State.sameDirectory_servicePass _)

theorem State.sameDirectory_pinWork (s : State) : s.SameDirectory s.pinWork.part := by
  have parties (originator answerer : Handle × Station) (cls : ClassNo) (slots : List Nat) :
      s.SameDirectory (s.pinParties originator answerer cls slots).part := by
    unfold State.pinParties
    split
    · exact State.SameDirectory.refl s
    split
    · exact State.SameDirectory.refl s
    split
    · exact State.SameDirectory.refl s
    split
    · exact State.SameDirectory.trans .of_unchanged (State.sameDirectory_sendGrants ..)
    · exact State.SameDirectory.refl s
  unfold State.pinWork
  split
  · split
    · exact State.SameDirectory.refl s
    split
    · exact State.SameDirectory.refl s
    split
    · exact parties ..
    · exact State.SameDirectory.refl s
  · exact State.SameDirectory.refl s

theorem State.sameDirectory_unpinWork (s : State) : s.SameDirectory s.unpinWork.part := by
  unfold State.unpinWork
  split
  · exact State.SameDirectory.refl s
  split
  · exact s.sameDirectory_grantLease ..
  · exact State.SameDirectory.refl s

theorem State.sameDirectory_forceReleaseWork (s : State) : s.SameDirectory s.forceReleaseWork.part := by
  unfold State.forceReleaseWork
  split
  · exact State.SameDirectory.refl s
  · exact (s.sameDirectory_removeConnection ..).trans (State.sameDirectory_servicePass _)

theorem State.sameDirectory_setPolicyWork (s : State) : s.SameDirectory s.setPolicyWork.part := by
  unfold State.setPolicyWork
  split
  · split
    · exact State.SameDirectory.trans .of_unchanged (State.sameDirectory_servicePass _)
    · exact State.SameDirectory.refl s
  · exact State.SameDirectory.refl s

theorem State.sameDirectory_setTimingWork (s : State) : s.SameDirectory s.setTimingWork.part := by
  unfold State.setTimingWork
  split
  · exact State.SameDirectory.refl s
  · exact .of_unchanged

end Sys2Proof.Machine
end

section
/-! The laws of the Directory under departures, evictions, admission by ATTACH and rejections (R70, R76 to R85, R105, R115). -/

namespace Sys2Proof.Machine

set_option Elab.async false -- one proof at a time: waiting proofs would hold a thread each

/-! ### Reading the laws -/

theorem Station.topRelay_iff (r : Station) : r.topRelay = true ↔ r.kind = .relay ∧ r.via = none := by
  simp [Station.topRelay]

theorem State.mem_behind_iff (s : State) (d : Drop) (h : Handle) :
    h ∈ s.behind d ↔ ∃ r, s.station h = some r ∧ r.drop = d ∧ r.via ≠ none := by
  simp [State.behind, allHandles, Option.any_eq_true, Option.isSome_iff_ne_none]

theorem State.nodup_behind (s : State) (d : Drop) : (s.behind d).Nodup := (List.nodup_finRange 48).filter _

theorem State.nodup_downstream (s : State) (h : Handle) : (s.downstream h).Nodup := (List.nodup_finRange 48).filter _

theorem State.listed_iff (s : State) (n : StationNumber) : s.listed n = true ↔ ∃ e ∈ s.denyList, e.number = n := by
  simp [State.listed]

/-- No two records hold one number (R70). -/
def State.DistinctNumbers (s : State) : Prop :=
  ∀ h k r q, s.station h = some r → s.station k = some q → r.number = q.number → h = k

/-- Where numbers are distinct, a lookup finds exactly the record that holds the number. -/
theorem State.DistinctNumbers.lookup_eq_some_iff {s : State} (distinct : s.DistinctNumbers) (n : StationNumber) (h : Handle)
    (r : Station) : s.lookup n = some (h, r) ↔ s.station h = some r ∧ r.number = n := by
  refine ⟨s.station_of_lookup n h r, fun ⟨here, number⟩ => ?_⟩
  cases found : s.lookup n with
  | none => exact absurd number ((s.lookup_eq_none_iff n).mp found h r here)
  | some p =>
    obtain ⟨k, q⟩ := p
    obtain ⟨there, named⟩ := s.station_of_lookup n k q found
    obtain rfl := distinct h k r q here there (number.trans named.symm)
    rw [Option.some.inj (here.symm.trans there)]

/-- No record is behind a record that is no top relay (R70). -/
theorem State.DirectoryLaw.downstream_eq_nil {s : State} (law : s.DirectoryLaw) {h : Handle} {r : Station}
    (here : s.station h = some r) (low : r.topRelay = false) : s.downstream h = [] := by
  refine List.eq_nil_iff_forall_not_mem.mpr fun k below => ?_
  obtain ⟨x, there, via⟩ := (s.mem_downstream_iff h k).mp below
  obtain ⟨q, relay, top, -, -⟩ := law.viaRelay k x h there via
  cases here ▸ relay
  cases low ▸ top

/-- No record is behind a downstream record (R70). -/
theorem State.DirectoryLaw.downstream_of_mem_downstream {s : State} (law : s.DirectoryLaw) {h k : Handle}
    (below : k ∈ s.downstream h) : s.downstream k = [] := by
  obtain ⟨x, there, via⟩ := (s.mem_downstream_iff h k).mp below
  exact law.downstream_eq_nil there (by simp [Station.topRelay, via])

/-! ### Parts of a directory -/

/-- The laws pass to a part whose records are records of the first, their relays among them, and listed no more than there. -/
theorem State.DirectoryLaw.of_part {s t : State} (law : s.DirectoryLaw)
    (records : ∀ h x, t.station h = some x → ∃ r, s.station h = some r ∧ x.directoryFields = r.directoryFields)
    (relays : ∀ h x v, t.station h = some x → x.via = some v → t.station v ≠ none)
    (notListed : ∀ h x, t.station h = some x → t.listed x.number = false)
    (declared : ∀ h a, t.assembly h = some a → a.declaredCount ≤ 15) : t.DirectoryLaw where
  oneRecord h k x y there also same := by
    obtain ⟨r, here, alike⟩ := records h x there
    obtain ⟨q, too, likewise⟩ := records k y also
    refine law.oneRecord h k r q here too ?_
    rw [← (Station.alike_of_directoryFields alike).1, ← (Station.alike_of_directoryFields likewise).1, same]
  notListed := notListed
  viaRelay h x v there via := by
    obtain ⟨r, here, alike⟩ := records h x there
    obtain ⟨-, -, onDrop, sameVia, -⟩ := Station.alike_of_directoryFields alike
    obtain ⟨y, also⟩ := Option.ne_none_iff_exists'.mp (relays h x v there via)
    obtain ⟨p, too, likewise⟩ := records v y also
    obtain ⟨-, kind, drop, noVia, state⟩ := Station.alike_of_directoryFields likewise
    obtain ⟨q, relay, top, admitted, sameDrop⟩ := law.viaRelay h r v here (sameVia ▸ via)
    cases too ▸ relay
    refine ⟨y, also, ?_, state.trans admitted, drop.trans (sameDrop.trans onDrop.symm)⟩
    rw [Station.topRelay_iff] at top ⊢
    rwa [kind, noVia]
  oneTopStation h k x y there also top likewiseTop same := by
    obtain ⟨r, here, alike⟩ := records h x there
    obtain ⟨q, too, likewise⟩ := records k y also
    obtain ⟨-, -, drop, via, -⟩ := Station.alike_of_directoryFields alike
    obtain ⟨-, -, drop', via', -⟩ := Station.alike_of_directoryFields likewise
    exact law.oneTopStation h k r q here too (via ▸ top) (via' ▸ likewiseTop) (drop ▸ drop' ▸ same)
  atMost15 d := by
    refine (List.subperm_of_subset (t.nodup_behind d) fun h there => ?_).length_le.trans (law.atMost15 d)
    obtain ⟨x, there, onDrop, behind⟩ := (t.mem_behind_iff d h).mp there
    obtain ⟨r, here, alike⟩ := records h x there
    obtain ⟨-, -, drop, via, -⟩ := Station.alike_of_directoryFields alike
    exact (s.mem_behind_iff d h).mpr ⟨r, here, drop ▸ onDrop, via ▸ behind⟩
  declared := declared

/-- A record of the second part stands in the first, alike in what the laws read. -/
theorem State.SameDirectory.station_of_some {s t : State} (same : s.SameDirectory t) {h : Handle} {x : Station}
    (there : t.station h = some x) : ∃ r, s.station h = some r ∧ x.directoryFields = r.directoryFields := by
  have alike := same.records h
  rw [there, Option.map_some, eq_comm, Option.map_eq_some_iff] at alike
  obtain ⟨r, here, fields⟩ := alike
  exact ⟨r, here, fields.symm⟩

theorem State.SameDirectory.symm {s t : State} (same : s.SameDirectory t) : t.SameDirectory s :=
  ⟨fun h => (same.records h).symm, fun h => (same.declared h).symm, fun n => (same.listed n).symm⟩

/-- The laws read the directory alone. -/
theorem State.DirectoryLaw.of_same {s t : State} (law : s.DirectoryLaw) (same : s.SameDirectory t) : t.DirectoryLaw := by
  refine law.of_part (fun _ _ => same.station_of_some) (fun h x v there via none => ?_) (fun h x there => ?_)
    fun h a there => ?_
  · obtain ⟨r, here, alike⟩ := same.station_of_some there
    obtain ⟨-, -, -, sameVia, -⟩ := Station.alike_of_directoryFields alike
    obtain ⟨q, relay, -⟩ := law.viaRelay h r v here (sameVia ▸ via)
    obtain ⟨y, also, -⟩ := same.symm.station_of_some relay
    cases none ▸ also
  · obtain ⟨r, here, alike⟩ := same.station_of_some there
    rw [same.listed, (Station.alike_of_directoryFields alike).1]
    exact law.notListed h r here
  · have alike := same.declared h
    rw [there, Option.map_some, eq_comm, Option.map_eq_some_iff] at alike
    obtain ⟨b, here, count⟩ := alike
    exact count ▸ law.declared h b here

theorem State.SameDirectory.mem_downstream_iff {s t : State} (same : s.SameDirectory t) (h k : Handle) :
    k ∈ t.downstream h ↔ k ∈ s.downstream h := by
  rw [State.mem_downstream_iff, State.mem_downstream_iff]
  constructor
  · rintro ⟨x, there, via⟩
    obtain ⟨r, here, alike⟩ := same.station_of_some there
    obtain ⟨-, -, -, sameVia, -⟩ := Station.alike_of_directoryFields alike
    exact ⟨r, here, sameVia ▸ via⟩
  · rintro ⟨r, here, via⟩
    obtain ⟨x, there, alike⟩ := same.symm.station_of_some here
    obtain ⟨-, -, -, sameVia, -⟩ := Station.alike_of_directoryFields alike
    exact ⟨x, there, sameVia ▸ via⟩

/-- The assembly kept for a relay changes, its declared count in range (R93). -/
theorem State.DirectoryLaw.setAssembly {s : State} (law : s.DirectoryLaw) (h : Handle) {o : Option Assembly}
    (bound : ∀ a, o = some a → a.declaredCount ≤ 15) : (s.setAssembly h o).DirectoryLaw :=
  { law with
    declared := fun k a there => by
      rw [State.assembly_setAssembly] at there
      split at there
      · exact bound a there
      · exact law.declared k a there }

theorem State.DirectoryLaw.dropAssembly {s : State} (law : s.DirectoryLaw) (h : Handle) :
    (s.setAssembly h none).DirectoryLaw := law.setAssembly h nofun

/-! ### Departures (R80 to R85) -/

/-- A list of handles holds every record behind one of its own. -/
def State.Closed (s : State) (list : List Handle) : Prop := ∀ h ∈ list, ∀ k ∈ s.downstream h, k ∈ list

/-- A closed list of records is deleted after the walks of a departure from a directory whose Deny List has changed: the laws
hold again where no record that stays is listed (R83). -/
theorem State.DirectoryLaw.delete_listing {s : State} (law : s.DirectoryLaw) {list : List DenyEntry}
    {set deleted : List Handle} (reason : Reason) (closed : s.Closed deleted)
    (notListed : ∀ h r, s.station h = some r → h ∉ deleted → State.listed { s with denyList := list } r.number = false) :
    ((State.cutOff { s with denyList := list } set reason).deleteStations deleted).DirectoryLaw := by
  let off := State.cutOff { s with denyList := list } set reason
  have walked : State.SameDirectory { s with denyList := list } off := (State.steady_cutOff ..).sameDirectory
  have stays {h : Handle} {x : Station} (there : (off.deleteStations deleted).station h = some x) :
      h ∉ deleted ∧ ∃ r, s.station h = some r ∧ x.directoryFields = r.directoryFields := by
    rw [State.station_deleteStations] at there
    split at there
    · cases there
    · rename_i stays
      exact ⟨stays, walked.station_of_some there⟩
  refine law.of_part (fun h x there => (stays there).2) (fun h x v there via none => ?_) (fun h x there => ?_)
    fun h a there => ?_
  · obtain ⟨kept, r, here, alike⟩ := stays there
    obtain ⟨-, -, -, sameVia, -⟩ := Station.alike_of_directoryFields alike
    have under : s.station h = some r ∧ r.via = some v := ⟨here, sameVia ▸ via⟩
    obtain ⟨q, relay, -⟩ := law.viaRelay h r v under.1 under.2
    have relayStays : v ∉ deleted := fun gone => kept (closed v gone h ((s.mem_downstream_iff v h).mpr ⟨r, under⟩))
    obtain ⟨y, also, -⟩ := walked.symm.station_of_some (h := v) relay
    rw [State.station_deleteStations, if_neg relayStays] at none
    cases none ▸ also
  · obtain ⟨kept, r, here, alike⟩ := stays there
    have unlisted := notListed h r here kept
    rw [← (Station.alike_of_directoryFields alike).1, ← walked.listed] at unlisted
    rw [State.listed, (State.untouched_deleteStations _ _).1]
    exact unlisted
  · rw [State.assembly_deleteStations] at there
    split at there
    · cases there
    · have alike := walked.declared h
      rw [there, Option.map_some, eq_comm, Option.map_eq_some_iff] at alike
      obtain ⟨b, here, count⟩ := alike
      exact count ▸ law.declared h b here

/-- A closed list of records goes by the cascade from a directory whose Deny List has changed: the laws hold again where no
record that stays is listed, and what the cause does keeps them (R83). -/
theorem State.DirectoryLaw.cascade_listing {s : State} (law : s.DirectoryLaw) {list : List DenyEntry}
    {set deleted : List Handle} (reason : Reason) {after : State → State} (closed : s.Closed deleted)
    (notListed : ∀ h r, s.station h = some r → h ∉ deleted → State.listed { s with denyList := list } r.number = false)
    (cause : ∀ u, u = (State.cutOff { s with denyList := list } set reason).deleteStations deleted → u.DirectoryLaw →
      (after u).DirectoryLaw) : (({ s with denyList := list } : State).cascade set deleted reason after).DirectoryLaw := by
  rw [State.cascade_eq]
  exact (cause _ rfl (law.delete_listing reason closed notListed)).of_same (State.sameDirectory_servicePasses _ _)

/-- A closed list of records goes by the cascade (R83). -/
theorem State.DirectoryLaw.cascade {s : State} (law : s.DirectoryLaw) {set deleted : List Handle} (reason : Reason)
    {after : State → State} (closed : s.Closed deleted)
    (cause : ∀ u, u = (s.cutOff set reason).deleteStations deleted → u.DirectoryLaw → (after u).DirectoryLaw) :
    (s.cascade set deleted reason after).DirectoryLaw :=
  law.cascade_listing (list := s.denyList) reason closed (fun h r here _ => law.notListed h r here) cause

/-- What a station takes with it is closed (R82). -/
theorem State.DirectoryLaw.closed_removalSet {s : State} (law : s.DirectoryLaw) {h : Handle} {r : Station}
    (here : s.station h = some r) : s.Closed (s.removalSet h r) := by
  intro k leaves m below
  unfold State.removalSet at leaves ⊢
  split at leaves
  · rename_i top
    rw [if_pos top]
    obtain rfl | under := List.mem_cons.mp leaves
    · exact List.mem_cons_of_mem _ below
    · rw [law.downstream_of_mem_downstream under] at below
      cases below
  · rename_i low
    rw [List.mem_singleton.mp leaves, law.downstream_eq_nil here (Bool.not_eq_true _ ▸ low)] at below
    cases below

/-- The records of a drop are closed (R81). -/
theorem State.DirectoryLaw.closed_onDrop {s : State} (law : s.DirectoryLaw) (d : Drop) : s.Closed (s.onDrop d) := by
  intro h onDrop k below
  obtain ⟨r, here, drop⟩ := (s.mem_onDrop_iff d h).mp onDrop
  obtain ⟨x, there, via⟩ := (s.mem_downstream_iff h k).mp below
  obtain ⟨q, relay, -, -, sameDrop⟩ := law.viaRelay k x h there via
  cases here ▸ relay
  exact (s.mem_onDrop_iff d k).mpr ⟨x, there, sameDrop.symm.trans drop⟩

/-- Records behind one relay are closed (R70). -/
theorem State.DirectoryLaw.closed_of_downstream {s : State} (law : s.DirectoryLaw) {h : Handle} {list : List Handle}
    (under : ∀ k ∈ list, k ∈ s.downstream h) : s.Closed list := by
  intro k there m below
  rw [law.downstream_of_mem_downstream (under k there)] at below
  cases below

theorem State.DirectoryLaw.departWithSubtree {s : State} (law : s.DirectoryLaw) {h : Handle} {r : Station}
    (here : s.station h = some r) : (s.departWithSubtree h r).DirectoryLaw :=
  law.cascade _ (law.closed_removalSet here) fun _ _ kept => kept

theorem State.DirectoryLaw.losePresence {s : State} (law : s.DirectoryLaw) (d : Drop) : (s.losePresence d).DirectoryLaw :=
  law.cascade _ (law.closed_onDrop d) fun _ _ kept => kept

theorem State.DirectoryLaw.takeDetach {s : State} (law : s.DirectoryLaw) {h : Handle} {r : Station}
    (here : s.station h = some r) : (s.takeDetach h r).DirectoryLaw := by
  unfold State.takeDetach
  split
  · exact law.departWithSubtree here
  · exact law.of_same (s.sameDirectory_tell ..)

theorem State.sameDirectory_shortenRoster (s : State) (h : Handle) (r : Station) : s.SameDirectory (s.shortenRoster h r) := by
  unfold State.shortenRoster
  split
  · exact State.SameDirectory.refl s
  rename_i relay _
  have shortened := s.sameDirectory_modifyStation relay (f := fun x => { x with roster := x.roster.map (·.filter (· != h)) })
    fun _ => rfl
  exact shortened.trans .of_unchanged

theorem State.sameDirectory_evicted (s : State) (h : Handle) (r : Station) (reason : Reason) :
    s.SameDirectory ((s.shortenRoster h r).offer ⟨r.number, .evicted reason⟩) :=
  (s.sameDirectory_shortenRoster h r).trans (State.sameDirectory_offer ..)

theorem State.DirectoryLaw.evictStation {s : State} (law : s.DirectoryLaw) {h : Handle} {r : Station}
    (here : s.station h = some r) (reason : Reason) : (s.evictStation h r reason).DirectoryLaw :=
  law.cascade _ (law.closed_removalSet here) fun u _ kept => kept.of_same (u.sameDirectory_evicted h r reason)

theorem State.DirectoryLaw.evictWork {s : State} (law : s.DirectoryLaw) : s.evictWork.part.DirectoryLaw := by
  unfold State.evictWork
  split
  · exact law
  · rename_i h r found
    exact law.evictStation (s.station_of_lookup _ h r found).1 _

/-- A number is listed, and the station that holds it evicted with it (R115, R116). -/
theorem State.DirectoryLaw.denyAddWork {s : State} (law : s.DirectoryLaw) : s.denyAddWork.part.DirectoryLaw := by
  let n := s.argNumber
  let list := insertDeny ⟨n, s.arg 4, 0⟩ s.denyList
  have onlyThis {m : StationNumber} (other : m ≠ n) (unlisted : s.listed m = false) :
      State.listed { s with denyList := list } m = false := by
    rw [Bool.eq_false_iff, ne_eq, State.listed_iff] at unlisted ⊢
    rintro ⟨e, there, rfl⟩
    obtain rfl | old := (mem_insertDeny_iff ..).mp there
    · exact other rfl
    · exact unlisted ⟨e, old, rfl⟩
  simp only [State.denyAddWork]
  split
  · exact law
  split
  · exact law
  split
  · exact law
  change (State.evictNumber n .denied { s with denyList := list }).DirectoryLaw
  unfold State.evictNumber
  split
  · rename_i h r found
    obtain ⟨here, number⟩ := State.station_of_lookup _ n h r found
    refine law.cascade_listing _ (law.closed_removalSet (s := s) here) (fun k x there stays => ?_) fun u _ kept =>
      kept.of_same (u.sameDirectory_evicted h r .denied)
    refine onlyThis (fun same => stays ?_) (law.notListed k x there)
    rw [law.oneRecord k h x r there here (same.trans number.symm), State.removalSet]
    split <;> exact List.mem_cons_self ..
  · rename_i unknown
    have others := (State.lookup_eq_none_iff _ n).mp unknown
    exact law.of_part (fun h x there => ⟨x, there, rfl⟩) (fun h x v there via none => by
        obtain ⟨q, relay, -⟩ := law.viaRelay h x v there via
        cases none.symm.trans relay)
      (fun h x there => onlyThis (others h x there) (law.notListed h x there)) law.declared

/-- A number listed no more bars no one anew (R117). -/
theorem State.DirectoryLaw.denyRemoveWork {s : State} (law : s.DirectoryLaw) : s.denyRemoveWork.part.DirectoryLaw := by
  simp only [State.denyRemoveWork]
  split
  · exact law
  rename_i e _
  refine { law with notListed := fun h r here => ?_ }
  have unlisted := law.notListed h r here
  rw [Bool.eq_false_iff, ne_eq, State.listed_iff] at unlisted ⊢
  rintro ⟨x, there, number⟩
  exact unlisted ⟨x, List.mem_of_mem_erase there, number⟩

theorem State.DirectoryLaw.expireRelay {s : State} (law : s.DirectoryLaw) (h : Handle) : (s.expireRelay h).DirectoryLaw := by
  unfold State.expireRelay
  split
  · exact law
  · rename_i r here
    exact law.evictStation here _

/-- The taking of an expiry keeps the laws of the Directory. -/
theorem State.DirectoryLaw.takeDue {s : State} (law : s.DirectoryLaw) : s.takeDue.DirectoryLaw := by
  unfold State.takeDue
  split
  · exact law
  · exact law.of_same ((s.sameDirectory_expireConnection _).trans (State.sameDirectory_walkConnections ..))
  · exact law.of_same ((s.sameDirectory_timeOutEntry _).trans (State.sameDirectory_walkEntries ..))
  · exact (law.expireRelay _).of_same (State.sameDirectory_walkRelays ..)

theorem State.DirectoryLaw.settled {s : State} (law : s.DirectoryLaw) : s.settled.DirectoryLaw :=
  s.settled_keeps State.DirectoryLaw (fun _ => State.DirectoryLaw.takeDue) law

/-! ### Admission by ATTACH (R76 to R79) -/

/-- A tier-0 station comes to a drop without one, its number in no record and not listed (R76). -/
theorem State.DirectoryLaw.addStation {s : State} (law : s.DirectoryLaw) {h : Handle} {x : Station}
    (free : s.station h = none) (top : x.via = none) (unknown : s.lookup x.number = none)
    (unlisted : s.listed x.number = false) (vacant : s.dropHolder x.drop = none) : (s.addStation h x).DirectoryLaw := by
  rw [State.lookup_eq_none_iff] at unknown
  rw [State.dropHolder_eq_none_iff] at vacant
  have reads {k : Handle} {y : Station} (there : (s.addStation h x).station k = some y) :
      (k = h ∧ y = x) ∨ s.station k = some y := by
    change (s.setStation h (some x)).station k = some y at there
    rw [State.station_setStation] at there
    split at there
    · rename_i same
      exact .inl ⟨same.symm, (Option.some.inj there).symm⟩
    · exact .inr there
  have stays {k : Handle} {y : Station} (there : s.station k = some y) : (s.addStation h x).station k = some y := by
    refine (s.station_setStation h k (some x)).trans ?_
    rw [if_neg, there]
    rintro rfl
    cases free ▸ there
  refine ⟨fun k m y z there also same => ?_, fun k y there => ?_, fun k y v there via => ?_,
    fun k m y z there also noVia noVia' same => ?_, fun d => ?_, law.declared⟩
  · obtain ⟨rfl, rfl⟩ | here := reads there <;> obtain ⟨rfl, rfl⟩ | too := reads also
    · rfl
    · exact absurd same.symm (unknown m z too)
    · exact absurd same (unknown k y here)
    · exact law.oneRecord k m y z here too same
  · obtain ⟨rfl, rfl⟩ | here := reads there
    · exact unlisted
    · exact law.notListed k y here
  · obtain ⟨rfl, rfl⟩ | here := reads there
    · cases top ▸ via
    · obtain ⟨q, relay, rest⟩ := law.viaRelay k y v here via
      exact ⟨q, stays relay, rest⟩
  · obtain ⟨rfl, rfl⟩ | here := reads there <;> obtain ⟨rfl, rfl⟩ | too := reads also
    · rfl
    · exact absurd noVia' (vacant m z too same.symm)
    · exact absurd noVia (vacant k y here same)
    · exact law.oneTopStation k m y z here too noVia noVia' same
  · refine (List.subperm_of_subset (State.nodup_behind _ d) fun k there => ?_).length_le.trans (law.atMost15 d)
    obtain ⟨y, there, onDrop, behind⟩ := (State.mem_behind_iff _ d k).mp there
    obtain ⟨rfl, rfl⟩ | here := reads there
    · exact absurd top behind
    · exact (s.mem_behind_iff d k).mpr ⟨y, here, onDrop, behind⟩

/-- An ATTACH admits a number that is in no record and not listed, on a drop without a tier-0 record (R78). -/
theorem State.DirectoryLaw.admitByAttach {s : State} (law : s.DirectoryLaw) {drop : Drop} {n : StationNumber}
    (unknown : s.lookup n = none) (unlisted : s.listed n = false) (vacant : s.dropHolder drop = none)
    (kind : StationKind) (cls : ClassNo) : (s.admitByAttach drop n kind cls).DirectoryLaw := by
  unfold State.admitByAttach
  split
  · exact law
  · rename_i h free
    exact (law.addStation (x := s.attachedRecord drop n kind cls) ((s.freeHandle_eq_some_iff h).mp free).1 rfl unknown
      unlisted vacant).of_same (State.sameDirectory_offer ..)

/-- After the departure of a drop's tier-0 station its number is in no record, its drop has no tier-0 record, and a handle is
free (R79, R82). -/
theorem State.DirectoryLaw.vacant_departWithSubtree {s : State} (law : s.DirectoryLaw) {h : Handle} {r : Station}
    (here : s.station h = some r) (top : r.via = none) :
    (s.departWithSubtree h r).lookup r.number = none ∧ (s.departWithSubtree h r).dropHolder r.drop = none ∧
      (s.departWithSubtree h r).freeHandle ≠ none := by
  have left := (s.left_cascade (s.removalSet h r) .departed).1
  have leaves : h ∈ s.removalSet h r := by
    unfold State.removalSet
    split <;> exact List.mem_cons_self ..
  have stayed {k : Handle} {x : Station} (there : (s.departWithSubtree h r).station k = some x) :
      k ≠ h ∧ ∃ y, s.station k = some y ∧ x.settledFields = y.settledFields := by
    have stays : k ∉ s.removalSet h r := fun gone => nomatch (left.gone k gone).1.symm.trans there
    have alike := left.records k stays nofun
    rw [show (s.cascade _ _ _ _).station k = some x from there, Option.map_some, eq_comm, Option.map_eq_some_iff] at alike
    obtain ⟨y, old, fields⟩ := alike
    exact ⟨fun same => stays (same ▸ leaves), y, old, fields.symm⟩
  refine ⟨(State.lookup_eq_none_iff ..).mpr fun k x there number => ?_,
    (State.dropHolder_eq_none_iff ..).mpr fun k x there onDrop noVia => ?_,
    fun none => State.freeHandle_eq_none_iff _ |>.mp none h (left.gone h leaves).1⟩
  · obtain ⟨other, y, old, fields⟩ := stayed there
    exact other (law.oneRecord k h y r old here ((congrArg Station.number fields).symm.trans number))
  · obtain ⟨other, y, old, fields⟩ := stayed there
    exact other (law.oneTopStation k h y r old here ((congrArg Station.via fields).symm.trans noVia) top
      ((congrArg Station.drop fields).symm.trans onDrop))

/-- A restart is of the drop's tier-0 station (R76, R79). -/
theorem State.station_of_restartOf {s : State} {drop : Drop} {n : StationNumber} {h : Handle} {r : Station}
    (restart : s.restartOf drop n = some (h, r)) : s.station h = some r ∧ r.number = n ∧ r.drop = drop ∧ r.via = none := by
  unfold State.restartOf at restart
  split at restart
  · rename_i k x found
    obtain ⟨here, number⟩ := s.station_of_lookup n k x found
    split at restart
    · rename_i top
      simp only [Bool.and_eq_true, decide_eq_true_eq] at top
      obtain ⟨rfl, rfl⟩ : k = h ∧ x = r := by simpa using restart
      exact ⟨here, number, top⟩
    · cases restart
  · cases restart

/-- An ATTACH that is not refused is not listed, and where it is no restart, its number is in no record and its drop has no
tier-0 record (R76). -/
theorem State.checks_of_attachRefusal_eq_none {s : State} {drop : Drop} {n : StationNumber}
    (accepted : s.attachRefusal drop n = none) :
    s.listed n = false ∧ (s.restartOf drop n = none → s.lookup n = none ∧ s.dropHolder drop = none) := by
  unfold State.attachRefusal at accepted
  split at accepted
  · cases accepted
  · cases accepted
  split at accepted
  · cases accepted
  split at accepted
  · cases accepted
  rename_i unlisted
  refine ⟨by simpa using unlisted, fun fresh => ?_⟩
  split at accepted
  · rename_i restart
    simp [fresh] at restart
  split at accepted
  · cases accepted
  rename_i unknown
  split at accepted
  · cases accepted
  rename_i vacant
  exact ⟨by simpa using unknown, by simpa using vacant⟩

theorem State.sameDirectory_hit (s : State) (n : StationNumber) : s.SameDirectory (s.hit n) := by
  refine ⟨fun _ => rfl, fun _ => rfl, fun m => ?_⟩
  have number (e : DenyEntry) : (if e.number = n then { e with hits := min 255 (e.hits + 1) } else e).number = e.number := by
    split <;> rfl
  simp only [State.listed, State.hit, List.any_map, Function.comp_def, number]

theorem State.DirectoryLaw.takeAttach {s : State} (law : s.DirectoryLaw) (drop : Drop) (n : StationNumber)
    (kind : StationKind) (cls : ClassNo) : (s.takeAttach drop n kind cls).DirectoryLaw := by
  unfold State.takeAttach
  split
  · refine State.DirectoryLaw.of_same ?_ (State.sameDirectory_offer ..)
    split
    · exact law.of_same ((s.sameDirectory_hit n).trans (State.sameDirectory_raise ..))
    · exact law
  rename_i accepted
  obtain ⟨unlisted, checks⟩ := State.checks_of_attachRefusal_eq_none accepted
  split
  · rename_i h r restart
    obtain ⟨here, rfl, rfl, top⟩ := State.station_of_restartOf restart
    obtain ⟨unknown, vacant, -⟩ := law.vacant_departWithSubtree here top
    refine (law.departWithSubtree here).admitByAttach unknown ?_ vacant kind cls
    have untouched := (s.left_cascade (s.removalSet h r) .departed).1.untouched
    rw [State.listed, show (s.departWithSubtree h r).denyList = s.denyList from untouched.1]
    exact unlisted
  · rename_i fresh
    obtain ⟨unknown, vacant⟩ := checks fresh
    exact law.admitByAttach unknown unlisted vacant kind cls

/-! ### Rosters, but for their acceptance (R92 to R101, R105) -/

theorem State.sameDirectory_rejectRoster (s : State) (h : Handle) (generation : Byte) (reason : Reason) :
    s.SameDirectory (s.rejectRoster h generation reason) := (s.sameDirectory_tell ..).trans (State.sameDirectory_raise ..)

/-- A record changes and keeps its number, drop and VIA: the laws hold where no record is behind it (R70). -/
theorem State.DirectoryLaw.setStation_of_alone {s : State} (law : s.DirectoryLaw) {h : Handle} {r x : Station}
    (here : s.station h = some r) (number : x.number = r.number) (drop : x.drop = r.drop) (via : x.via = r.via)
    (alone : s.downstream h = []) : (s.setStation h (some x)).DirectoryLaw := by
  have reads {k : Handle} {y : Station} (there : (s.setStation h (some x)).station k = some y) :
      ∃ z, s.station k = some z ∧ y.number = z.number ∧ y.drop = z.drop ∧ y.via = z.via := by
    rw [State.station_setStation] at there
    split at there
    · rename_i same
      cases there
      exact ⟨r, same ▸ here, number, drop, via⟩
    · exact ⟨y, there, rfl, rfl, rfl⟩
  refine ⟨fun k m y z there also same => ?_, fun k y there => ?_, fun k y v there under => ?_,
    fun k m y z there also noVia noVia' same => ?_, fun d => ?_, law.declared⟩
  · obtain ⟨y', old, named, -, -⟩ := reads there
    obtain ⟨z', too, named', -, -⟩ := reads also
    exact law.oneRecord k m y' z' old too (named ▸ named' ▸ same)
  · obtain ⟨y', old, named, -, -⟩ := reads there
    rw [named]
    exact law.notListed k y' old
  · obtain ⟨y', old, -, onDrop, sameVia⟩ := reads there
    obtain ⟨q, relay, top, admitted, sameDrop⟩ := law.viaRelay k y' v old (sameVia ▸ under)
    have other : h ≠ v := by
      rintro rfl
      have below := (s.mem_downstream_iff h k).mpr ⟨y', old, sameVia ▸ under⟩
      rw [alone] at below
      cases below
    exact ⟨q, by rw [State.station_setStation, if_neg other, relay], top, admitted, sameDrop.trans onDrop.symm⟩
  · obtain ⟨y', old, -, onDrop, sameVia⟩ := reads there
    obtain ⟨z', too, -, onDrop', sameVia'⟩ := reads also
    exact law.oneTopStation k m y' z' old too (sameVia ▸ noVia) (sameVia' ▸ noVia') (onDrop ▸ onDrop' ▸ same)
  · refine (List.subperm_of_subset (State.nodup_behind _ d) fun k there => ?_).length_le.trans (law.atMost15 d)
    obtain ⟨y, there, onDrop, behind⟩ := (State.mem_behind_iff _ d k).mp there
    obtain ⟨y', old, -, sameDrop, sameVia⟩ := reads there
    exact (s.mem_behind_iff d k).mpr ⟨y', old, sameDrop ▸ onDrop, sameVia ▸ behind⟩

theorem State.DirectoryLaw.modifyStation_of_alone {s : State} (law : s.DirectoryLaw) {h : Handle} {f : Station → Station}
    (number : ∀ x, (f x).number = x.number) (drop : ∀ x, (f x).drop = x.drop) (via : ∀ x, (f x).via = x.via)
    (alone : s.downstream h = []) : (s.modifyStation h f).DirectoryLaw := by
  unfold State.modifyStation
  cases here : s.station h with
  | none =>
    refine law.of_same ⟨fun k => ?_, fun _ => rfl, fun _ => rfl⟩
    rw [State.station_setStation]
    split
    · rename_i same
      rw [← same, here, Option.map_none]
    · rfl
  | some x => exact law.setStation_of_alone here (number x) (drop x) (via x) alone

/-- A relay behind which no record is left stands in ROSTER_FAULT (R105). -/
theorem State.DirectoryLaw.faultRelay {s : State} (law : s.DirectoryLaw) {h : Handle} (alone : s.downstream h = [])
    (r : Station) (generation : Byte) (reason : Reason) : (s.faultRelay h r generation reason).DirectoryLaw := by
  have changed : (s.modifyStation h fun x =>
      { x with state := .rosterFault, roster := some [], generation := none,
               deadline := some (s.countdownOf s.rosterPeriod) }).DirectoryLaw :=
    law.modifyStation_of_alone (fun _ => rfl) (fun _ => rfl) (fun _ => rfl) alone
  exact (changed.of_same .of_unchanged).of_same (State.sameDirectory_rejectRoster ..)

theorem State.DirectoryLaw.rejectContent {s : State} (law : s.DirectoryLaw) (h : Handle) (r : Station) (generation : Byte)
    (reason : Reason) : (s.rejectContent h r generation reason).DirectoryLaw := by
  have closed := law.dropAssembly h
  refine closed.cascade _ (closed.closed_of_downstream (h := h) fun _ => id) fun u emptied kept => kept.faultRelay ?_ ..
  refine List.eq_nil_iff_forall_not_mem.mpr fun k below => ?_
  obtain ⟨x, there, via⟩ := (State.mem_downstream_iff u h k).mp below
  rw [emptied, State.station_deleteStations] at there
  split at there
  · cases there
  · rename_i stays
    have walked := ((s.setAssembly h none).steady_cutOff (h :: s.downstream h) .rosterFault).sameDirectory
    exact stays ((walked.mem_downstream_iff h k).mp ((State.mem_downstream_iff _ h k).mpr ⟨x, there, via⟩))

theorem State.DirectoryLaw.fromTopRelay {s : State} (law : s.DirectoryLaw) {f : Handle → Station → State → State}
    {h : Handle} {r : Station} (work : r.topRelay = true → (f h r s).DirectoryLaw) : (s.fromTopRelay f h r).DirectoryLaw := by
  unfold State.fromTopRelay
  split
  · rename_i top
    exact work top
  · exact law.of_same (s.sameDirectory_tell ..)

theorem State.DirectoryLaw.beginRoster {s : State} (law : s.DirectoryLaw) (generation : Byte) {count : Nat}
    (bound : count ≤ 15) (depth : Nat) (depthExceeded countExceeded : Bool) (h : Handle) (r : Station) :
    (s.beginRoster generation count depth depthExceeded countExceeded h r).DirectoryLaw := by
  unfold State.beginRoster
  split
  · exact law.rejectContent ..
  split
  · exact law.rejectContent ..
  · exact law.setAssembly h fun a new => (Option.some.inj new) ▸ bound

theorem State.DirectoryLaw.partRoster {s : State} (law : s.DirectoryLaw) (partIndex : Nat) (entries : List RosterEntry)
    (h : Handle) (r : Station) : (s.partRoster partIndex entries h r).DirectoryLaw := by
  unfold State.partRoster
  split
  · exact law.of_same (s.sameDirectory_tell ..)
  rename_i a assembled
  split
  · exact (law.dropAssembly h).of_same (State.sameDirectory_rejectRoster ..)
  split
  · exact law.rejectContent ..
  · exact law.setAssembly h fun b new => (Option.some.inj new) ▸ law.declared h a assembled

theorem State.sameDirectory_hitEntries (s : State) (entries : List RosterEntry) : s.SameDirectory (s.hitEntries entries) :=
  (s.sameDirectory_foldl (fun s (e : RosterEntry) => s.hit e.number) (fun t e => t.sameDirectory_hit e.number) _).trans
    (State.sameDirectory_raise ..)

end Sys2Proof.Machine
end

section
/-! What a departure leaves of connections, queue and messages, whatever its cause adds before the service passes (R83). -/

namespace Sys2Proof.Machine

set_option Elab.async false -- one proof at a time: waiting proofs would hold a thread each

/-- What a cause adds to its cascade is aside of the connections and the queue, and takes no message or flag away. -/
structure State.Aside (s t : State) : Prop where
  map : s.SameMap t
  serials : t.serials = s.serials
  queue : t.waitQueue = s.waitQueue
  messages : s.downlink.held <+: t.downlink.held
  flags : ∀ f, s.pendingFlag f = true → t.pendingFlag f = true

theorem State.Aside.trans {s t u : State} (first : s.Aside t) (second : t.Aside u) : s.Aside u where
  map := first.map.trans second.map
  serials := second.serials.trans first.serials
  queue := second.queue.trans first.queue
  messages := first.messages.trans second.messages
  flags f pending := second.flags f (first.flags f pending)

/-- An update of other fields is aside of them. -/
theorem State.Aside.of_unchanged {s t : State} (slots : t.slots = s.slots := by rfl)
    (connections : t.connections = s.connections := by rfl) (serials : t.serials = s.serials := by rfl)
    (queue : t.waitQueue = s.waitQueue := by rfl) (downlink : t.downlink = s.downlink := by rfl)
    (flags : t.flags = s.flags := by rfl) : s.Aside t where
  map := ⟨slots, connections⟩
  serials := serials
  queue := queue
  messages := downlink ▸ List.prefix_refl _
  flags f pending := by rwa [State.pendingFlag, flags]

theorem State.Aside.refl (s : State) : s.Aside s := .of_unchanged

theorem State.aside_offer (s : State) (m : DownMessage) : s.Aside (s.offer m) where
  map := s.sameMap_offer m
  serials := s.offer_serials m
  queue := s.offer_waitQueue m
  messages := (s.steady_offer m).messages
  flags := (s.steady_offer m).flags

theorem State.aside_tell (s : State) (h : Handle) (body : DownBody) : s.Aside (s.tell h body) := by
  unfold State.tell
  split
  · exact s.aside_offer _
  · exact State.Aside.refl s

theorem State.aside_raise (s : State) (f : Flag) : s.Aside (s.raise f) where
  map := s.sameMap_raise f
  serials := s.raise_serials f
  queue := s.raise_waitQueue f
  messages := (s.steady_raise f).messages
  flags := (s.steady_raise f).flags

theorem State.Aside.beside {s t : State} (aside : s.Aside t) (leaves : Index → Prop) : s.Beside t leaves :=
  .of_sameMap aside.map aside.serials leaves

theorem State.Unnamed.of_aside {s t : State} {h : Handle} (unnamed : s.Unnamed h) (aside : s.Aside t) : t.Unnamed h where
  connections i c there := unnamed.connections i c ((aside.map.connection i).symm.trans there)
  entries e there := unnamed.entries e (aside.queue ▸ there)

/-- The records of a set are out of every table but the directory: no connection or queue entry names them, every other
connection stands, the messages held are still held, and LEFT is pending (R83). -/
structure State.Cleared (s t : State) (set : List Handle) : Prop where
  noParty : ∀ i c, t.connection i = some c → c.originator ∉ set ∧ c.answerer ∉ set
  connections : ∀ i c, s.connection i = some c → c.originator ∉ set → c.answerer ∉ set → t.connection i = some c
  references : ∀ i c, s.connection i = some c → c.originator ∉ set → c.answerer ∉ set → t.serial i = s.serial i
  slots : ∀ n r, s.slot n = some r → r ≠ .free →
    (∀ i c, r.owner = some i → s.connection i = some c → c.originator ∉ set ∧ c.answerer ∉ set) → t.slot n = some r
  noEntry : ∀ e ∈ t.waitQueue, e.source ∉ set ∧ e.peer ∉ set
  messages : s.downlink.held <+: t.downlink.held
  left : set ≠ [] → t.pendingFlag .left = true

/-- The part a cause of a departure meets: the walks are done and the records of the set are deleted (R83). -/
def State.departed (set : List Handle) (reason : Reason) (s : State) : State :=
  (s.cutOff set reason).deleteStations set

theorem State.cleared_cascade (s : State) (set : List Handle) (reason : Reason) {after : State → State}
    (aside : (s.departed set reason).Aside (after (s.departed set reason))) :
    s.Cleared (s.cascade set set reason after) set := by
  let u := s.departed set reason
  let t := (after u).servicePasses (s.touching set).length
  have walked : s.Steady (s.cutOff set reason) := s.steady_cutOff set reason
  have passed : (after u).Steady t := (after u).steady_servicePasses _
  have beside : s.Beside t (· ∈ s.touching set) :=
    (((s.beside_cutOff set reason).trans (State.beside_deleteStations _ set _)).trans (aside.beside _)).trans
      ((after u).beside_servicePasses _ _)
  have unnamed (h : Handle) (leaves : h ∈ set) : t.Unnamed h :=
    (((s.unnamed_cutOff reason leaves).deleteStations set).of_aside aside).servicePasses _
  have untouched (i : Index) (c : Connection) (here : s.connection i = some c) (first : c.originator ∉ set)
      (second : c.answerer ∉ set) : i ∉ s.touching set :=
    State.not_mem_touching_of fun d same => by
      cases here ▸ same
      exact ⟨first, second⟩
  refine ⟨fun i c there => ?_, fun i c here first second => ?_, fun i c here first second => ?_, fun n r slot used stays => ?_,
    fun e there => ?_, ?_, fun some => ?_⟩
  · exact ⟨fun leaves => ((unnamed _ leaves).connections i c there).1 rfl,
      fun leaves => ((unnamed _ leaves).connections i c there).2 rfl⟩
  · exact beside.connections i c (untouched i c here first second) here
  · exact beside.references i c (untouched i c here first second) here
  · exact beside.slots n r slot used fun i owner => State.not_mem_touching_of fun c here => stays i c owner here
  · exact ⟨fun leaves => ((unnamed _ leaves).entries e there).1 rfl, fun leaves => ((unnamed _ leaves).entries e there).2 rfl⟩
  · have kept : (s.cutOff set reason).downlink.held <+: u.downlink.held := by
      rw [show u.downlink = _ from State.downlink_deleteStations _ set]
    exact ((walked.messages.trans kept).trans aside.messages).trans passed.messages
  · exact passed.flags .left (aside.flags .left (by simp [State.departed, State.pendingFlag_deleteStations, some]))

/-- The records that stay are as they were but for SYNC OWED (R83). -/
theorem State.station_departed (s : State) (set : List Handle) (reason : Reason) (k : Handle) :
    ((s.departed set reason).station k).map Station.settledFields =
      if k ∈ set then none else (s.station k).map Station.settledFields := by
  rw [State.departed, State.station_deleteStations]
  split
  · rfl
  · exact (s.steady_cutOff set reason).records k

theorem State.assembly_departed (s : State) (set : List Handle) (reason : Reason) (k : Handle) :
    (s.departed set reason).assembly k = if k ∈ set then none else s.assembly k := by
  have kept : (s.cutOff set reason).assembly k = s.assembly k := by
    rw [State.assembly, (s.steady_cutOff set reason).assemblies]
    rfl
  rw [State.departed, State.assembly_deleteStations, kept]

theorem State.directoryChanges_departed (s : State) (set : List Handle) (reason : Reason) :
    (s.departed set reason).directoryChanges = s.directoryChanges + BitVec.ofNat 16 set.length := by
  rw [State.departed, State.directoryChanges_deleteStations, (s.steady_cutOff set reason).directoryChanges]

theorem State.untouched_departed (s : State) (set : List Handle) (reason : Reason) :
    (s.departed set reason).denyList = s.denyList ∧ (s.departed set reason).policy = s.policy ∧
      (s.departed set reason).answerPeriod = s.answerPeriod ∧ (s.departed set reason).rosterPeriod = s.rosterPeriod ∧
      (s.departed set reason).timer = s.timer ∧ (s.departed set reason).owed = s.owed ∧
      (s.departed set reason).arbiter = s.arbiter ∧ (s.departed set reason).highway = s.highway ∧
      (s.departed set reason).port = s.port ∧ (s.departed set reason).spi = s.spi ∧
      (s.departed set reason).hold = s.hold ∧ (s.departed set reason).due = s.due := by
  have walked := (s.steady_cutOff set reason).untouched
  simpa only [State.departed, walked] using State.untouched_deleteStations (s.cutOff set reason) set

end Sys2Proof.Machine
end

section
/-! Evictions (R82 to R85) and the host commands EVICT and SET_QUOTA (R86, R88). -/

namespace Sys2Proof.Machine

set_option Elab.async false -- one proof at a time: waiting proofs would hold a thread each

/-- A record whose roster has lost a handle (R84). -/
def Station.without (h : Handle) (x : Station) : Station :=
  { x with roster := x.roster.map fun l => l.filter fun k => k ≠ h }

/-- The staying relay's record and the count, as R84 changes them. -/
theorem State.shortenRoster_eq (s : State) (h : Handle) (r : Station) :
    s.shortenRoster h r =
      match r.via with
      | none => s
      | some v =>
        { s with
          stations := s.stations.set v ((s.station v).map (Station.without h))
          directoryChanges := s.directoryChanges + 1 } := by
  have same : (fun k : Handle => k != h) = fun k => decide (k ≠ h) := by
    funext k
    by_cases other : k = h <;> simp [other]
  unfold State.shortenRoster
  cases r.via with
  | none => rfl
  | some v =>
    simp only [same]
    rfl

theorem State.aside_shortenRoster (s : State) (h : Handle) (r : Station) : s.Aside (s.shortenRoster h r) := by
  unfold State.shortenRoster
  split
  · exact State.Aside.refl s
  · exact .of_unchanged

/-- Only the record of the staying relay is changed (R84). -/
theorem State.station_shortenRoster (s : State) (h k : Handle) (r : Station) :
    (s.shortenRoster h r).station k =
      if r.via = some k then (s.station k).map (Station.without h) else s.station k := by
  rw [s.shortenRoster_eq]
  cases r.via with
  | none => rw [if_neg nofun]
  | some v =>
    refine (s.station_setStation v k _).trans ?_
    simp only [Option.some.injEq]
    split
    · rename_i same
      rw [same]
    · rfl

theorem State.directoryChanges_shortenRoster (s : State) (h : Handle) (r : Station) :
    (s.shortenRoster h r).directoryChanges = s.directoryChanges + BitVec.ofNat 16 (if r.via.isSome then 1 else 0) := by
  rw [s.shortenRoster_eq]
  cases r.via with
  | none => simp
  | some v => rfl

theorem State.shortenRoster_frame (s : State) (h : Handle) (r : Station) :
    s.shortenRoster h r = { s with
      stations := (s.shortenRoster h r).stations
      directoryChanges := (s.shortenRoster h r).directoryChanges } := by
  unfold State.shortenRoster
  split <;> rfl

/-- A station whose record has a VIA leaves alone (R82). -/
theorem State.removalSet_of_via {r : Station} {v : Handle} (via : r.via = some v) (s : State) (h : Handle) :
    s.removalSet h r = [h] := by
  simp [State.removalSet, Station.topRelay, via]

theorem State.removalSet_eq (s : State) (h : Handle) (r : Station) :
    s.removalSet h r = if r.kind = .relay ∧ r.via = none then h :: s.downstream h else [h] := by
  simp only [State.removalSet, Station.topRelay_iff]

/-- What an eviction leaves (R83, R84). -/
theorem State.left_evictStation (s : State) (h : Handle) (r : Station) (reason : Reason) :
    s.Left (s.evictStation h r reason) (s.removalSet h r) r.via := by
  let set := s.removalSet h r
  let u := s.departed set .evicted
  let shortened := u.shortenRoster h r
  let message : DownMessage := ⟨r.number, .evicted reason⟩
  have cleared := s.cleared_cascade set .evicted (after := fun u => (u.shortenRoster h r).offer message)
    ((u.aside_shortenRoster h r).trans (shortened.aside_offer message))
  have steady : shortened.Steady (s.evictStation h r reason) :=
    (shortened.steady_offer message).trans ((shortened.offer message).steady_servicePasses _)
  have frame : shortened = _ := u.shortenRoster_frame h r
  have station (k : Handle) := s.station_departed set .evicted k
  have assembly (k : Handle) : (s.evictStation h r reason).assembly k = if k ∈ set then none else s.assembly k := by
    rw [State.assembly, steady.assemblies, frame]
    exact s.assembly_departed set .evicted k
  refine { cleared with
    gone := fun k leaves => ⟨?_, by rw [assembly, if_pos leaves]⟩
    records := fun k stays other => ?_
    shortening := fun k stays relay => ?_
    assemblies := fun k stays => by rw [assembly, if_neg stays]
    counted := ?_
    untouched := ?_ }
  · have none := station k
    rw [if_pos leaves, Option.map_eq_none_iff] at none
    have gone := steady.records k
    rw [u.station_shortenRoster, none] at gone
    simpa using gone
  · rw [steady.records, u.station_shortenRoster, if_neg other, station, if_neg stays]
  · have kept := station k
    rw [if_neg stays] at kept
    have alone : set = [h] := s.removalSet_of_via relay h
    calc ((s.evictStation h r reason).station k).map Station.settledFields
      _ = ((u.station k).map Station.settledFields).map (Station.without h) := by
        rw [steady.records, u.station_shortenRoster, if_pos relay, Option.map_map, Option.map_map]
        rfl
      _ = ((s.station k).map Station.settledFields).map (Station.without h) := congrArg _ kept
      _ = _ := by
        rw [Option.map_map]
        simp only [set, alone, List.mem_singleton]
        rfl
  · have counted := s.directoryChanges_departed set .evicted
    rw [steady.directoryChanges, u.directoryChanges_shortenRoster, counted, BitVec.ofNat_add, BitVec.add_assoc]
  · have kept := steady.untouched
    rw [frame] at kept
    simpa only [u, s.untouched_departed] using kept

/-- Settles O51. -/
theorem evictionsAndQuotas : Obligations.EvictionsAndQuotas := by
  refine ⟨fun s h r reason _ => ?_, fun s => ?_⟩
  · intro t set shortened
    have leaves : s.removalSet h r = set := s.removalSet_eq h r
    have shortens (u : State) : u.shortenRoster h r = shortened u := u.shortenRoster_eq h r
    refine ⟨?_, leaves ▸ s.left_evictStation h r reason, ?_⟩
    · simp only [t, State.evictStation, leaves, shortens]
    · let offered := ((s.departed (s.removalSet h r) .evicted).shortenRoster h r).offer ⟨r.number, .evicted reason⟩
      have passed : offered.Steady t := offered.steady_servicePasses _
      exact (State.held_or_sync_offer _ ⟨r.number, .evicted reason⟩).imp (passed.messages.subset ·) (passed.flags .sync)
  · intro n quota answers
    refine ⟨fun ready => ?_, fun ready => ?_⟩
    · have taken : exec .evict s = .next (s.evictWork.part.finished s.evictWork.result s.evictWork.readout) :=
        congrArg _ (ready.runCommand_eq State.evictWork)
      refine ⟨fun unknown => ?_, fun h r found => ?_⟩
      · change s.lookup s.argNumber = none at unknown
        simp only [State.evictWork, unknown] at taken
        exact taken
      · change s.lookup s.argNumber = some (h, r) at found
        simp only [State.evictWork, found] at taken
        exact taken
    · have taken : exec .setQuota s = .next (s.setQuotaWork.part.finished s.setQuotaWork.result s.setQuotaWork.readout) :=
        congrArg _ (ready.runCommand_eq State.setQuotaWork)
      refine ⟨fun outside => ?_, fun low high => ?_⟩
      · have refused : s.setQuotaWork = s.failed .badArgument := if_pos outside
        rw [refused] at taken
        exact taken
      have inRange : ¬ (s.argNat 4 < 1 ∨ 16 < s.argNat 4) := show ¬ (quota < 1 ∨ 16 < quota) by omega
      refine ⟨fun unknown => ?_, fun h r found => ?_⟩
      · change s.lookup s.argNumber = none at unknown
        simp only [State.setQuotaWork, if_neg inRange, unknown] at taken
        exact taken
      · change s.lookup s.argNumber = some (h, r) at found
        simp only [State.setQuotaWork, if_neg inRange, found, State.bumpDirectory,
          apply_ite (BitVec.ofNat 16 : Nat → BitVec 16)] at taken
        exact taken

end Sys2Proof.Machine
end

section
/-! The steps of an acceptance (R99 to R104): kept records, new records, the relay's record. -/

namespace Sys2Proof.Machine

set_option Elab.async false -- one proof at a time: waiting proofs would hold a thread each

/-! ### Kept records (R103 step 2) -/

/-- A record behind the relay as the entry of its number reports it. -/
def Station.entered (relay : Handle) (x : Station) (e : RosterEntry) : Station :=
  if x.number = e.number ∧ x.via = some relay then { x with kind := e.kind, tier := e.tier.val } else x

/-- A record as all the entries report it. -/
def Station.enteredAll (relay : Handle) (entries : List RosterEntry) (x : Station) : Station :=
  entries.foldl (Station.entered relay) x

theorem Station.entered_frame (relay : Handle) (x : Station) (e : RosterEntry) :
    ∃ kind tier, x.entered relay e = { x with kind := kind, tier := tier } := by
  unfold Station.entered
  split
  · exact ⟨_, _, rfl⟩
  · exact ⟨x.kind, x.tier, rfl⟩

/-- An entry changes KIND and TIER alone. -/
theorem Station.enteredAll_frame (relay : Handle) (entries : List RosterEntry) (x : Station) :
    ∃ kind tier, x.enteredAll relay entries = { x with kind := kind, tier := tier } := by
  induction entries generalizing x with
  | nil => exact ⟨x.kind, x.tier, rfl⟩
  | cons e rest ih =>
    obtain ⟨_, _, first⟩ := x.entered_frame relay e
    obtain ⟨kind, tier, others⟩ := ih (x.entered relay e)
    exact ⟨kind, tier, others.trans (by rw [first])⟩

@[simp] theorem Station.entered_number (relay : Handle) (x : Station) (e : RosterEntry) :
    (x.entered relay e).number = x.number := by
  obtain ⟨_, _, frame⟩ := x.entered_frame relay e
  rw [frame]

@[simp] theorem Station.enteredAll_number (relay : Handle) (entries : List RosterEntry) (x : Station) :
    (x.enteredAll relay entries).number = x.number := by
  obtain ⟨_, _, frame⟩ := x.enteredAll_frame relay entries
  rw [frame]

@[simp] theorem Station.enteredAll_via (relay : Handle) (entries : List RosterEntry) (x : Station) :
    (x.enteredAll relay entries).via = x.via := by
  obtain ⟨_, _, frame⟩ := x.enteredAll_frame relay entries
  rw [frame]

@[simp] theorem Station.enteredAll_drop (relay : Handle) (entries : List RosterEntry) (x : Station) :
    (x.enteredAll relay entries).drop = x.drop := by
  obtain ⟨_, _, frame⟩ := x.enteredAll_frame relay entries
  rw [frame]

theorem Station.enteredAll_of_elsewhere {relay : Handle} {x : Station} (elsewhere : x.via ≠ some relay)
    (entries : List RosterEntry) : x.enteredAll relay entries = x := by
  induction entries with
  | nil => rfl
  | cons e rest ih =>
    rw [Station.enteredAll, List.foldl_cons, Station.entered, if_neg (elsewhere ·.2), ← Station.enteredAll, ih]

theorem Station.enteredAll_of_unnamed {relay : Handle} {x : Station} {entries : List RosterEntry}
    (unnamed : x.number ∉ entries.map RosterEntry.number) : x.enteredAll relay entries = x := by
  induction entries with
  | nil => rfl
  | cons e rest ih =>
    rw [List.map_cons, List.mem_cons, not_or] at unnamed
    rw [Station.enteredAll, List.foldl_cons, Station.entered, if_neg (unnamed.1 ·.1), ← Station.enteredAll, ih unnamed.2]

/-- A record is as the one entry of its number reports it. -/
theorem Station.enteredAll_of_mem {relay : Handle} {x : Station} {e : RosterEntry} {entries : List RosterEntry}
    (once : (entries.map RosterEntry.number).Nodup) (reported : e ∈ entries) (number : x.number = e.number)
    (under : x.via = some relay) : x.enteredAll relay entries = { x with kind := e.kind, tier := e.tier.val } := by
  induction entries with
  | nil => cases reported
  | cons d rest ih =>
    obtain ⟨first, others⟩ := List.nodup_cons.mp once
    rw [Station.enteredAll, List.foldl_cons, ← Station.enteredAll]
    obtain rfl | later := List.mem_cons.mp reported
    · rw [Station.entered, if_pos ⟨number, under⟩]
      exact Station.enteredAll_of_unnamed (number ▸ first)
    · have other : x.number ≠ d.number := fun same => first (same ▸ number ▸ List.mem_map_of_mem later)
      rw [Station.entered, if_neg (other ·.1)]
      exact ih others later

/-- The record of an entry's number is behind the relay and has another KIND or TIER than reported (R104). -/
def State.corrects (s : State) (relay : Handle) (e : RosterEntry) : Bool :=
  (s.lookup e.number).any fun p => p.2.via = some relay && (p.2.kind ≠ e.kind || p.2.tier ≠ e.tier.val)

theorem State.station_keepEntry {s : State} (distinct : s.DistinctNumbers) (relay : Handle) (e : RosterEntry) (k : Handle) :
    (s.keepEntry relay e).station k = (s.station k).map (Station.entered relay · e) := by
  have unchanged (other : ∀ x, s.station k = some x → ¬ (x.number = e.number ∧ x.via = some relay)) :
      s.station k = (s.station k).map (Station.entered relay · e) := by
    cases here : s.station k with
    | none => rfl
    | some x => rw [Option.map_some, Station.entered, if_neg (other x here)]
  unfold State.keepEntry
  split
  · rename_i unknown
    exact unchanged fun x here reported => (s.lookup_eq_none_iff _).mp unknown k x here reported.1
  rename_i m y found
  obtain ⟨there, number⟩ := s.station_of_lookup _ m y found
  have named {x : Station} (here : s.station k = some x) (same : x.number = e.number) : k = m ∧ x = y := by
    obtain rfl := distinct k m x y here there (same.trans number.symm)
    exact ⟨rfl, Option.some.inj (here.symm.trans there)⟩
  split
  · rename_i under
    refine (s.station_setStation m k _).trans ?_
    split
    · rename_i same
      rw [← same, there, Option.map_some, Station.entered, if_pos ⟨number, under⟩]
    · rename_i other
      exact unchanged fun x here reported => other (named here reported.1).1.symm
  · rename_i elsewhere
    exact unchanged fun x here reported => elsewhere ((named here reported.1).2 ▸ reported.2)

theorem State.keepEntry_frame (s : State) (relay : Handle) (e : RosterEntry) :
    s.keepEntry relay e = { s with
      stations := (s.keepEntry relay e).stations
      directoryChanges := s.directoryChanges + BitVec.ofNat 16 (changeIf (s.corrects relay e)) } := by
  unfold State.keepEntry State.corrects
  split <;> rename_i found
  · simp [found, changeIf]
  rw [found]
  split <;> rename_i under
  · simp [under, State.bumpDirectory, State.setStation]
  · simp [under, changeIf]

/-- Records that change in place and keep their numbers are found at the same handles. -/
theorem State.lookup_of_map {s t : State} {f : Station → Station} (number : ∀ x, (f x).number = x.number)
    (reads : ∀ k, t.station k = (s.station k).map f) (n : StationNumber) :
    t.lookup n = (s.lookup n).map fun p => (p.1, f p.2) := by
  unfold State.lookup
  rw [List.map_findSome?]
  congr 1
  funext k
  rw [reads]
  cases here : s.station k with
  | none => simp [here]
  | some x =>
    simp only [Option.map_some, Option.bind_some, number, Function.comp_apply, here]
    split <;> rfl

/-- What the kept records' step leaves: each record as the entries report it, each correction counted. -/
structure State.Kept (s t : State) (relay : Handle) (entries : List RosterEntry) : Prop where
  frame : t = { s with
    stations := t.stations
    directoryChanges := s.directoryChanges + BitVec.ofNat 16 (entries.filter (s.corrects relay)).length }
  reads : ∀ k, t.station k = (s.station k).map (Station.enteredAll relay entries)

theorem State.kept_foldl {s : State} (distinct : s.DistinctNumbers) (relay : Handle) {entries : List RosterEntry}
    (once : (entries.map RosterEntry.number).Nodup) :
    s.Kept (entries.foldl (State.keepEntry relay) s) relay entries := by
  induction entries generalizing s with
  | nil => exact ⟨by simp, fun k => Option.map_id'.symm⟩
  | cons e rest ih =>
    obtain ⟨first, others⟩ := List.nodup_cons.mp once
    let t := s.keepEntry relay e
    have reads (k : Handle) : t.station k = (s.station k).map (Station.entered relay · e) :=
      State.station_keepEntry distinct relay e k
    have still : t.DistinctNumbers := by
      intro h k x y there also same
      rw [reads, Option.map_eq_some_iff] at there also
      obtain ⟨r, here, rfl⟩ := there
      obtain ⟨q, too, rfl⟩ := also
      exact distinct h k r q here too (by simpa using same)
    have corrects (d : RosterEntry) (later : d ∈ rest) : t.corrects relay d = s.corrects relay d := by
      have other : e.number ≠ d.number := fun same => first (same ▸ List.mem_map_of_mem later)
      unfold State.corrects
      rw [State.lookup_of_map (Station.entered_number relay · e) reads]
      cases found : s.lookup d.number with
      | none => rfl
      | some p =>
        obtain ⟨-, named⟩ := s.station_of_lookup _ p.1 p.2 found
        have same : p.2.entered relay e = p.2 := by
          rw [Station.entered, if_neg fun reported => other (reported.1.symm.trans named)]
        simp only [Option.map_some, Option.any_some, same]
    obtain ⟨frame, rest_reads⟩ := ih still others
    refine ⟨?_, fun k => ?_⟩
    · have counted : (List.filter (s.corrects relay) (e :: rest)).length =
          changeIf (s.corrects relay e) + (rest.filter (s.corrects relay)).length := by
        rw [List.filter_cons]
        cases s.corrects relay e <;> simp [changeIf, Nat.add_comm]
      rw [List.foldl_cons, frame, List.filter_congr corrects, counted, BitVec.ofNat_add, ← BitVec.add_assoc]
      exact congrArg (fun t : State => { t with
        stations := (rest.foldl (State.keepEntry relay) (s.keepEntry relay e)).stations
        directoryChanges := t.directoryChanges + BitVec.ofNat 16 (rest.filter (s.corrects relay)).length })
        (s.keepEntry_frame relay e)
    · rw [List.foldl_cons, rest_reads, reads, Option.map_map]
      rfl

/-! ### New records (R103 step 3) -/

theorem State.station_addStation (s : State) (h k : Handle) (x : Station) :
    (s.addStation h x).station k = if h = k then some x else s.station k := s.station_setStation h k (some x)

/-- A number in no record keeps numbers distinct. -/
theorem State.DistinctNumbers.addStation {s : State} (distinct : s.DistinctNumbers) {x : Station}
    (unknown : s.lookup x.number = none) (h : Handle) : (s.addStation h x).DistinctNumbers := by
  rw [State.lookup_eq_none_iff] at unknown
  intro k m y z there also same
  rw [State.station_addStation] at there also
  split at there <;> split at also
  · rename_i first second
    exact first.symm.trans second
  · cases there
    exact absurd same.symm (unknown m z also)
  · cases also
    exact absurd same (unknown k y there)
  · exact distinct k m y z there also same

theorem State.mem_freeHandles_iff (s : State) (k : Handle) :
    k ∈ allHandles.filter (fun h => (s.station h).isNone) ↔ s.station k = none := by
  simp [allHandles]

theorem State.nodup_freeHandles (s : State) : (allHandles.filter fun h => (s.station h).isNone).Nodup :=
  (List.nodup_finRange 48).filter _

theorem State.exists_freeHandle {s : State} (room : 0 < s.freeHandleCount) : ∃ k, s.freeHandle = some k := by
  refine Option.ne_none_iff_exists'.mp fun full => ?_
  obtain ⟨k, free⟩ := List.exists_mem_of_length_pos room
  exact s.freeHandle_eq_none_iff.mp full k ((s.mem_freeHandles_iff k).mp free)

/-- One free handle is taken. -/
theorem State.freeHandleCount_addStation (s : State) (h : Handle) (x : Station) :
    s.freeHandleCount ≤ (s.addStation h x).freeHandleCount + 1 := by
  refine (List.subperm_of_subset (l₂ := h :: allHandles.filter fun k => ((s.addStation h x).station k).isNone)
    s.nodup_freeHandles fun k free => ?_).length_le
  rw [State.mem_freeHandles_iff] at free
  rw [List.mem_cons, State.mem_freeHandles_iff, State.station_addStation]
  by_cases same : h = k
  · exact .inl same.symm
  · exact .inr (by rw [if_neg same, free])

/-- What the new records' step leaves: the records there were, and one for each new entry. -/
structure State.Grown (s t : State) (relay : Handle) (r : Station) (entries : List RosterEntry) : Prop where
  frame : t = { s with
    stations := t.stations
    directoryChanges := s.directoryChanges + BitVec.ofNat 16 entries.length
    flags := t.flags }
  stays : ∀ k x, s.station k = some x → t.station k = some x
  reads : ∀ k x, t.station k = some x → s.station k = some x ∨ ∃ e ∈ entries, x = s.rosterRecord relay r e
  enters : ∀ e ∈ entries, ∃ k, t.station k = some (s.rosterRecord relay r e)
  distinct : t.DistinctNumbers
  flags : ∀ f, s.pendingFlag f = true → t.pendingFlag f = true
  joined : entries ≠ [] → t.pendingFlag .joined = true

theorem State.grown_foldl {s : State} (distinct : s.DistinctNumbers) (relay : Handle) (r : Station)
    {entries : List RosterEntry} (once : (entries.map RosterEntry.number).Nodup)
    (unknown : ∀ e ∈ entries, s.lookup e.number = none) (room : entries.length ≤ s.freeHandleCount) :
    s.Grown (entries.foldl (State.admitEntry relay r) s) relay r entries := by
  induction entries generalizing s with
  | nil =>
    exact ⟨by simp, fun _ _ => id, fun _ _ => .inl, nofun, distinct, fun _ => id, fun none => absurd rfl none⟩
  | cons e rest ih =>
    obtain ⟨first, others⟩ := List.nodup_cons.mp once
    rw [List.length_cons] at room
    obtain ⟨h, lowest⟩ := s.exists_freeHandle (by omega)
    have free : s.station h = none := ((s.freeHandle_eq_some_iff h).mp lowest).1
    let t := s.addStation h (s.rosterRecord relay r e)
    have admitted : s.admitEntry relay r e = t := by simp only [State.admitEntry, lowest, t]
    have station (k : Handle) : t.station k = if h = k then some (s.rosterRecord relay r e) else s.station k :=
      s.station_addStation ..
    have stays (k : Handle) (x : Station) (here : s.station k = some x) : t.station k = some x := by
      rw [station, if_neg, here]
      rintro rfl
      cases free ▸ here
    have stillUnknown (d : RosterEntry) (later : d ∈ rest) : t.lookup d.number = none := by
      refine (t.lookup_eq_none_iff _).mpr fun k x there number => ?_
      rw [station] at there
      split at there
      · cases there
        exact first (List.mem_map.mpr ⟨d, later, number.symm⟩)
      · exact (s.lookup_eq_none_iff _).mp (unknown d (List.mem_cons_of_mem e later)) k x there number
    have fewer : s.freeHandleCount ≤ t.freeHandleCount + 1 := s.freeHandleCount_addStation ..
    have roomLeft : rest.length ≤ t.freeHandleCount := by omega
    have grown := ih (distinct.addStation (unknown e (List.mem_cons_self ..)) h) others stillUnknown roomLeft
    rw [List.foldl_cons, admitted]
    refine ⟨?_, fun k x here => grown.stays k x (stays k x here), fun k x there => ?_, fun d listed => ?_, grown.distinct,
      fun f pending => grown.flags f (State.pendingFlag_raise_of _ f .joined pending),
      fun _ => grown.flags .joined (State.pendingFlag_raise_self ..)⟩
    · refine grown.frame.trans ?_
      rw [List.length_cons, Nat.add_comm, BitVec.ofNat_add, ← BitVec.add_assoc]
      rfl
    · obtain before | ⟨d, later, made⟩ := grown.reads k x there
      · rw [station] at before
        split at before
        · exact .inr ⟨e, List.mem_cons_self .., (Option.some.inj before).symm⟩
        · exact .inl before
      · exact .inr ⟨d, List.mem_cons_of_mem e later, made⟩
    · obtain rfl | later := List.mem_cons.mp listed
      · exact ⟨h, grown.stays h _ (by rw [station, if_pos rfl])⟩
      · exact grown.enters d later

end Sys2Proof.Machine
end

section
/-! The directory of an acceptance and its laws (R70, R99 to R104). -/

namespace Sys2Proof.Machine

set_option Elab.async false -- one proof at a time: waiting proofs would hold a thread each

/-! ### The checks an accepted roster has passed (R99) -/

theorem State.checks_of_rosterRefusal_eq_none {s : State} {h : Handle} {r : Station} {a : Assembly}
    (accepted : s.rosterRefusal h r a = none) :
    a.entries.length = a.declaredCount ∧ (a.entries.map RosterEntry.number).Nodup ∧
      (∀ e ∈ a.entries, s.listed e.number = false) ∧ (∀ e ∈ a.entries, s.heldElsewhere h e.number = false) ∧
      (s.newEntries a.entries).length ≤ s.freeHandleCount + (s.omitted h a.entries).length := by
  unfold State.rosterRefusal at accepted
  split at accepted
  · cases accepted
  rename_i count
  split at accepted
  · cases accepted
  rename_i numbers
  split at accepted
  · cases accepted
  split at accepted
  · cases accepted
  rename_i listed
  split at accepted
  · cases accepted
  rename_i held
  split at accepted
  · cases accepted
  rename_i room
  simp only [numbersGood, Bool.not_eq_true, Bool.not_eq_false', Bool.and_eq_true, decide_eq_true_eq] at numbers
  refine ⟨not_not.mp count, numbers.2, ?_, ?_, not_lt.mp room⟩
  · simpa using listed
  · simpa using held

theorem State.mem_omitted_iff (s : State) (h : Handle) (entries : List RosterEntry) (k : Handle) :
    k ∈ s.omitted h entries ↔
      ∃ x, s.station k = some x ∧ x.via = some h ∧ x.number ∉ entries.map RosterEntry.number := by
  simp only [State.omitted, List.mem_filter, State.mem_downstream_iff, Bool.not_eq_true', List.contains_eq_mem,
    decide_eq_false_iff_not]
  constructor
  · rintro ⟨⟨x, here, under⟩, absent⟩
    exact ⟨x, here, under, by simpa [State.numberOf, here] using absent⟩
  · rintro ⟨x, here, under, absent⟩
    exact ⟨⟨x, here, under⟩, by simpa [State.numberOf, here] using absent⟩

/-- A directory as the steps of an acceptance meet it: the relay stands, the entries bear distinct numbers that are not listed
and held nowhere but behind the relay, all that is behind the relay is reported, and there is room (R99 to R103). -/
structure State.Meets (s : State) (h : Handle) (r : Station) (entries : List RosterEntry) : Prop where
  law : s.DirectoryLaw
  relay : r.kind = .relay
  top : r.via = none
  here : ∃ x, s.station h = some x ∧ x.settledFields = r.settledFields
  once : (entries.map RosterEntry.number).Nodup
  unlisted : ∀ e ∈ entries, s.listed e.number = false
  under : ∀ e ∈ entries, ∀ k x, s.station k = some x → x.number = e.number → x.via = some h
  reported : ∀ k x, s.station k = some x → x.via = some h → x.number ∈ entries.map RosterEntry.number
  room : (s.newEntries entries).length ≤ s.freeHandleCount
  atMost15 : entries.length ≤ 15

/-- Records that are alike but for SYNC OWED are alike in the rest. -/
theorem Station.alike_of_settledFields {x r : Station} (same : x.settledFields = r.settledFields) :
    x.number = r.number ∧ x.kind = r.kind ∧ x.drop = r.drop ∧ x.via = r.via ∧ x.tier = r.tier := by
  have read {α : Type} (field : Station → α) : field x.settledFields = field r.settledFields := congrArg field same
  exact ⟨read Station.number, read Station.kind, read Station.drop, read Station.via, read Station.tier⟩

section Departed

variable {s : State} {h : Handle} {r : Station} {a : Assembly}

theorem State.station_of_departed {set : List Handle} {reason : Reason} {k : Handle} {y : Station}
    (there : (s.departed set reason).station k = some y) :
    k ∉ set ∧ ∃ x, s.station k = some x ∧ y.settledFields = x.settledFields := by
  have alike := s.station_departed set reason k
  rw [there] at alike
  split at alike
  · cases alike
  · rename_i stays
    rw [Option.map_some, eq_comm, Option.map_eq_some_iff] at alike
    obtain ⟨x, here, same⟩ := alike
    exact ⟨stays, x, here, same.symm⟩

theorem State.station_departed_of_stays {set : List Handle} {reason : Reason} {k : Handle} {x : Station}
    (here : s.station k = some x) (stays : k ∉ set) :
    ∃ y, (s.departed set reason).station k = some y ∧ y.settledFields = x.settledFields := by
  have alike := s.station_departed set reason k
  rw [if_neg stays, here, Option.map_some, Option.map_eq_some_iff] at alike
  exact alike

theorem State.freeHandleCount_departed {set : List Handle} (reason : Reason) (distinct : set.Nodup)
    (stand : ∀ k ∈ set, s.station k ≠ none) :
    s.freeHandleCount + set.length ≤ (s.departed set reason).freeHandleCount := by
  have separate : ((allHandles.filter fun k => (s.station k).isNone) ++ set).Nodup :=
    s.nodup_freeHandles.append distinct fun k free leaves => stand k leaves ((s.mem_freeHandles_iff k).mp free)
  refine (List.length_append ..).symm.trans_le (List.subperm_of_subset separate fun k there => ?_).length_le
  rw [State.mem_freeHandles_iff, ← Option.map_eq_none_iff (f := Station.settledFields), State.station_departed]
  obtain free | leaves := List.mem_append.mp there
  · rw [(s.mem_freeHandles_iff k).mp free]
    exact ite_self _
  · exact if_pos leaves

/-- A reported number is found where it was, but for SYNC OWED of its record. -/
theorem State.DirectoryLaw.lookup_departed (law : s.DirectoryLaw) (entries : List RosterEntry) {e : RosterEntry}
    (listed : e ∈ entries) :
    ((s.departed (s.omitted h entries) .departed).lookup e.number).map (fun p => (p.1, p.2.settledFields)) =
      (s.lookup e.number).map fun p => (p.1, p.2.settledFields) := by
  have distinct : (s.departed (s.omitted h entries) .departed).DistinctNumbers := by
    intro k m y z there also same
    obtain ⟨-, x, here, alike⟩ := State.station_of_departed there
    obtain ⟨-, q, too, likewise⟩ := State.station_of_departed also
    refine law.oneRecord k m x q here too ?_
    rw [← (Station.alike_of_settledFields alike).1, same, (Station.alike_of_settledFields likewise).1]
  cases found : s.lookup e.number with
  | none =>
    rw [Option.map_none, Option.map_eq_none_iff, State.lookup_eq_none_iff]
    intro k y there number
    obtain ⟨-, x, here, alike⟩ := State.station_of_departed there
    exact (s.lookup_eq_none_iff _).mp found k x here ((Station.alike_of_settledFields alike).1.symm.trans number)
  | some p =>
    obtain ⟨k, x⟩ := p
    obtain ⟨here, number⟩ := s.station_of_lookup _ k x found
    have stays : k ∉ s.omitted h entries := by
      rw [State.mem_omitted_iff]
      rintro ⟨q, same, -, absent⟩
      cases here ▸ same
      exact absent (number ▸ List.mem_map_of_mem listed)
    obtain ⟨y, there, alike⟩ := State.station_departed_of_stays (reason := .departed) here stays
    have named : y.number = e.number := (Station.alike_of_settledFields alike).1.trans number
    rw [(distinct.lookup_eq_some_iff e.number k y).mpr ⟨there, named⟩, Option.map_some, Option.map_some, alike]

/-- The new group is the same once the omitted group is gone (R102). -/
theorem State.DirectoryLaw.newEntries_departed (law : s.DirectoryLaw) (entries : List RosterEntry) :
    (s.departed (s.omitted h entries) .departed).newEntries entries = s.newEntries entries :=
  List.filter_congr fun e listed => by
    have same := congrArg Option.isNone (law.lookup_departed (h := h) entries listed)
    simpa using same

theorem State.meets_departed (law : s.DirectoryLaw) (here : s.station h = some r) (relay : r.kind = .relay)
    (top : r.via = none) (assembled : s.assembly h = some a) (accepted : s.rosterRefusal h r a = none) :
    (s.departed (s.omitted h a.entries) .departed).Meets h r a.entries := by
  obtain ⟨count, once, unlisted, elsewhere, room⟩ := State.checks_of_rosterRefusal_eq_none accepted
  have closed : s.Closed (s.omitted h a.entries) :=
    law.closed_of_downstream (h := h) fun k there => (List.mem_filter.mp there).1
  have stays : h ∉ s.omitted h a.entries := by
    rw [State.mem_omitted_iff]
    rintro ⟨x, same, under, -⟩
    cases here ▸ same
    cases top ▸ under
  refine {
    law := law.delete_listing (list := s.denyList) .departed closed fun k x there _ => law.notListed k x there
    relay := relay
    top := top
    here := State.station_departed_of_stays here stays
    once := once
    unlisted := fun e listed => ?_
    under := fun e listed k y there number => ?_
    reported := fun k y there under => ?_
    room := ?_
    atMost15 := count ▸ law.declared h a assembled }
  · rw [State.listed, (s.untouched_departed _ _).1]
    exact unlisted e listed
  · obtain ⟨-, x, old, alike⟩ := State.station_of_departed there
    have found : s.lookup e.number = some (k, x) :=
      (State.DistinctNumbers.lookup_eq_some_iff law.oneRecord ..).mpr
        ⟨old, (Station.alike_of_settledFields alike).1.symm.trans number⟩
    have held := elsewhere e listed
    simp only [State.heldElsewhere, found, Option.any_some, decide_eq_false_iff_not, ne_eq, not_not] at held
    exact (congrArg Station.via alike).trans held
  · obtain ⟨kept, x, old, alike⟩ := State.station_of_departed there
    have under' : x.via = some h := (congrArg Station.via alike).symm.trans under
    rw [(Station.alike_of_settledFields alike).1]
    exact not_not.mp fun absent => kept ((s.mem_omitted_iff ..).mpr ⟨x, old, under', absent⟩)
  · rw [law.newEntries_departed]
    refine room.trans (s.freeHandleCount_departed _ ((s.nodup_downstream h).filter _) fun k there none => ?_)
    obtain ⟨x, old, -⟩ := (s.mem_omitted_iff ..).mp there
    cases none ▸ old

end Departed

/-! ### The entries under the relay (R103 steps 2 and 3) -/

/-- The kept records as reported and the new ones admitted (R103 steps 2 and 3). -/
def State.rostered (h : Handle) (r : Station) (entries : List RosterEntry) (s : State) : State :=
  (s.newEntries entries).foldl (State.admitEntry h r) (entries.foldl (State.keepEntry h) s)

/-- What steps 2 and 3 of an acceptance leave (R103, R104). -/
structure State.Rostered (s t : State) (h : Handle) (r : Station) (entries : List RosterEntry) : Prop where
  frame : t = { s with
    stations := t.stations
    directoryChanges := s.directoryChanges +
      BitVec.ofNat 16 ((entries.filter (s.corrects h)).length + (s.newEntries entries).length)
    flags := t.flags }
  stays : ∀ k x, s.station k = some x → t.station k = some (x.enteredAll h entries)
  reads : ∀ k y, t.station k = some y → (∃ x, s.station k = some x ∧ y = x.enteredAll h entries) ∨
    ∃ e ∈ s.newEntries entries, y = s.rosterRecord h r e
  enters : ∀ e ∈ s.newEntries entries, ∃ k, t.station k = some (s.rosterRecord h r e)
  distinct : t.DistinctNumbers
  flags : ∀ f, s.pendingFlag f = true → t.pendingFlag f = true
  joined : s.newEntries entries ≠ [] → t.pendingFlag .joined = true

theorem State.Meets.rostered {s : State} {h : Handle} {r : Station} {entries : List RosterEntry}
    (meets : s.Meets h r entries) : s.Rostered (s.rostered h r entries) h r entries := by
  let u := entries.foldl (State.keepEntry h) s
  have kept : s.Kept u h entries := State.kept_foldl meets.law.oneRecord h meets.once
  have distinct : u.DistinctNumbers := by
    intro k m y z there also same
    rw [kept.reads, Option.map_eq_some_iff] at there also
    obtain ⟨x, here, rfl⟩ := there
    obtain ⟨q, too, rfl⟩ := also
    exact meets.law.oneRecord k m x q here too (by simpa using same)
  have unknown (e : RosterEntry) (fresh : e ∈ s.newEntries entries) : u.lookup e.number = none := by
    rw [State.lookup_of_map (Station.enteredAll_number h entries) kept.reads, Option.map_eq_none_iff]
    simpa using (List.mem_filter.mp fresh).2
  have once : ((s.newEntries entries).map RosterEntry.number).Nodup :=
    meets.once.sublist (List.filter_sublist.map _)
  have room : (s.newEntries entries).length ≤ u.freeHandleCount := by
    have same : u.freeHandleCount = s.freeHandleCount :=
      congrArg List.length (List.filter_congr fun k _ => by rw [kept.reads, Option.isNone_map])
    exact same ▸ meets.room
  have grown : u.Grown (s.rostered h r entries) h r (s.newEntries entries) :=
    State.grown_foldl distinct h r once unknown room
  have record (e : RosterEntry) : u.rosterRecord h r e = s.rosterRecord h r e := by
    rw [kept.frame]
    rfl
  refine ⟨?_, fun k x here => ?_, fun k y there => ?_, fun e fresh => ?_, grown.distinct, fun f pending => ?_, grown.joined⟩
  · refine grown.frame.trans ?_
    rw [BitVec.ofNat_add, ← BitVec.add_assoc]
    exact congrArg (fun t : State => { t with
      stations := (s.rostered h r entries).stations
      directoryChanges := t.directoryChanges + BitVec.ofNat 16 (s.newEntries entries).length
      flags := (s.rostered h r entries).flags }) kept.frame
  · exact grown.stays k _ (by rw [kept.reads, here, Option.map_some])
  · obtain before | ⟨e, fresh, made⟩ := grown.reads k y there
    · rw [kept.reads, Option.map_eq_some_iff] at before
      obtain ⟨x, here, same⟩ := before
      exact .inl ⟨x, here, same.symm⟩
    · exact .inr ⟨e, fresh, made.trans (record e)⟩
  · exact record e ▸ grown.enters e fresh
  · refine grown.flags f ?_
    rw [State.pendingFlag, kept.frame]
    exact pending

/-! ### The relay (R103 steps 4 and 5) -/

/-- The handles of the entries' records, in the entries' order. -/
def State.rosterOf (s : State) (entries : List RosterEntry) : List Handle :=
  entries.filterMap fun e => (s.lookup e.number).map (·.1)

/-- A relay's record with an accepted roster (R103 step 4). -/
def Station.accepted (roster : List Handle) (generation : Byte) (x : Station) : Station :=
  { x with state := .admitted, roster := some roster, generation := some generation, deadline := none }

theorem State.station_acceptRelay (s : State) (h k : Handle) (r : Station) (a : Assembly) :
    (s.acceptRelay h r a).station k =
      if h = k then (s.station h).map (Station.accepted (s.rosterOf a.entries) a.generation) else s.station k :=
  s.station_setStation h k _

theorem State.acceptRelay_frame (s : State) (h : Handle) (r : Station) (a : Assembly) :
    s.acceptRelay h r a = { s with
      stations := (s.acceptRelay h r a).stations
      assemblies := s.assemblies.set h none
      directoryChanges := s.directoryChanges + BitVec.ofNat 16 (changeIf (r.state ≠ .admitted) +
        changeIf (r.roster ≠ some (s.rosterOf a.entries) || r.generation ≠ some a.generation)) } := rfl

/-- The handles of a roster name the entries' records, each in its place. -/
theorem State.numbers_rosterOf {s : State} {entries : List RosterEntry}
    (found : ∀ e ∈ entries, s.lookup e.number ≠ none) :
    (s.rosterOf entries).map (fun k => (s.station k).map Station.number) =
      entries.map fun e => some e.number := by
  induction entries with
  | nil => rfl
  | cons e rest ih =>
    obtain ⟨p, first⟩ := Option.ne_none_iff_exists'.mp (found e (List.mem_cons_self ..))
    obtain ⟨here, number⟩ := s.station_of_lookup _ p.1 p.2 first
    have others := ih fun d later => found d (List.mem_cons_of_mem e later)
    rw [State.rosterOf] at others ⊢
    rw [List.filterMap_cons, first, Option.map_some, List.map_cons, List.map_cons, here, Option.map_some, number, others]

/-- Each entry's number is found under the relay. -/
theorem State.Meets.lookup_rostered {s : State} {h : Handle} {r : Station} {entries : List RosterEntry}
    (meets : s.Meets h r entries) {e : RosterEntry} (listed : e ∈ entries) :
    ∃ k y, (s.rostered h r entries).station k = some y ∧ y.number = e.number ∧ y.via = some h ∧
      (s.rostered h r entries).lookup e.number = some (k, y) := by
  have rostered := meets.rostered
  have found {k : Handle} {y : Station} (there : (s.rostered h r entries).station k = some y) (number : y.number = e.number) :
      (s.rostered h r entries).lookup e.number = some (k, y) :=
    (rostered.distinct.lookup_eq_some_iff ..).mpr ⟨there, number⟩
  cases known : s.lookup e.number with
  | none =>
    obtain ⟨k, there⟩ := rostered.enters e (List.mem_filter.mpr ⟨listed, by simp [known]⟩)
    exact ⟨k, _, there, rfl, rfl, found there rfl⟩
  | some p =>
    obtain ⟨here, number⟩ := s.station_of_lookup _ p.1 p.2 known
    have there := rostered.stays p.1 p.2 here
    have named : (p.2.enteredAll h entries).number = e.number := (p.2.enteredAll_number h entries).trans number
    exact ⟨p.1, _, there, named, (p.2.enteredAll_via h entries).trans (meets.under e listed p.1 p.2 here number),
      found there named⟩

/-! ### The laws (R70) -/

theorem Station.enteredAll_of_topRelay {x : Station} (top : x.topRelay = true) (relay : Handle) (entries : List RosterEntry) :
    x.enteredAll relay entries = x :=
  Station.enteredAll_of_elsewhere (by simp [((x.topRelay_iff).mp top).2]) entries

/-- Step 4 leaves number, drop and VIA of every record. -/
theorem State.station_of_acceptRelay {s : State} {h k : Handle} {r y : Station} {a : Assembly}
    (there : (s.acceptRelay h r a).station k = some y) :
    ∃ z, s.station k = some z ∧ y.number = z.number ∧ y.drop = z.drop ∧ y.via = z.via := by
  rw [State.station_acceptRelay] at there
  split at there
  · rename_i same
    rw [Option.map_eq_some_iff] at there
    obtain ⟨z, before, rfl⟩ := there
    exact ⟨z, same ▸ before, rfl, rfl, rfl⟩
  · exact ⟨y, there, rfl, rfl, rfl⟩

/-- A record after an acceptance is one that was there, alike in number, drop and VIA, or an entry's. -/
theorem State.Meets.station_acceptRelay {s : State} {h : Handle} {r : Station} {a : Assembly} (meets : s.Meets h r a.entries)
    {k : Handle} {y : Station} (there : ((s.rostered h r a.entries).acceptRelay h r a).station k = some y) :
    (∃ x, s.station k = some x ∧ y.number = x.number ∧ y.drop = x.drop ∧ y.via = x.via) ∨
      ∃ e ∈ a.entries, y.number = e.number ∧ y.drop = r.drop ∧ y.via = some h := by
  obtain ⟨z, before, number, drop, via⟩ := State.station_of_acceptRelay there
  rw [number, drop, via]
  obtain ⟨x, here, rfl⟩ | ⟨e, fresh, rfl⟩ := meets.rostered.reads k z before
  · exact .inl ⟨x, here, by simp⟩
  · exact .inr ⟨e, (List.mem_filter.mp fresh).1, rfl, rfl, rfl⟩

/-- Every record with a VIA on the relay's drop is an entry's (R70). -/
theorem State.Meets.reported_of_behind {s : State} {h : Handle} {r : Station} {a : Assembly} (meets : s.Meets h r a.entries)
    {k : Handle} {y : Station} (there : ((s.rostered h r a.entries).acceptRelay h r a).station k = some y)
    (onDrop : y.drop = r.drop) (behind : y.via ≠ none) : y.number ∈ a.entries.map RosterEntry.number := by
  obtain ⟨x, here, settled⟩ := meets.here
  obtain ⟨-, -, drop, noVia, -⟩ := Station.alike_of_settledFields settled
  obtain ⟨z, old, number, sameDrop, via⟩ | ⟨e, listed, number, -, -⟩ := meets.station_acceptRelay there
  · obtain ⟨p, under⟩ := Option.ne_none_iff_exists'.mp (via ▸ behind)
    obtain ⟨q, relay, top, -, beside⟩ := meets.law.viaRelay k z p old under
    have same : p = h := meets.law.oneTopStation p h q x relay here ((q.topRelay_iff).mp top).2 (noVia.trans meets.top)
      (beside.trans (sameDrop.symm.trans (onDrop.trans drop.symm)))
    exact number ▸ meets.reported k z old (same ▸ under)
  · exact number ▸ List.mem_map_of_mem listed

theorem State.Meets.law_acceptRelay {s : State} {h : Handle} {r : Station} {a : Assembly} (meets : s.Meets h r a.entries) :
    ((s.rostered h r a.entries).acceptRelay h r a).DirectoryLaw := by
  let w := s.rostered h r a.entries
  let v := w.acceptRelay h r a
  have law := meets.law
  have rostered := meets.rostered
  obtain ⟨x, here, settled⟩ := meets.here
  obtain ⟨-, kind, drop, via, -⟩ := Station.alike_of_settledFields settled
  have top : x.topRelay = true := x.topRelay_iff.mpr ⟨kind.trans meets.relay, via.trans meets.top⟩
  have reads {k : Handle} {y : Station} (there : v.station k = some y) := meets.station_acceptRelay there
  have relayStands : v.station h = some (x.accepted (w.rosterOf a.entries) a.generation) := by
    rw [State.station_acceptRelay, if_pos rfl, rostered.stays h x here, Option.map_some,
      Station.enteredAll_of_topRelay top]
  have relayTop : (x.accepted (w.rosterOf a.entries) a.generation).topRelay = true :=
    (Station.topRelay_iff _).mpr ((x.topRelay_iff).mp top)
  have oneRecord : v.DistinctNumbers := by
    intro k m y z there also same
    obtain ⟨y', old, number, -⟩ := State.station_of_acceptRelay there
    obtain ⟨z', too, number', -⟩ := State.station_of_acceptRelay also
    exact rostered.distinct k m y' z' old too (number ▸ number' ▸ same)
  refine ⟨oneRecord, fun k y there => ?_, fun k y p there under => ?_,
    fun k m y z there also noVia noVia' same => ?_, fun d => ?_, fun k b there => ?_⟩
  · have list : v.denyList = s.denyList := by
      rw [show v = _ from w.acceptRelay_frame h r a, show w = _ from rostered.frame]
    rw [State.listed, list]
    obtain ⟨z, old, number, -⟩ | ⟨e, listed, number, -⟩ := reads there
    · exact number ▸ law.notListed k z old
    · exact number ▸ meets.unlisted e listed
  · obtain ⟨z, old, -, onDrop, sameVia⟩ | ⟨e, listed, -, onDrop, sameVia⟩ := reads there
    · obtain ⟨q, relay, relayed, admitted, sameDrop⟩ := law.viaRelay k z p old (sameVia ▸ under)
      by_cases same : h = p
      · subst same
        cases here ▸ relay
        exact ⟨_, relayStands, relayTop, rfl, sameDrop.trans onDrop.symm⟩
      · refine ⟨q, ?_, relayed, admitted, sameDrop.trans onDrop.symm⟩
        rw [State.station_acceptRelay, if_neg same, rostered.stays p q relay, Station.enteredAll_of_topRelay relayed]
    · cases sameVia ▸ under
      exact ⟨_, relayStands, relayTop, rfl, drop.trans onDrop.symm⟩
  · obtain ⟨y', old, -, onDrop, sameVia⟩ | ⟨e, listed, -, -, sameVia⟩ := reads there
    · obtain ⟨z', too, -, onDrop', sameVia'⟩ | ⟨e, listed, -, -, sameVia'⟩ := reads also
      · exact law.oneTopStation k m y' z' old too (sameVia ▸ noVia) (sameVia' ▸ noVia') (onDrop ▸ onDrop' ▸ same)
      · cases sameVia' ▸ noVia'
    · cases sameVia ▸ noVia
  · by_cases onRelay : d = r.drop
    · have distinct : ((v.behind d).map v.numberOf).Nodup := by
        refine (List.nodup_map_iff_inj_on (v.nodup_behind d)).mpr fun k there m also same => ?_
        obtain ⟨y, here, -⟩ := (v.mem_behind_iff d k).mp there
        obtain ⟨z, too, -⟩ := (v.mem_behind_iff d m).mp also
        rw [State.numberOf, State.numberOf, here, too] at same
        exact oneRecord k m y z here too same
      have reported : (v.behind d).map v.numberOf ⊆ a.entries.map RosterEntry.number := by
        intro n there
        obtain ⟨k, behind, rfl⟩ := List.mem_map.mp there
        obtain ⟨y, here, onDrop, under⟩ := (v.mem_behind_iff d k).mp behind
        rw [State.numberOf, here]
        exact meets.reported_of_behind here (onDrop.trans onRelay) under
      have fewer := (List.subperm_of_subset distinct reported).length_le
      rw [List.length_map, List.length_map] at fewer
      exact fewer.trans meets.atMost15
    · refine (List.subperm_of_subset (v.nodup_behind d) fun k there => ?_).length_le.trans (law.atMost15 d)
      obtain ⟨y, here, onDrop, behind⟩ := (v.mem_behind_iff d k).mp there
      obtain ⟨z, old, -, sameDrop, sameVia⟩ | ⟨e, -, -, relayDrop, -⟩ := reads here
      · exact (s.mem_behind_iff d k).mpr ⟨z, old, sameDrop ▸ onDrop, sameVia ▸ behind⟩
      · exact absurd (onDrop.symm.trans relayDrop) onRelay
  · have kept : v.assembly k = if h = k then none else s.assembly k := by
      rw [show v = _ from w.acceptRelay_frame h r a, show w = _ from rostered.frame]
      exact s.assembly_setAssembly h k none
    rw [kept] at there
    split at there
    · cases there
    · exact law.declared k b there

end Sys2Proof.Machine
end

section
/-! An accepted roster in force (R102 to R104). -/

namespace Sys2Proof.Machine

set_option Elab.async false -- one proof at a time: waiting proofs would hold a thread each

theorem State.Rostered.aside {s t : State} {h : Handle} {r : Station} {entries : List RosterEntry}
    (rostered : s.Rostered t h r entries) : s.Aside t where
  map := by rw [rostered.frame]; exact ⟨rfl, rfl⟩
  serials := by rw [rostered.frame]
  queue := by rw [rostered.frame]
  messages := by rw [rostered.frame]
  flags := rostered.flags

theorem changeIf_ne {α : Type} [DecidableEq α] (a b : α) : changeIf (a ≠ b) = if a = b then 0 else 1 := by
  unfold changeIf
  by_cases same : a = b <;> simp [same]

theorem changeIf_ne_or {α β : Type} [DecidableEq α] [DecidableEq β] (a b : α) (c d : β) :
    changeIf (a ≠ b || c ≠ d) = if a = b ∧ c = d then 0 else 1 := by
  unfold changeIf
  by_cases first : a = b <;> by_cases second : c = d <;> simp [first, second]

/-- The part an acceptance's later steps meet: the omitted group is gone (R103 step 1). -/
def State.withoutOmitted (s : State) (h : Handle) (a : Assembly) : State :=
  s.departed (s.omitted h a.entries) .departed

/-- The part with the entries under the relay (R103 steps 1 to 3). -/
def State.withEntries (s : State) (h : Handle) (r : Station) (a : Assembly) : State :=
  (s.withoutOmitted h a).rostered h r a.entries

section Acceptance

variable {s : State} {h : Handle} {r : Station} {a : Assembly}

/-- An acceptance, its steps named (R103). -/
theorem State.DirectoryLaw.acceptRoster_eq (law : s.DirectoryLaw) (h : Handle) (r : Station) (a : Assembly) :
    s.acceptRoster h r a =
      ((((s.withEntries h r a).acceptRelay h r a).tell h (.rosterOk a.generation (s.newEntries a.entries).length)).raise
        .roster).servicePasses (s.touching (s.omitted h a.entries)).length := by
  unfold State.withEntries State.rostered State.withoutOmitted
  rw [law.newEntries_departed]
  rfl

theorem State.DirectoryLaw.steady_acceptRoster (law : s.DirectoryLaw) (h : Handle) (r : Station) (a : Assembly) :
    ((s.withEntries h r a).acceptRelay h r a).Steady (s.acceptRoster h r a) := by
  rw [law.acceptRoster_eq]
  exact ((State.steady_tell ..).trans (State.steady_raise ..)).trans (State.steady_servicePasses ..)

/-- The laws of the Directory hold after an acceptance (R70, R103). -/
theorem State.DirectoryLaw.acceptRoster (law : s.DirectoryLaw) (here : s.station h = some r) (relay : r.kind = .relay)
    (top : r.via = none) (assembled : s.assembly h = some a) (accepted : s.rosterRefusal h r a = none) :
    (s.acceptRoster h r a).DirectoryLaw :=
  (State.meets_departed law here relay top assembled accepted).law_acceptRelay.of_same
    (law.steady_acceptRoster h r a).sameDirectory

theorem State.aside_acceptRelay (s : State) (h : Handle) (r : Station) (a : Assembly) : s.Aside (s.acceptRelay h r a) :=
  .of_unchanged

theorem State.DirectoryLaw.cleared_acceptRoster (law : s.DirectoryLaw)
    (meets : (s.withoutOmitted h a).Meets h r a.entries) :
    s.Cleared (s.acceptRoster h r a) (s.omitted h a.entries) := by
  have aside : (s.withoutOmitted h a).Aside
      ((((s.withEntries h r a).acceptRelay h r a).tell h (.rosterOk a.generation (s.newEntries a.entries).length)).raise
        .roster) :=
    (((meets.rostered.aside).trans (State.aside_acceptRelay ..)).trans (State.aside_tell ..)).trans (State.aside_raise ..)
  rw [State.withEntries, State.rostered, State.withoutOmitted, law.newEntries_departed] at aside
  unfold State.acceptRoster
  exact s.cleared_cascade _ .departed aside

/-- Records other than the relay's are as steps 1 to 3 leave them. -/
theorem State.DirectoryLaw.station_acceptRoster_of_ne (law : s.DirectoryLaw) {k : Handle} (other : k ≠ h) :
    ((s.acceptRoster h r a).station k).map Station.settledFields =
      ((s.withEntries h r a).station k).map Station.settledFields := by
  rw [(law.steady_acceptRoster h r a).records, State.station_acceptRelay, if_neg (Ne.symm other)]

/-- A record of step 3 stands after the acceptance, but for SYNC OWED. -/
theorem State.DirectoryLaw.station_of_withEntries (law : s.DirectoryLaw) {k : Handle} {y : Station} (other : k ≠ h)
    (there : (s.withEntries h r a).station k = some y) :
    ∃ x, (s.acceptRoster h r a).station k = some x ∧ x.settledFields = y.settledFields := by
  have alike := law.station_acceptRoster_of_ne (r := r) (a := a) other
  rw [there, Option.map_some, Option.map_eq_some_iff] at alike
  exact alike

/-- A record behind the relay stands at another handle than the relay's (R70). -/
theorem State.Meets.ne_of_via {s : State} {entries : List RosterEntry} (meets : s.Meets h r entries) {k : Handle} {y : Station}
    (there : (s.rostered h r entries).station k = some y) (under : y.via = some h) : k ≠ h := by
  rintro rfl
  obtain ⟨x, here, settled⟩ := meets.here
  obtain ⟨-, -, -, noVia, -⟩ := Station.alike_of_settledFields settled
  have stays := meets.rostered.stays k x here
  rw [there, Option.some.injEq] at stays
  rw [stays, Station.enteredAll_via, noVia, meets.top] at under
  cases under

theorem State.rosterRecord_withoutOmitted (s : State) (h : Handle) (r : Station) (a : Assembly) (e : RosterEntry) :
    (s.withoutOmitted h a).rosterRecord h r e = s.rosterRecord h r e := by
  have policy := (s.untouched_departed (s.omitted h a.entries) .departed).2.1
  unfold State.rosterRecord State.classPolicy State.withoutOmitted
  rw [policy]

/-- Each entry's record after the acceptance: new as R103 makes it, or kept at its handle as reported. -/
theorem State.DirectoryLaw.entry_acceptRoster (law : s.DirectoryLaw) (meets : (s.withoutOmitted h a).Meets h r a.entries)
    {e : RosterEntry} (listed : e ∈ a.entries) :
    ∃ k x, (s.acceptRoster h r a).station k = some x ∧ x.number = e.number ∧
      (s.lookup e.number = none → x.settledFields = s.rosterRecord h r e) ∧
      ∀ k' x', s.lookup e.number = some (k', x') →
        k = k' ∧ x.settledFields = { x'.settledFields with kind := e.kind, tier := e.tier.val } := by
  have rostered := meets.rostered
  have same := law.lookup_departed (h := h) a.entries listed
  cases known : s.lookup e.number with
  | none =>
    rw [known, Option.map_none, Option.map_eq_none_iff] at same
    obtain ⟨k, there⟩ := rostered.enters e (List.mem_filter.mpr ⟨listed, Option.isNone_iff_eq_none.mpr same⟩)
    rw [s.rosterRecord_withoutOmitted] at there
    obtain ⟨x, stands, alike⟩ := law.station_of_withEntries (meets.ne_of_via there rfl) there
    exact ⟨k, x, stands, (Station.alike_of_settledFields alike).1, fun _ => alike, nofun⟩
  | some p =>
    obtain ⟨m, z⟩ := p
    rw [known, Option.map_some, Option.map_eq_some_iff] at same
    obtain ⟨⟨k, y⟩, found, pair⟩ := same
    obtain ⟨rfl, settled⟩ : k = m ∧ y.settledFields = z.settledFields := by simpa using pair
    obtain ⟨here, number⟩ := State.station_of_lookup _ _ k y found
    have under : y.via = some h := meets.under e listed k y here number
    have there := rostered.stays k y here
    rw [Station.enteredAll_of_mem meets.once listed number under] at there
    obtain ⟨x, stands, alike⟩ := law.station_of_withEntries (meets.ne_of_via there under) there
    refine ⟨k, x, stands, (Station.alike_of_settledFields alike).1.trans number, nofun, fun k' x' other => ?_⟩
    obtain ⟨rfl, rfl⟩ : k = k' ∧ z = x' := by simpa using other
    exact ⟨rfl, alike.trans (congrArg (fun y : Station => { y with kind := e.kind, tier := e.tier.val }) settled)⟩

/-- A record that corrects an entry in the part without the omitted group does in the part before (R104). -/
theorem State.DirectoryLaw.corrects_withoutOmitted (law : s.DirectoryLaw)
    (meets : (s.withoutOmitted h a).Meets h r a.entries) {e : RosterEntry} (listed : e ∈ a.entries) :
    (s.withoutOmitted h a).corrects h e =
      (s.lookup e.number).any fun p => p.2.kind ≠ e.kind || p.2.tier ≠ e.tier.val := by
  have same := law.lookup_departed (h := h) a.entries listed
  unfold State.corrects
  change ((s.withoutOmitted h a).lookup e.number).map _ = _ at same
  cases found : (s.withoutOmitted h a).lookup e.number with
  | none =>
    rw [found, Option.map_none, eq_comm, Option.map_eq_none_iff] at same
    rw [same]
    rfl
  | some p =>
    rw [found, Option.map_some, eq_comm, Option.map_eq_some_iff] at same
    obtain ⟨q, known, pair⟩ := same
    obtain ⟨-, settled⟩ : q.1 = p.1 ∧ q.2.settledFields = p.2.settledFields := by simpa using pair
    obtain ⟨-, kind, -, -, tier⟩ := Station.alike_of_settledFields settled
    obtain ⟨here, number⟩ := State.station_of_lookup _ _ p.1 p.2 found
    simp [known, kind, tier, meets.under e listed p.1 p.2 here number]

theorem State.tell_eq_offer {s : State} {h : Handle} {n : StationNumber} (number : (s.station h).map Station.number = some n)
    (body : DownBody) : s.tell h body = s.offer ⟨n, body⟩ := by
  obtain ⟨x, here, rfl⟩ := Option.map_eq_some_iff.mp number
  exact State.tell_of_station here body

/-- The relay's record before step 4, but for SYNC OWED. -/
theorem State.Meets.relay_rostered {s : State} {entries : List RosterEntry} (meets : s.Meets h r entries) :
    ∃ x, (s.rostered h r entries).station h = some x ∧ x.settledFields = r.settledFields := by
  obtain ⟨x, here, settled⟩ := meets.here
  obtain ⟨-, -, -, noVia, -⟩ := Station.alike_of_settledFields settled
  refine ⟨x, ?_, settled⟩
  rw [meets.rostered.stays h x here, Station.enteredAll_of_elsewhere (by simp [noVia, meets.top])]

/-- ROSTER_OK is held, or SYNC is pending (R103, R147). -/
theorem State.DirectoryLaw.held_or_sync_acceptRoster (law : s.DirectoryLaw)
    (meets : (s.withoutOmitted h a).Meets h r a.entries) :
    ⟨r.number, .rosterOk a.generation (s.newEntries a.entries).length⟩ ∈ (s.acceptRoster h r a).downlink.held ∨
      (s.acceptRoster h r a).pendingFlag .sync = true := by
  obtain ⟨x, here, settled⟩ := meets.relay_rostered
  have relay : (((s.withEntries h r a).acceptRelay h r a).station h).map Station.number = some r.number := by
    rw [State.station_acceptRelay, if_pos rfl, State.withEntries, here, ← (Station.alike_of_settledFields settled).1]
    rfl
  let answered := ((s.withEntries h r a).acceptRelay h r a).offer
    ⟨r.number, .rosterOk a.generation (s.newEntries a.entries).length⟩
  have later : answered.Steady (s.acceptRoster h r a) := by
    rw [law.acceptRoster_eq, State.tell_eq_offer relay]
    exact (answered.steady_raise .roster).trans (State.steady_servicePasses ..)
  exact (State.held_or_sync_offer ..).imp (later.messages.subset ·) (later.flags .sync)

theorem State.DirectoryLaw.flags_acceptRoster (law : s.DirectoryLaw) (h : Handle) (r : Station) (a : Assembly) :
    (s.acceptRoster h r a).pendingFlag .roster = true := by
  rw [law.acceptRoster_eq]
  exact (State.steady_servicePasses ..).flags .roster (State.pendingFlag_raise_self ..)

/-- The relay's record after an acceptance (R103 step 4). -/
theorem State.DirectoryLaw.relay_acceptRoster (law : s.DirectoryLaw) (meets : (s.withoutOmitted h a).Meets h r a.entries) :
    ((s.acceptRoster h r a).station h).map Station.settledFields =
      some (r.settledFields.accepted ((s.withEntries h r a).rosterOf a.entries) a.generation) := by
  obtain ⟨x, here, settled⟩ := meets.relay_rostered
  rw [(law.steady_acceptRoster h r a).records, State.station_acceptRelay, if_pos rfl, State.withEntries, here, ← settled]
  rfl

/-- Every number stands where steps 1 to 3 leave it. -/
theorem State.DirectoryLaw.number_acceptRoster (law : s.DirectoryLaw) (h k : Handle) (r : Station) (a : Assembly) :
    ((s.acceptRoster h r a).station k).map Station.number = ((s.withEntries h r a).station k).map Station.number := by
  have alike := congrArg (Option.map Station.number) ((law.steady_acceptRoster h r a).records k)
  rw [State.station_acceptRelay, Option.map_map, Option.map_map] at alike
  refine alike.trans ?_
  split
  · rename_i same
    rw [← same, Option.map_map]
    rfl
  · rfl

theorem State.DirectoryLaw.assembly_acceptRoster (law : s.DirectoryLaw) (meets : (s.withoutOmitted h a).Meets h r a.entries)
    (k : Handle) : (s.acceptRoster h r a).assembly k =
      if h = k then none else if k ∈ s.omitted h a.entries then none else s.assembly k := by
  have same : (s.withEntries h r a).assemblies = (s.withoutOmitted h a).assemblies := by
    rw [State.withEntries, meets.rostered.frame]
  rw [← s.assembly_departed (s.omitted h a.entries) .departed, State.assembly,
    (law.steady_acceptRoster h r a).assemblies, State.acceptRelay_frame, same]
  exact State.assembly_setAssembly (s.withoutOmitted h a) h k none

theorem State.DirectoryLaw.untouched_acceptRoster (law : s.DirectoryLaw)
    (meets : (s.withoutOmitted h a).Meets h r a.entries) :
    (s.acceptRoster h r a).denyList = s.denyList ∧ (s.acceptRoster h r a).policy = s.policy ∧
      (s.acceptRoster h r a).highway = s.highway ∧ (s.acceptRoster h r a).port = s.port := by
  obtain ⟨denyList, policy, -, -, -, -, -, highway, port, -⟩ := (law.steady_acceptRoster h r a).untouched
  obtain ⟨denyList', policy', -, -, -, -, -, highway', port', -⟩ := s.untouched_departed (s.omitted h a.entries) .departed
  have frame : s.withEntries h r a = _ := meets.rostered.frame
  rw [State.acceptRelay_frame, frame] at denyList policy highway port
  exact ⟨denyList.trans denyList', policy.trans policy', highway.trans highway', port.trans port'⟩

/-- What is behind the relay after an acceptance is reported. -/
theorem State.DirectoryLaw.reported_acceptRoster (law : s.DirectoryLaw) (meets : (s.withoutOmitted h a).Meets h r a.entries)
    {k : Handle} {y : Station} (there : (s.acceptRoster h r a).station k = some y) (under : y.via = some h) :
    y.number ∈ a.entries.map RosterEntry.number := by
  have alike := (law.steady_acceptRoster h r a).records k
  rw [there, Option.map_some, eq_comm, Option.map_eq_some_iff] at alike
  obtain ⟨z, before, settled⟩ := alike
  obtain ⟨number, -, -, via, -⟩ := Station.alike_of_settledFields settled
  rw [← number]
  obtain ⟨x, old, number, -, via'⟩ | ⟨e, listed, number, -, -⟩ := meets.station_acceptRelay before
  · exact number ▸ meets.reported k x old (via'.symm.trans (via.trans under))
  · exact number ▸ List.mem_map_of_mem listed

/-- A record that is neither the relay's nor behind it is left as it is, but for SYNC OWED. -/
theorem State.DirectoryLaw.station_acceptRoster_of_elsewhere (law : s.DirectoryLaw)
    (meets : (s.withoutOmitted h a).Meets h r a.entries) {k : Handle} {x : Station} (here : s.station k = some x)
    (other : k ≠ h) (elsewhere : x.via ≠ some h) :
    ((s.acceptRoster h r a).station k).map Station.settledFields = some x.settledFields := by
  have stays : k ∉ s.omitted h a.entries := by
    rw [State.mem_omitted_iff]
    rintro ⟨q, same, under, -⟩
    cases here ▸ same
    exact elsewhere under
  obtain ⟨y, there, settled⟩ := State.station_departed_of_stays (reason := .departed) here stays
  have elsewhere' : y.via ≠ some h := by rwa [(Station.alike_of_settledFields settled).2.2.2.1]
  rw [law.station_acceptRoster_of_ne other, State.withEntries, meets.rostered.stays k y there,
    Station.enteredAll_of_elsewhere elsewhere', Option.map_some, settled]

theorem State.DirectoryLaw.joined_acceptRoster (law : s.DirectoryLaw) (meets : (s.withoutOmitted h a).Meets h r a.entries)
    (some : s.newEntries a.entries ≠ []) : (s.acceptRoster h r a).pendingFlag .joined = true := by
  refine (law.steady_acceptRoster h r a).flags .joined (meets.rostered.joined ?_)
  rwa [State.withoutOmitted, law.newEntries_departed]

/-- The count of an acceptance's changes (R104). -/
theorem State.DirectoryLaw.directoryChanges_acceptRoster (law : s.DirectoryLaw)
    (meets : (s.withoutOmitted h a).Meets h r a.entries) :
    let roster := (s.withEntries h r a).rosterOf a.entries
    let changed := a.entries.filter fun e =>
      (s.lookup e.number).any fun p => p.2.kind ≠ e.kind || p.2.tier ≠ e.tier.val
    (s.acceptRoster h r a).directoryChanges = s.directoryChanges + BitVec.ofNat 16
      ((s.omitted h a.entries).length + changed.length + (s.newEntries a.entries).length +
        (if r.state = .admitted then 0 else 1) +
          if r.roster = some roster ∧ r.generation = some a.generation then 0 else 1) := by
  intro roster changed
  have corrected : a.entries.filter ((s.withoutOmitted h a).corrects h) = changed :=
    List.filter_congr fun e listed => law.corrects_withoutOmitted meets listed
  have fresh : (s.withoutOmitted h a).newEntries a.entries = s.newEntries a.entries := law.newEntries_departed a.entries
  have gone : (s.withoutOmitted h a).directoryChanges = _ := s.directoryChanges_departed (s.omitted h a.entries) .departed
  have entered : (s.withEntries h r a).directoryChanges =
      (s.withoutOmitted h a).directoryChanges + BitVec.ofNat 16 (changed.length + (s.newEntries a.entries).length) := by
    rw [← corrected, ← fresh]
    exact congrArg State.directoryChanges meets.rostered.frame
  have relay : ((s.withEntries h r a).acceptRelay h r a).directoryChanges =
      (s.withEntries h r a).directoryChanges + BitVec.ofNat 16 ((if r.state = .admitted then 0 else 1) +
        if r.roster = some roster ∧ r.generation = some a.generation then 0 else 1) := by
    rw [← changeIf_ne, ← changeIf_ne_or]
    rfl
  rw [(law.steady_acceptRoster h r a).directoryChanges, relay, entered, gone]
  simp only [BitVec.ofNat_add, BitVec.add_assoc]

end Acceptance

/-- Settles O36: the omitted group leaves by the cascade, and what the statement says of the directory is read off the steps
that follow; the answer and the passes are steady. -/
theorem acceptanceReplacesTheRoster : Obligations.AcceptanceReplacesTheRoster := by
  intro s h r a law here relay top assembled accepted t numbers gone fresh changed
  have omitted : s.omitted h a.entries = gone := List.filter_congr fun k _ => by rw [List.contains_eq_mem, decide_not]
  have meets : (s.withoutOmitted h a).Meets h r a.entries :=
    State.meets_departed law here relay top assembled accepted
  have cleared : s.Cleared t gone := omitted ▸ law.cleared_acceptRoster meets
  have assembly (k : Handle) : t.assembly k = if h = k then none else if k ∈ gone then none else s.assembly k :=
    omitted ▸ law.assembly_acceptRoster meets k
  refine ⟨?_, ?_, fun k other stays => ?_, ⟨(s.withEntries h r a).rosterOf a.entries, law.relay_acceptRoster meets, ?_, ?_⟩,
    law.held_or_sync_acceptRoster meets, cleared.messages, law.joined_acceptRoster meets,
    fun k y there under => law.reported_acceptRoster meets there under, fun e listed => law.entry_acceptRoster meets listed,
    fun k x stands other elsewhere => law.station_acceptRoster_of_elsewhere meets stands other elsewhere, cleared.noParty,
    cleared.noEntry, cleared.connections, law.flags_acceptRoster h r a, cleared.left, law.untouched_acceptRoster meets⟩
  · rw [← omitted]
    rfl
  · rw [assembly, if_pos rfl]
  · rw [assembly, if_neg (Ne.symm other), if_neg stays]
  · have found (e : RosterEntry) (listed : e ∈ a.entries) : (s.withEntries h r a).lookup e.number ≠ none := by
      obtain ⟨k, y, -, -, -, found⟩ := meets.lookup_rostered listed
      exact fun none => nomatch found.symm.trans none
    rw [List.map_congr_left fun k _ => law.number_acceptRoster h k r a, State.numbers_rosterOf found, List.map_map]
    rfl
  · exact omitted ▸ law.directoryChanges_acceptRoster meets

end Sys2Proof.Machine
end

section
/-! Every command keeps the laws of the Directory (R70). -/

namespace Sys2Proof.Machine

set_option Elab.async false -- one proof at a time: waiting proofs would hold a thread each

/-! ### Rosters to their end (R98 to R105) -/

theorem State.DirectoryLaw.endRoster {s : State} (law : s.DirectoryLaw) {h : Handle} {r : Station}
    (here : s.station h = some r) (top : r.topRelay = true) (generation : Byte) :
    (s.endRoster generation h r).DirectoryLaw := by
  obtain ⟨relay, noVia⟩ := r.topRelay_iff.mp top
  unfold State.endRoster
  split
  · exact law.of_same (s.sameDirectory_rejectRoster ..)
  rename_i a assembled
  split
  · exact (law.dropAssembly h).of_same (State.sameDirectory_rejectRoster ..)
  split
  · rename_i accepted
    exact law.acceptRoster here relay noVia assembled accepted
  · refine State.DirectoryLaw.rejectContent ?_ ..
    split
    · exact law.of_same (s.sameDirectory_hitEntries _)
    · exact law

/-! ### Events and messages -/

theorem State.DirectoryLaw.event {s : State} (law : s.DirectoryLaw) {f : State → State}
    (work : ∀ t : State, t.DirectoryLaw → (f t).DirectoryLaw) : (s.event f).DirectoryLaw :=
  s.event_keeps State.DirectoryLaw (fun _ => State.DirectoryLaw.takeDue) f work law

theorem State.DirectoryLaw.lineEvent {s : State} (law : s.DirectoryLaw) (change : Pins → Pins) {f : State → State}
    (work : ∀ t : State, t.DirectoryLaw → (f t).DirectoryLaw) : (s.lineEvent change f).DirectoryLaw :=
  s.lineEvent_keeps State.DirectoryLaw (fun _ => State.DirectoryLaw.takeDue) (fun _ _ kept => kept.of_same .of_unchanged)
    change f work law

theorem State.DirectoryLaw.message {s : State} (law : s.DirectoryLaw) (command : Instr) {f : State → State}
    (work : ∀ t : State, t.DirectoryLaw → (f t).DirectoryLaw) : (s.message command f).DirectoryLaw :=
  s.message_keeps State.DirectoryLaw (fun _ => State.DirectoryLaw.takeDue) (fun _ _ kept => kept.of_same .of_unchanged)
    command f work law

/-- A station message other than ATTACH, its source with a record (R74). -/
theorem State.DirectoryLaw.sourcedMessage {s : State} (law : s.DirectoryLaw) (command : Instr) (drop : Drop)
    (source : StationNumber) (tag : Option Tag) (reference : Option Reference) {owner : Handle → Station → State → State}
    (work : ∀ (t : State) (h : Handle) (r : Station), t.DirectoryLaw → t.station h = some r → (owner h r t).DirectoryLaw) :
    (s.message command fun t => t.resolve drop source tag reference owner).DirectoryLaw := by
  refine law.message command fun t kept => ?_
  unfold State.resolve
  split
  · exact kept.of_same (t.sameDirectory_offer _)
  rename_i h r found
  split
  · exact work t h r kept (t.station_of_lookup source h r found).1
  · exact kept.of_same (t.sameDirectory_offer _)

/-- A station message that leaves the directory as it is. -/
theorem State.DirectoryLaw.plainMessage {s : State} (law : s.DirectoryLaw) (command : Instr) (drop : Drop)
    (source : StationNumber) (tag : Option Tag) (reference : Option Reference) {owner : Handle → Station → State → State}
    (same : ∀ (t : State) (h : Handle) (r : Station), t.SameDirectory (owner h r t)) :
    (s.message command fun t => t.resolve drop source tag reference owner).DirectoryLaw :=
  law.sourcedMessage _ _ _ _ _ fun t h r kept _ => kept.of_same (same t h r)

/-- A station message that names a reference leaves the directory as it is (R24). -/
theorem State.DirectoryLaw.referenceMessage {s : State} (law : s.DirectoryLaw) (command : Instr) (drop : Drop)
    (source : StationNumber) (tag : Option Tag) (reference : Reference) {f : Connection → Role → Handle → State → State}
    (same : ∀ (t : State) (c : Connection) (role : Role) (h : Handle), t.SameDirectory (f c role h t)) :
    (s.message command fun t => t.resolve drop source tag (some reference) (State.onReference reference f)).DirectoryLaw :=
  law.plainMessage _ _ _ _ _ fun t h r =>
    t.onReference_keeps t.SameDirectory (fun u k body before => before.trans (u.sameDirectory_tell k body)) reference f
      (fun c role k _ => same t c role k) h r (State.SameDirectory.refl t)

/-- A roster message from a top relay (R92). -/
theorem State.DirectoryLaw.rosterMessage {s : State} (law : s.DirectoryLaw) (command : Instr) (drop : Drop)
    (source : StationNumber) {f : Handle → Station → State → State}
    (work : ∀ (t : State) (h : Handle) (r : Station), t.DirectoryLaw → t.station h = some r → r.topRelay = true →
      (f h r t).DirectoryLaw) :
    (s.message command fun t => t.resolve drop source none none (State.fromTopRelay f)).DirectoryLaw :=
  law.sourcedMessage _ _ _ _ _ fun t h r kept here => kept.fromTopRelay (work t h r kept here)

/-! ### Host commands -/

theorem State.DirectoryLaw.hostCommand {s : State} (law : s.DirectoryLaw) (code : Byte) {take : State → State}
    (work : ∀ t : State, t.DirectoryLaw → (take t).DirectoryLaw) : (s.hostCommand code take).DirectoryLaw :=
  s.hostCommand_keeps State.DirectoryLaw (fun _ => State.DirectoryLaw.takeDue)
    (fun t _ _ kept => kept.of_same (t.sameDirectory_firstByte ..)) code take work law

theorem State.DirectoryLaw.runCommand {s : State} (law : s.DirectoryLaw) (code : Byte) {work : State → Work}
    (done : ∀ t : State, t.DirectoryLaw → (work t).part.DirectoryLaw) :
    (s.hostCommand code (State.runCommand work)).DirectoryLaw :=
  law.hostCommand code fun t kept => (done t kept).of_same .of_unchanged

/-- A command that leaves the directory as it is. -/
theorem State.DirectoryLaw.plainCommand {s : State} (law : s.DirectoryLaw) (code : Byte) {work : State → Work}
    (same : ∀ t : State, t.SameDirectory (work t).part) : (s.hostCommand code (State.runCommand work)).DirectoryLaw :=
  law.runCommand code fun t kept => kept.of_same (same t)

/-- A command that reads changes no record. -/
theorem State.DirectoryLaw.readCommand {s : State} (law : s.DirectoryLaw) (code : Byte) {work : State → Work}
    (reads : ∀ t, (work t).part = t) : (s.hostCommand code (State.runCommand work)).DirectoryLaw :=
  law.plainCommand code fun t => by rw [reads]; exact State.SameDirectory.refl t

/-! ### Full reset, CLOSE and the frame start -/

/-- The directory of full reset meets the laws, whatever is listed: it has no record (R189). -/
theorem State.directoryLaw_of_reset {s : State} (stations : s.stations = State.reset.stations)
    (assemblies : s.assemblies = State.reset.assemblies) : s.DirectoryLaw := by
  have empty {h : Handle} {x : Station} (there : s.station h = some x) : False := by
    simp [State.station, stations, State.reset] at there
  exact State.directoryLaw_reset.of_part (fun _ _ there => (empty there).elim) (fun _ _ _ there => (empty there).elim)
    (fun _ _ there => (empty there).elim) fun h a there =>
      State.directoryLaw_reset.declared h a (by rwa [State.assembly, assemblies] at there)

theorem State.directoryLaw_enterReset (s : State) (h : Hold) : (s.enterReset h).DirectoryLaw :=
  State.directoryLaw_of_reset rfl rfl

theorem State.directoryLaw_release_startFrame (s : State) : s.release.startFrame.DirectoryLaw :=
  have released : s.release.DirectoryLaw := State.directoryLaw_of_reset rfl rfl
  released.of_same (State.sameDirectory_startFrame _)

theorem State.directoryLaw_closeWork (s : State) : s.closeWork.part.DirectoryLaw := by
  simp only [State.closeWork, State.done, State.closeHighway]
  rw [State.raiseIf_eq, State.raiseIf_eq]
  exact State.directoryLaw_of_reset rfl rfl

theorem State.DirectoryLaw.endCause {s : State} (law : s.DirectoryLaw) (left : Hold) : (s.endCause left).DirectoryLaw := by
  unfold State.endCause
  split
  · exact law.of_same .of_unchanged
  · exact s.directoryLaw_release_startFrame

theorem State.DirectoryLaw.finishFrame {s : State} (law : s.DirectoryLaw) : s.finishFrame.DirectoryLaw := by
  have departed : (if s.settled.departureDue then s.settled.depart else s.settled).DirectoryLaw := by
    split
    · exact law.settled.of_same (State.sameDirectory_depart _)
    · exact law.settled
  have guarded := departed.of_same (State.sameDirectory_takeOwedGuardEnd _)
  have leased := (guarded.of_same (State.sameDirectory_takeOwedLeaseWalk _)).settled
  have queued := (leased.of_same (State.sameDirectory_takeOwedQueueWalk _)).settled
  exact (queued.of_same (State.sameDirectory_takeOwedRosterWalk _)).settled

/-! ### The laws after every step -/

/-- Every command keeps the laws of the Directory. -/
theorem State.DirectoryLaw.exec {s t : State} (law : s.DirectoryLaw) (c : Instr) (answered : exec c s = .next t) :
    t.DirectoryLaw := by
  cases c <;> cases answered
  case powerUp => exact s.directoryLaw_enterReset _
  case rstLow => exact s.directoryLaw_enterReset _
  case rstHigh =>
    split
    · exact law.endCause _
    · exact law
  case resetRelease =>
    split
    · exact law.endCause _
    split
    · exact s.directoryLaw_release_startFrame
    · exact law
  case frameStart =>
    split
    · exact law.finishFrame.of_same (State.sameDirectory_startFrame _)
    split
    · exact law
    · exact s.directoryLaw_release_startFrame
  case uplinkGrant drq =>
    refine law.lineEvent _ fun u kept => ?_
    split
    · exact kept.of_same u.sameDirectory_considerGrant
    · exact kept
  case uplinkHeader word =>
    refine law.event fun u kept => ?_
    split
    · split
      · exact kept.of_same (u.sameDirectory_judgeHeader ..)
      · exact kept
    · exact kept
    · exact kept
  case uplinkWord word =>
    refine law.event fun u kept => ?_
    split
    · split
      · exact kept.of_same (u.sameDirectory_takeWord ..)
      · exact kept
    · exact kept
    · exact kept
  case drqFall drop =>
    refine law.lineEvent _ fun u kept => ?_
    split
    · exact kept.of_same (u.sameDirectory_closeWindow_makeNak ..)
    · exact kept
  case dprFall drop =>
    refine law.lineEvent _ fun u kept => ?_
    split
    · exact kept.of_same u.sameDirectory_closeWindow
    · exact kept
  case dprRise drop => exact law.lineEvent _ fun _ kept => kept
  case presenceLoss drop => exact law.lineEvent _ fun _ kept => kept.losePresence drop
  case messageDeparture =>
    refine law.event fun u kept => ?_
    split
    · exact kept.of_same u.sameDirectory_depart
    · exact kept
  case attach drop source kind cls => exact law.message _ fun _ kept => kept.takeAttach ..
  case detach drop source => exact law.sourcedMessage _ _ _ _ _ fun _ _ _ kept here => kept.takeDetach here
  case request drop source peer cls contiguous width tag =>
    exact law.sourcedMessage _ _ _ _ _ fun t _ _ kept here => kept.of_same (t.sameDirectory_takeRequest ..)
  case accept drop source reference =>
    exact law.referenceMessage _ _ _ _ _ fun t => t.sameDirectory_takeAccept reference
  case decline drop source reference =>
    exact law.referenceMessage _ _ _ _ _ fun t => t.sameDirectory_takeDecline reference
  case renew drop source reference =>
    exact law.referenceMessage _ _ _ _ _ fun t => t.sameDirectory_takeRenew reference
  case release drop source reference =>
    exact law.referenceMessage _ _ _ _ _ fun t => t.sameDirectory_takeRelease reference
  case query drop source => exact law.plainMessage _ _ _ _ _ fun t => t.sameDirectory_takeQuery
  case cancel drop source tag => exact law.plainMessage _ _ _ _ _ fun t => t.sameDirectory_takeCancel tag
  case rosterBegin drop source generation count depth depthExceeded countExceeded =>
    exact law.rosterMessage _ _ _ fun _ h r kept _ _ => kept.beginRoster _ (Nat.le_of_lt_succ count.isLt) _ _ _ h r
  case rosterPart drop source partIndex entries =>
    exact law.rosterMessage _ _ _ fun _ h r kept _ _ => kept.partRoster _ _ h r
  case rosterEnd drop source generation =>
    exact law.rosterMessage _ _ _ fun _ _ _ kept here top => kept.endRoster here top generation
  case guardEnd => exact law.event fun u kept => kept.of_same u.sameDirectory_takeOwedGuardEnd
  case leaseCountdownWalk => exact law.event fun u kept => kept.of_same u.sameDirectory_takeOwedLeaseWalk
  case queueDeadlineWalk => exact law.event fun u kept => kept.of_same u.sameDirectory_takeOwedQueueWalk
  case rosterDeadlineWalk => exact law.event fun u kept => kept.of_same u.sameDirectory_takeOwedRosterWalk
  case leaseExpiry | answerExpiry | queueTimeout | rosterDeadlineExpiry =>
    split
    · exact law.takeDue
    · exact law
  case spiReadCapture address length =>
    have begun := (law.settled.of_same (t := s.settled.select) .of_unchanged).of_same
      (State.sameDirectory_takeAddress _ address)
    dsimp only
    split
    · exact begun.of_same .of_unchanged
    · exact begun
  case registerWrite event value =>
    split
    · exact law.settled.of_same .of_unchanged
    · exact law.settled.of_same (State.sameDirectory_takeAddress ..)
    · exact law.settled.of_same (State.sameDirectory_dataByte ..)
    · exact law.settled.of_same .of_unchanged
    · exact law.settled.of_same (State.sameDirectory_firstByte ..)
  case notifyPendingWrite | notifyEnableWrite | commandCollision | unknownCommand =>
    exact law.settled.of_same (State.sameDirectory_firstByte ..)
  case commandCompletion =>
    refine law.event fun u kept => ?_
    split
    · exact kept.of_same .of_unchanged
    · exact kept
    · exact kept
  case openHighway => exact law.plainCommand _ State.sameDirectory_openWork
  case drain waitQueueFirst => exact law.plainCommand _ fun t => t.sameDirectory_drainWork waitQueueFirst
  case close => exact law.runCommand _ fun u _ => u.directoryLaw_closeWork
  case reset => exact law.hostCommand _ fun u _ => u.directoryLaw_enterReset _
  case denyAdd => exact law.runCommand _ fun _ => State.DirectoryLaw.denyAddWork
  case denyRemove => exact law.runCommand _ fun _ => State.DirectoryLaw.denyRemoveWork
  case evict => exact law.runCommand _ fun _ => State.DirectoryLaw.evictWork
  case setQuota => exact law.plainCommand _ State.sameDirectory_setQuotaWork
  case pin => exact law.plainCommand _ State.sameDirectory_pinWork
  case unpin => exact law.plainCommand _ State.sameDirectory_unpinWork
  case forceRelease => exact law.plainCommand _ State.sameDirectory_forceReleaseWork
  case setPolicy => exact law.plainCommand _ State.sameDirectory_setPolicyWork
  case setTiming => exact law.plainCommand _ State.sameDirectory_setTimingWork
  case readStation => exact law.readCommand _ State.part_readStationWork
  case readConnection => exact law.readCommand _ State.part_readConnectionWork
  case readSlots => exact law.readCommand _ State.part_readSlotsWork
  case readQueue => exact law.readCommand _ State.part_readQueueWork
  case readDeny => exact law.readCommand _ State.part_readDenyWork
  case readPolicy => exact law.readCommand _ State.part_readPolicyWork

/-- Settles O57: the queue of waiting commands is no part of the directory, and every command keeps its laws. -/
theorem directoryLawsHold : Obligations.DirectoryLawsHold :=
  keptByStep_of_exec State.DirectoryLaw (fun _ _ law => law.of_same .of_unchanged) fun c _ _ law => law.exec c

end Sys2Proof.Machine
end

section
/-! The Roster Checker's walk and its expiries (R107, R108). -/

namespace Sys2Proof.Machine

set_option Elab.async false -- one proof at a time: waiting proofs would hold a thread each

/-! ### One deadline -/

/-- A record the walk has passed at the parity: a top relay's deadline of the superframe that ends is lowered (R107). -/
def Station.lowered (p : Parity) (r : Station) : Station :=
  match r.deadline with
  | some d =>
    if r.topRelay = true ∧ d.superframe ≠ p then { r with deadline := some ⟨d.remaining - 1, p⟩ } else r
  | none => r

/-- The record's deadline reaches 0 when the walk passes it (R107). -/
def Station.RunsOut (p : Parity) (r : Station) : Prop :=
  r.topRelay = true ∧ ∃ d, r.deadline = some d ∧ d.superframe ≠ p ∧ d.remaining ≤ 1

/-- The records with those of a list passed by the walk. -/
def State.loweredTable (s : State) (list : List Handle) : Vector (Option Station) 48 :=
  Vector.ofFn fun k : Handle =>
    if k ∈ list then (s.station k).map (Station.lowered s.timer.parity) else s.station k

/-- The walk has passed the handles of a list. -/
def State.lowerRelays (list : List Handle) (s : State) : State := { s with stations := s.loweredTable list }

theorem State.station_lowerRelays (s : State) (list : List Handle) (k : Handle) :
    (s.lowerRelays list).station k =
      if k ∈ list then (s.station k).map (Station.lowered s.timer.parity) else s.station k := by
  simp [State.lowerRelays, State.loweredTable, State.station]

theorem stations_ext {x y : Vector (Option Station) 48} (same : ∀ k : Handle, x[k] = y[k]) : x = y :=
  Vector.ext fun k bound => same ⟨k, bound⟩

/-- A table that holds what the walk leaves is the table it leaves. -/
theorem State.lowerRelays_eq {s : State} {list : List Handle} {table : Vector (Option Station) 48}
    (holds : ∀ k : Handle, table[k] =
      if k ∈ list then (s.station k).map (Station.lowered s.timer.parity) else s.station k) :
    s.lowerRelays list = { s with stations := table } := by
  have same : s.loweredTable list = table := stations_ext fun k => (s.station_lowerRelays list k).trans (holds k).symm
  rw [State.lowerRelays, same]

theorem State.lowerRelays_singleton (s : State) (h : Handle) :
    s.lowerRelays [h] = s.setStation h ((s.station h).map (Station.lowered s.timer.parity)) := by
  refine State.lowerRelays_eq fun k => ?_
  refine (s.station_setStation h k _).trans ?_
  simp only [List.mem_singleton, eq_comm (a := k)]
  split
  · rename_i same
    rw [same]
  · rfl

/-- The walk passes the handles one after another. -/
theorem State.lowerRelays_cons {s : State} {h : Handle} {rest : List Handle} (once : h ∉ rest) :
    s.lowerRelays (h :: rest) = (s.lowerRelays [h]).lowerRelays rest := by
  have same : s.loweredTable (h :: rest) = (s.lowerRelays [h]).loweredTable rest := by
    refine stations_ext fun k => ?_
    change (s.lowerRelays (h :: rest)).station k = ((s.lowerRelays [h]).lowerRelays rest).station k
    rw [State.station_lowerRelays, State.station_lowerRelays, State.station_lowerRelays]
    by_cases first : k = h
    · simp [first, once]
    · simp [first, State.lowerRelays]
  calc s.lowerRelays (h :: rest)
    _ = { s with stations := s.loweredTable (h :: rest) } := rfl
    _ = { s with stations := (s.lowerRelays [h]).loweredTable rest } := by rw [same]
    _ = (s.lowerRelays [h]).lowerRelays rest := by simp only [State.lowerRelays]

/-! ### A step of the walk -/

/-- The walk passes a handle whose deadline does not run out there (R107). -/
theorem State.walkRelays_cons_of_stays {s : State} {h : Handle}
    (stays : ∀ r, s.station h = some r → ¬ r.RunsOut s.timer.parity) (rest : List Handle) :
    s.walkRelays (h :: rest) = (s.lowerRelays [h]).walkRelays rest := by
  have idle (same : (s.station h).map (Station.lowered s.timer.parity) = s.station h) : s.lowerRelays [h] = s := by
    rw [s.lowerRelays_singleton, same]
    simp [State.setStation, State.station]
  simp only [State.walkRelays]
  split
  · rename_i free
    rw [idle (by rw [free]; rfl)]
  rename_i r here
  split
  · rename_i untimed
    rw [idle (by simp [here, Station.lowered, untimed])]
  rename_i d timed
  by_cases counted : r.topRelay = true ∧ d.superframe ≠ s.timer.parity
  · have above : d.remaining - 1 ≠ 0 := fun zero => stays r here ⟨counted.1, d, timed, counted.2, by omega⟩
    rw [if_pos (by simp [State.counts, counted]), s.lowerRelays_singleton, here]
    simp only [State.lowered, above, if_false, Option.map_some, Station.lowered, timed, if_pos counted]
  · have kept : ¬ (r.topRelay && s.counts d) = true := by simpa [State.counts] using counted
    rw [if_neg kept, idle (by simp [here, Station.lowered, timed, if_neg counted])]

/-- The walk stands at a handle whose deadline runs out there (R107). -/
theorem State.walkRelays_cons_of_runsOut {s : State} {h : Handle} {r : Station} (here : s.station h = some r)
    (out : r.RunsOut s.timer.parity) (rest : List Handle) :
    s.walkRelays (h :: rest) = { s.lowerRelays [h] with due := some (.relay h) } := by
  obtain ⟨top, d, timed, counted, low⟩ := out
  have zero : d.remaining - 1 = 0 := by omega
  simp only [State.walkRelays, here, timed]
  rw [if_pos (by simp [State.counts, top, counted]), s.lowerRelays_singleton, here]
  simp only [State.lowered, zero, if_true, Option.map_some, Station.lowered, timed, if_pos (And.intro top counted)]

/-! ### The walk -/

/-- The walk with no deadline to run out (R107). -/
theorem State.walkRelays_of_stay {s : State} {list : List Handle} (distinct : list.Nodup)
    (stay : ∀ h ∈ list, ∀ r, s.station h = some r → ¬ r.RunsOut s.timer.parity) :
    s.walkRelays list = { s.lowerRelays list with due := none } := by
  induction list generalizing s with
  | nil =>
    have idle : s.lowerRelays [] = s := State.lowerRelays_eq fun k => by simp [State.station]
    rw [idle]
    rfl
  | cons h rest ih =>
    obtain ⟨once, distinct⟩ := List.nodup_cons.mp distinct
    rw [State.walkRelays_cons_of_stays (stay h (List.mem_cons_self ..)), State.lowerRelays_cons once]
    refine ih distinct fun k later r there => ?_
    have other : k ≠ h := fun same => once (same ▸ later)
    rw [State.station_lowerRelays, if_neg (by simpa using other)] at there
    exact stay k (List.mem_cons_of_mem h later) r there

/-- The walk stands at the first handle whose deadline runs out (R107). -/
theorem State.walkRelays_of_runsOut {s : State} {list : List Handle} (ascending : list.Pairwise (· < ·)) {h : Handle}
    {r : Station} (listed : h ∈ list) (here : s.station h = some r) (out : r.RunsOut s.timer.parity)
    (lower : ∀ k ∈ list, k < h → ∀ x, s.station k = some x → ¬ x.RunsOut s.timer.parity) :
    s.walkRelays list = { s.lowerRelays (list.filter (· ≤ h)) with due := some (.relay h) } := by
  induction list generalizing s with
  | nil => cases listed
  | cons k rest ih =>
    obtain ⟨above, ascending⟩ := List.pairwise_cons.mp ascending
    obtain rfl | later := List.mem_cons.mp listed
    · have none : rest.filter (· ≤ h) = [] := List.filter_eq_nil_iff.mpr fun m there => by simpa using above m there
      rw [List.filter_cons_of_pos (by simp), none]
      exact State.walkRelays_cons_of_runsOut here out rest
    · have before : k < h := above h later
      have once : k ∉ rest.filter (· ≤ h) := fun there => lt_irrefl k (above k (List.mem_filter.mp there).1)
      have unpassed (m : Handle) (other : m ≠ k) : (s.lowerRelays [k]).station m = s.station m := by
        rw [State.station_lowerRelays, if_neg (by simpa using other)]
      rw [State.walkRelays_cons_of_stays (lower k (List.mem_cons_self ..) before),
        List.filter_cons_of_pos (by simpa using before.le), State.lowerRelays_cons once]
      refine ih ascending later ((unpassed h before.ne').trans here) out fun m inRest less x there => ?_
      rw [unpassed m (above m inRest).ne'] at there
      exact lower m (List.mem_cons_of_mem k inRest) less x there

/-! ### An expiry (R108) -/

/-- A relay that leaves alone, party to nothing, is evicted by the deletion of its record and EVICTED (R83, R85). -/
theorem State.evictStation_of_alone {s : State} {h : Handle} {r : Station} (top : r.via = none)
    (nothingBehind : ∀ k x, s.station k = some x → x.via ≠ some h)
    (noParty : ∀ i c, s.connection i = some c → c.originator ≠ h ∧ c.answerer ≠ h)
    (noEntry : ∀ e ∈ s.waitQueue, e.source ≠ h ∧ e.peer ≠ h) (reason : Reason) :
    s.evictStation h r reason = (s.deleteStations [h]).offer ⟨r.number, .evicted reason⟩ := by
  have under : s.downstream h = [] := List.eq_nil_iff_forall_not_mem.mpr fun k below => by
    obtain ⟨x, there, via⟩ := (s.mem_downstream_iff h k).mp below
    exact nothingBehind k x there via
  have alone : s.removalSet h r = [h] := by rw [State.removalSet, under, ite_self]
  have untouched : s.touching [h] = [] := List.eq_nil_iff_forall_not_mem.mpr fun i =>
    State.not_mem_touching_of fun c here => by simpa using noParty i c here
  have walked : s.cutOff [h] .evicted = s := by
    have queue (list : List Entry) (within : ∀ e ∈ list, e ∈ s.waitQueue) :
        list.foldl (State.cutEntry [h]) s = s := by
      induction list with
      | nil => rfl
      | cons e rest ih =>
        obtain ⟨source, peer⟩ := noEntry e (within e (List.mem_cons_self ..))
        have stays : s.cutEntry [h] e = s := by simp [State.cutEntry, source, peer]
        rw [List.foldl_cons, stays, ih fun d later => within d (List.mem_cons_of_mem e later)]
    rw [State.cutOff, State.cutConnections, untouched]
    exact queue _ fun _ => id
  rw [State.evictStation, alone, State.cascade_eq, untouched, walked]
  simp only [State.shortenRoster, top]
  rfl

/-- Settles O41. -/
theorem rosterWalkLowersAndEvicts : Obligations.RosterWalkLowersAndEvicts := by
  refine ⟨fun s quiet => ?_, fun s none => ?_, fun s h r running due here _ top nothingBehind noParty noEntry => ?_⟩
  · intro lowered runsOut
    have walks : exec .rosterDeadlineWalk s = .next s.takeOwedRosterWalk := congrArg _ (quiet.event_eq _)
    refine ⟨fun idle => ?_, fun owed => ⟨fun stay => ?_, fun h r here out lower => ?_⟩⟩
    · rw [walks, State.takeOwedRosterWalk, if_neg (by simp [idle])]
    all_goals
      rw [walks, State.takeOwedRosterWalk, if_pos owed]
      let begun : State := { s with owed := { s.owed with rosterWalk := false } }
    · have walked : begun.walkRelays allHandles = _ :=
        State.walkRelays_of_stay (s := begun) (list := allHandles) (List.nodup_finRange 48) fun h _ => stay h
      have table : begun.lowerRelays allHandles =
          { begun with stations := s.stations.map fun r => r.map (Station.lowered s.timer.parity) } :=
        State.lowerRelays_eq fun k => by simp [allHandles, State.station, begun]
      rw [walked, table, ← quiet.2]
      rfl
    · have walked : begun.walkRelays allHandles = _ :=
        State.walkRelays_of_runsOut (s := begun) (list := allHandles) (List.pairwise_lt_finRange 48)
          (List.mem_finRange h) here out fun k _ less x => lower k x less
      have inside (k : Handle) : k ∈ allHandles.filter (· ≤ h) ↔ k.val ≤ h.val := by
        simp only [allHandles, List.mem_filter, List.mem_finRange, true_and, decide_eq_true_eq, Fin.le_def]
      have table : begun.lowerRelays (allHandles.filter (· ≤ h)) = { begun with
          stations := s.stations.mapIdx fun k r => if k ≤ h.val then r.map (Station.lowered s.timer.parity) else r } :=
        State.lowerRelays_eq fun k => by
          simp only [Fin.getElem_fin, Vector.getElem_mapIdx, inside]
          rfl
      rw [walked, table]
      rfl
  · simp [exec, execRosterDeadlineExpiry, State.relayDue, none]
  · have dueRelay : s.relayDue = true := by simp only [State.relayDue, due]
    have evicted := State.evictStation_of_alone top nothingBehind noParty noEntry .rosterTimeout
    have taken : s.takeDue = (s.evictStation h r .rosterTimeout).walkRelays (handlesAfter h) := by
      simp only [State.takeDue, due, State.takeRelayExpiry, State.expireRelay, here]
    have deleted : s.deleteStations [h] = { s with
        stations := s.stations.set h none
        assemblies := s.assemblies.set h none
        directoryChanges := s.directoryChanges + 1
        flags := s.flags ||| 0x2 } := rfl
    simp only [exec, execRosterDeadlineExpiry, running, dueRelay, and_self, if_true, taken, evicted, deleted]
    rfl

end Sys2Proof.Machine
end

section
/-! The restart of a tier-0 station (R79). -/

namespace Sys2Proof.Machine

set_option Elab.async false -- one proof at a time: waiting proofs would hold a thread each

/-! ### A departure reads and takes no message handed on -/

/-- Other messages are handed on. -/
def State.handing (list : List Instr) (s : State) : State := { s with handedOn := list }

/-- A step neither reads nor changes the messages handed on. -/
def Unheeding (f : State → State) : Prop := ∀ (list : List Instr) (s : State), f (s.handing list) = (f s).handing list

theorem Unheeding.comp {f g : State → State} (second : Unheeding g) (first : Unheeding f) : Unheeding fun s => g (f s) :=
  fun list s => (congrArg g (first list s)).trans (second list (f s))

theorem Unheeding.foldl {α : Type} {f : State → α → State} (each : ∀ a, Unheeding (f · a)) (l : List α) :
    Unheeding fun s => l.foldl f s := by
  intro list s
  induction l generalizing s with
  | nil => rfl
  | cons a rest ih => exact (congrArg (rest.foldl f) (each a list s)).trans (ih (f s a))

theorem unheeding_oweSync (n : StationNumber) : Unheeding (State.oweSync n) := by
  intro list s
  unfold State.oweSync
  rw [show (s.handing list).lookup n = s.lookup n from rfl]
  split
  · split <;> rfl
  · rfl

theorem unheeding_offer (m : DownMessage) : Unheeding (State.offer m) := by
  intro list s
  unfold State.offer
  rw [show (s.handing list).downlinkFree = s.downlinkFree from rfl]
  split
  · rfl
  · exact unheeding_oweSync m.destination list (s.raise .sync)

theorem unheeding_tell (h : Handle) (body : DownBody) : Unheeding (State.tell h body) := by
  intro list s
  unfold State.tell
  rw [show (s.handing list).station h = s.station h from rfl]
  split
  · exact unheeding_offer _ list s
  · rfl

theorem unheeding_tellOpt (h : Handle) (body : Option DownBody) : Unheeding (State.tellOpt h body) := by
  cases body with
  | none => exact fun _ _ => rfl
  | some b => exact unheeding_tell h b

theorem unheeding_raiseIf (b : State → Bool) (same : ∀ list s, b (State.handing list s) = b s) (f : Flag) :
    Unheeding fun s => s.raiseIf (b s) f := by
  intro list s
  simp only [same]
  cases b s <;> rfl

theorem unheeding_dropConnection (i : Index) (c : Connection) : Unheeding fun s => s.dropConnection i c := by
  have report : Unheeding State.reportIfEmpty := unheeding_raiseIf _ (fun _ _ => rfl) _
  intro list s
  change (s.handing list).dropConnection i c = (s.dropConnection i c).handing list
  unfold State.dropConnection
  split
  · exact report list (((s.endClaim i).raise .lease).forgetConnection i)
  · exact report list ((s.withdrawClaim i).forgetConnection i)

theorem unheeding_removeConnection (i : Index) (c : Connection) (a b : Option DownBody) :
    Unheeding (State.removeConnection i c a b) :=
  (unheeding_tellOpt _ _).comp ((unheeding_tellOpt _ _).comp (unheeding_dropConnection i c))

theorem unheeding_cutConnection (set : List Handle) (reason : Reason) (i : Index) :
    Unheeding (State.cutConnection set reason · i) := by
  intro list s
  change (s.handing list).cutConnection set reason i = (s.cutConnection set reason i).handing list
  unfold State.cutConnection
  rw [show (s.handing list).connection i = s.connection i from rfl]
  split
  · rfl
  · exact unheeding_removeConnection i _ _ _ list s

theorem unheeding_cutEntry (set : List Handle) (e : Entry) : Unheeding (State.cutEntry set · e) := by
  intro list s
  change (s.handing list).cutEntry set e = (s.cutEntry set e).handing list
  unfold State.cutEntry
  split
  · rfl
  split
  · exact unheeding_tell _ _ list (s.removeEntry e)
  · rfl

theorem unheeding_cutOff (set : List Handle) (reason : Reason) : Unheeding fun s => s.cutOff set reason := by
  have connections : Unheeding (State.cutConnections set reason) :=
    fun list s => Unheeding.foldl (unheeding_cutConnection set reason) (s.touching set) list s
  have entries : Unheeding (State.cutEntries set) :=
    fun list s => Unheeding.foldl (unheeding_cutEntry set) s.waitQueue list s
  exact entries.comp connections

theorem unheeding_deleteStations (set : List Handle) : Unheeding (State.deleteStations set) :=
  Unheeding.foldl (fun _ _ _ => rfl) set

theorem unheeding_place (i : Index) (c : Connection) : Unheeding (State.place i c) :=
  fun list s => unheeding_tell _ _ list ((s.reserveClaim i c.slotList).createConnection i c)

theorem unheeding_examine (e : Entry) : Unheeding (State.examine · e) := by
  intro list s
  change (s.handing list).examine e = (s.examine e).handing list
  unfold State.examine
  have room : (s.handing list).room e.contiguous e.width = s.room e.contiguous e.width := rfl
  have policy : (s.handing list).classPolicy e.cls = s.classPolicy e.cls := rfl
  have count (h : Handle) : (s.handing list).partyCount h = s.partyCount h := rfl
  have usage (h : Handle) : (s.handing list).usage h = s.usage h := rfl
  have station (h : Handle) : (s.handing list).station h = s.station h := rfl
  simp only [room, policy, count, usage, station]
  split
  · exact unheeding_tell _ _ list (s.removeEntry e)
  split
  · rfl
  split
  · rfl
  split
  · rfl
  · exact unheeding_place _ _ list (s.removeEntry e)

theorem unheeding_servicePass : Unheeding State.servicePass := by
  intro list s
  unfold State.servicePass
  rw [show (s.handing list).highway = s.highway from rfl]
  split
  · exact Unheeding.foldl unheeding_examine s.waitQueue list s
  · rfl

theorem unheeding_servicePasses (n : Nat) : Unheeding (State.servicePasses n) := by
  induction n with
  | zero => exact fun _ _ => rfl
  | succ n ih => exact ih.comp unheeding_servicePass

theorem unheeding_departWithSubtree (h : Handle) (r : Station) : Unheeding (State.departWithSubtree h r) := by
  intro list s
  have departs : Unheeding fun s => (s.cutOff (s.removalSet h r) .departed).deleteStations (s.removalSet h r) :=
    fun list s => (unheeding_deleteStations (s.removalSet h r)).comp (unheeding_cutOff (s.removalSet h r) .departed) list s
  change State.servicePasses _ _ = _
  exact ((unheeding_servicePasses (s.touching (s.removalSet h r)).length).comp departs) list s

/-! ### The restart (R79) -/

/-- The drop's tier-0 station attaches anew. -/
theorem State.restartOf_of_lookup {s : State} {n : StationNumber} {h : Handle} {r : Station}
    (found : s.lookup n = some (h, r)) {drop : Drop} (onDrop : r.drop = drop) (top : r.via = none) :
    s.restartOf drop n = some (h, r) := by
  simp [State.restartOf, found, onDrop, top]

/-- A restart passes the checks of R76 that an unknown number would pass before the search. -/
theorem State.Attachable.attachRefusal_of_restart {s : State} {n : StationNumber} (attachable : s.Attachable n) {drop : Drop}
    {p : Handle × Station} (restart : s.restartOf drop n = some p) : s.attachRefusal drop n = none := by
  simp [State.attachRefusal, attachable.opened, attachable.valid, attachable.unlisted, restart]

/-- A restart is the old record's departure and then an admission. -/
theorem State.Attachable.takeAttach_of_restart {s : State} {n : StationNumber} (attachable : s.Attachable n) {drop : Drop}
    {h : Handle} {r : Station} (restart : s.restartOf drop n = some (h, r)) (kind : StationKind) (cls : ClassNo) :
    s.takeAttach drop n kind cls = (s.departWithSubtree h r).admitByAttach drop n kind cls := by
  simp only [State.takeAttach, attachable.attachRefusal_of_restart restart, restart]

/-- The departure and the taking of a message commute. -/
theorem State.departWithSubtree_taking (s : State) (c : Instr) (h : Handle) (r : Station) :
    (s.taking c).departWithSubtree h r = (s.departWithSubtree h r).taking c := by
  have itself : s.departWithSubtree h r = (s.departWithSubtree h r).handing s.handedOn :=
    unheeding_departWithSubtree h r s.handedOn s
  have same : (s.departWithSubtree h r).handedOn = s.handedOn :=
    (congrArg State.handedOn itself).trans rfl
  rw [State.taking, State.taking, same]
  exact unheeding_departWithSubtree h r (s.handedOn.erase c) s

/-- Settles O18: the DETACH is the departure that the restart begins with, and what it leaves admits the station. -/
theorem restartReplacesTheRecord : Obligations.RestartReplacesTheRecord := by
  intro s t drop n kind cls h r quiet law notHandedOn opened valid here number onDrop top detached
  subst number onDrop
  have found : s.lookup r.number = some (h, r) :=
    (State.DistinctNumbers.lookup_eq_some_iff law.oneRecord ..).mpr ⟨here, rfl⟩
  have unlisted : s.listed r.number = false := law.notListed h r here
  have departed : t = s.departWithSubtree h r := by
    have nothing : s.taking (.detach r.drop r.number) = s := by rw [State.taking, List.erase_of_not_mem notHandedOn]
    have owner : exec (.detach r.drop r.number) s = .next ((s.taking (.detach r.drop r.number)).takeDetach h r) :=
      quiet.exec_eq_owner rfl found rfl
    rw [owner, nothing, State.takeDetach, if_pos top] at detached
    exact (Host.Outcome.next.inj detached).symm
  obtain ⟨unknown, vacant, handle⟩ := law.vacant_departWithSubtree here top
  rw [← departed] at unknown vacant handle
  obtain ⟨denyList, -, -, -, -, -, -, highway, -, -, hold, due⟩ :=
    (s.left_cascade (s.removalSet h r) .departed).1.untouched
  have left : s.cascade (s.removalSet h r) (s.removalSet h r) .departed (fun u => u) = t := departed.symm
  rw [left] at denyList highway hold due
  have stillQuiet : t.Quiet := ⟨hold.trans quiet.1, due.trans quiet.2⟩
  have stillOpened : t.highway = .opened := highway.trans opened
  have stillUnlisted : t.listed r.number = false := by
    rw [State.listed, denyList]
    exact unlisted
  refine ⟨?_, stillQuiet, stillOpened, stillUnlisted, unknown, vacant, Option.isSome_iff_ne_none.mpr handle⟩
  let attach : Instr := .attach r.drop r.number kind cls
  have restarts : (s.taking attach).takeAttach r.drop r.number kind cls =
      (t.taking attach).admitByAttach r.drop r.number kind cls := by
    have attachable : (s.taking attach).Attachable r.number := ⟨opened, valid, unlisted⟩
    have restart : (s.taking attach).restartOf r.drop r.number = some (h, r) :=
      State.restartOf_of_lookup (s := s.taking attach) found rfl top
    rw [attachable.takeAttach_of_restart restart, s.departWithSubtree_taking, ← departed]
  have admits : (t.taking attach).takeAttach r.drop r.number kind cls =
      (t.taking attach).admitByAttach r.drop r.number kind cls := by
    have attachable : (t.taking attach).Attachable r.number := ⟨stillOpened, valid, stillUnlisted⟩
    obtain ⟨k, free⟩ := Option.ne_none_iff_exists'.mp handle
    exact State.takeAttach_of_fresh (s := t.taking attach) (attachable.attachRefusal_eq_none unknown vacant free) unknown ..
  rw [quiet.exec_attach_eq, stillQuiet.exec_attach_eq, restarts, admits]

end Sys2Proof.Machine
end

section
/-! Roster messages of a top relay: the assembly opened, gathered and checked (R94 to R101). -/

namespace Sys2Proof.Machine

set_option Elab.async false -- one proof at a time: waiting proofs would hold a thread each

/-! ### A roster message at the Roster Checker (R92) -/

/-- The Roster Checker takes a roster message of a top relay (R92). -/
theorem State.Quiet.exec_of_topRelay {s : State} (quiet : s.Quiet) {c : Instr} {drop : Drop} {n : StationNumber}
    {tag : Option Tag} {reference : Option Reference} (names : sourced c = some (drop, n, tag, reference)) {h : Handle}
    {r : Station} (source : s.lookup n = some (h, r)) (onDrop : r.drop = drop) (relay : r.kind = .relay)
    (top : r.via = none) {f : Handle → Station → State → State} (owner : messageOwner c = State.fromTopRelay f) :
    exec c s = .next (f h r (s.taking c)) := by
  rw [quiet.exec_eq_owner names source onDrop, owner, State.fromTopRelay, if_pos ((r.topRelay_iff).mpr ⟨relay, top⟩)]

theorem State.rejectRoster_of_station {s : State} {h : Handle} {r : Station} (here : s.station h = some r)
    (generation : Byte) (reason : Reason) :
    s.rejectRoster h generation reason = (s.offer ⟨r.number, .rosterReject generation reason⟩).raise .roster :=
  congrArg (State.raise .roster) (State.tell_of_station here _)

/-! ### ROSTER_BEGIN (R94, R95) -/

/-- Settles O33. -/
theorem rosterBeginOpensTheAssembly : Obligations.RosterBeginOpensTheAssembly := by
  intro s drop n generation count depth depthExceeded countExceeded h r quiet source onDrop relay top c
  have begins : exec c s =
      .next ((s.taking c).beginRoster generation count.val depth.val depthExceeded countExceeded h r) :=
    quiet.exec_of_topRelay rfl source onDrop relay top rfl
  rw [begins, State.beginRoster]
  refine ⟨fun tooDeep => ?_, fun deep tooMany => ?_, fun deep few => ?_⟩
  · rw [if_pos tooDeep]
  · rw [deep, if_neg Bool.false_ne_true, if_pos tooMany]
  · rw [deep, few, if_neg Bool.false_ne_true, if_neg Bool.false_ne_true]
    rfl

/-! ### ROSTER_PART (R96, R97) -/

theorem State.partRoster_of_unopened {s : State} {h : Handle} (unopened : s.assembly h = none) (partIndex : Nat)
    (entries : List RosterEntry) (r : Station) : s.partRoster partIndex entries h r = s.refusePlain h .sequence := by
  simp only [State.partRoster, unopened]

section Opened

variable {s : State} {h : Handle} {a : Assembly} (opened : s.assembly h = some a)
include opened

theorem State.partRoster_of_outOfTurn {partIndex : Nat}
    (outOfTurn : partIndex ≠ a.partsReceived ∨ a.partsReceived = Config.partLimit) (entries : List RosterEntry)
    (r : Station) :
    s.partRoster partIndex entries h r = (s.setAssembly h none).rejectRoster h a.generation .sequence := by
  simp only [State.partRoster, opened, if_pos outOfTurn]

theorem State.partRoster_of_inTurn (notLast : a.partsReceived ≠ Config.partLimit) (entries : List RosterEntry)
    (r : Station) :
    s.partRoster a.partsReceived entries h r =
      if a.declaredCount < a.entries.length + entries.length then s.rejectContent h r a.generation .malformed
      else
        s.setAssembly h (some { a with partsReceived := a.partsReceived + 1, entries := a.entries ++ entries }) := by
  simp only [State.partRoster, opened, ne_eq, not_true_eq_false, notLast, or_self, if_false]

end Opened

/-- Settles O34. -/
theorem rosterPartsAreGathered : Obligations.RosterPartsAreGathered := by
  intro s drop n partIndex entries h r quiet source onDrop relay top c
  obtain ⟨here, rfl⟩ := s.station_of_lookup n h r source
  have gathers : exec c s = .next ((s.taking c).partRoster partIndex.val entries h r) :=
    quiet.exec_of_topRelay rfl source onDrop relay top rfl
  rw [gathers]
  refine ⟨fun unopened => ?_, fun a opened => ?_⟩
  · rw [State.partRoster_of_unopened (s := s.taking c) unopened]
    exact congrArg _ (State.tell_source source c _)
  have current : (s.taking c).assembly h = some a := opened
  refine ⟨fun outOfTurn => ?_, fun inTurn notLast => ?_⟩
  · have standing : ((s.taking c).setAssembly h none).station h = some r := here
    rw [State.partRoster_of_outOfTurn current outOfTurn, State.rejectRoster_of_station standing]
    rfl
  · rw [inTurn, State.partRoster_of_inTurn current notLast]
    refine ⟨fun beyond => ?_, fun within => ?_⟩
    · rw [if_pos beyond]
    · rw [if_neg (not_lt.mpr within)]
      rfl

/-! ### The checks of ROSTER_END (R99) -/

/-- Check 2 of R99, said of the run's numbers. -/
theorem numbersGood_iff (own : StationNumber) (entries : List RosterEntry) :
    numbersGood own entries = true ↔
      (∀ m ∈ entries.map RosterEntry.number, validNumber m = true ∧ m ≠ own) ∧
        (entries.map RosterEntry.number).Nodup := by
  simp [numbersGood]

theorem numbersGood_eq_false_iff (own : StationNumber) (entries : List RosterEntry) :
    numbersGood own entries = false ↔
      (∃ m ∈ entries.map RosterEntry.number, validNumber m = false ∨ m = own) ∨
        ¬ (entries.map RosterEntry.number).Nodup := by
  rw [← Bool.not_eq_true, numbersGood_iff, not_and_or]
  simp only [not_forall, exists_prop, not_and_or, Bool.not_eq_true, not_not, ne_eq]

/-- The highest tier of a relay bounds the relays' tiers and is 0 or taken by one of them. -/
theorem relayDepth_eq_iff (entries : List RosterEntry) (d : Nat) :
    relayDepth entries = d ↔
      (∀ e ∈ entries, e.kind = .relay → e.tier.val ≤ d) ∧
        (d = 0 ∨ ∃ e ∈ entries, e.kind = .relay ∧ e.tier.val = d) := by
  have highest (tiers : List Nat) : tiers.foldl max 0 = d ↔ (d = 0 ∨ d ∈ tiers) ∧ ∀ t ∈ tiers, t ≤ d := by
    have maximum : tiers.foldl max 0 = d ↔ (0 :: tiers).max? = some d := by
      rw [List.max?_cons', Option.some.injEq]
    rw [maximum, List.max?_eq_some_iff]
    simp
  rw [relayDepth, highest, and_comm, List.forall_mem_map]
  simp only [List.mem_map, List.mem_filter, decide_eq_true_eq, and_imp, and_assoc]

/-- Check 3 of R99: no tier out of range, and the declared depth is that of the run. -/
theorem tiersGood_iff (depth : Nat) (entries : List RosterEntry) :
    tiersGood depth entries = true ↔
      (¬ ∃ e ∈ entries, e.tier.val < 1 ∨ 4 < e.tier.val ∨ (e.kind = .relay ∧ 3 < e.tier.val)) ∧
        relayDepth entries = depth := by
  have inRange (e : RosterEntry) : (1 ≤ e.tier.val ∧ e.tier.val ≤ if e.kind = .relay then 3 else 4) ↔
      ¬ (e.tier.val < 1 ∨ 4 < e.tier.val ∨ (e.kind = .relay ∧ 3 < e.tier.val)) := by
    by_cases relay : e.kind = .relay
    · simp only [relay, if_true, true_and]
      omega
    · simp only [relay, if_false, false_and, or_false]
      omega
  simp only [tiersGood, Bool.and_eq_true, List.all_eq_true, decide_eq_true_eq, inRange, not_exists, not_and,
    eq_comm (a := depth)]

theorem State.heldElsewhere_iff (s : State) (h : Handle) (n : StationNumber) :
    s.heldElsewhere h n = true ↔ ∃ k x, s.lookup n = some (k, x) ∧ x.via ≠ some h := by
  simp [State.heldElsewhere, Option.any_eq_true]

/-! ### Hits of a run (R100, R114) -/

/-- One hit for each of these numbers that is listed. -/
def State.withHits (numbers : List StationNumber) (s : State) : State :=
  { s with denyList := s.denyList.map fun e => if e.number ∈ numbers then { e with hits := min 255 (e.hits + 1) } else e }

/-- Hits on distinct numbers meet distinct entries, so each entry takes at most one. -/
theorem State.foldl_hit_eq_withHits (numbers : List StationNumber) (once : numbers.Nodup) (s : State) :
    numbers.foldl (fun t n => t.hit n) s = s.withHits numbers := by
  induction numbers generalizing s with
  | nil => simp [State.withHits]
  | cons n rest ih =>
    obtain ⟨notLater, distinct⟩ := List.nodup_cons.mp once
    rw [List.foldl_cons, ih distinct, State.withHits, State.withHits, State.hit_denyList, List.map_map]
    congr 1
    refine List.map_congr_left fun e _ => ?_
    by_cases first : e.number = n
    · simp [first, notLater]
    · simp [first]

/-- Every entry of the Deny List is listed, so picking out the listed numbers first changes nothing. -/
theorem State.withHits_filter_listed (numbers : List StationNumber) (s : State) :
    s.withHits (numbers.filter s.listed) = s.withHits numbers := by
  unfold State.withHits
  congr 1
  refine List.map_congr_left fun e there => ?_
  have known : s.listed e.number = true := (s.listed_iff e.number).mpr ⟨e, there, rfl⟩
  simp only [List.mem_filter, known, and_true]

theorem State.hitEntries_eq {entries : List RosterEntry} (once : (entries.map RosterEntry.number).Nodup) (s : State) :
    s.hitEntries entries = (s.withHits (entries.map RosterEntry.number)).raise .denyHit := by
  have byNumber : (entries.filter fun e => s.listed e.number).foldl (fun t e => t.hit e.number) s =
      ((entries.map RosterEntry.number).filter s.listed).foldl (fun t n => t.hit n) s := by
    rw [List.filter_map, List.foldl_map, Function.comp_def]
  rw [State.hitEntries, byNumber, State.foldl_hit_eq_withHits _ (once.filter _), State.withHits_filter_listed]

/-! ### ROSTER_END (R98 to R101) -/

theorem State.endRoster_of_unopened {s : State} {h : Handle} (unopened : s.assembly h = none) (generation : Byte)
    (r : Station) : s.endRoster generation h r = s.rejectRoster h generation .sequence := by
  simp only [State.endRoster, unopened]

section Opened

variable {s : State} {h : Handle} {a : Assembly} (opened : s.assembly h = some a)
include opened

theorem State.endRoster_of_other_generation {generation : Byte} (other : generation ≠ a.generation) (r : Station) :
    s.endRoster generation h r = (s.setAssembly h none).rejectRoster h generation .sequence := by
  simp only [State.endRoster, opened, if_pos other]

theorem State.endRoster_of_accepted {r : Station} (accepted : s.rosterRefusal h r a = none) :
    s.endRoster a.generation h r = s.acceptRoster h r a := by
  simp only [State.endRoster, opened, accepted, ne_eq, not_true_eq_false, if_false]

/-- Only check 4 of R99 brings hits with it (R100). -/
theorem State.endRoster_of_refused {r : Station} {reason : Reason} (refused : s.rosterRefusal h r a = some reason)
    (noHits : reason ≠ .deniedEntry) : s.endRoster a.generation h r = s.rejectContent h r a.generation reason := by
  simp only [State.endRoster, opened, refused, ne_eq, not_true_eq_false, noHits, if_false]

theorem State.endRoster_of_denied {r : Station} (denied : s.rosterRefusal h r a = some .deniedEntry) :
    s.endRoster a.generation h r = (s.hitEntries a.entries).rejectContent h r a.generation .deniedEntry := by
  simp only [State.endRoster, opened, denied, ne_eq, not_true_eq_false, if_false, if_true]

end Opened

/-- A run with checks 1 to 3 of R99 passed is checked against the Deny List and the directory. -/
theorem State.rosterRefusal_of_wellFormed {r : Station} {a : Assembly} (counted : a.entries.length = a.declaredCount)
    (numbers : numbersGood r.number a.entries = true) (tiers : tiersGood a.declaredDepth a.entries = true) (s : State)
    (h : Handle) :
    s.rosterRefusal h r a =
      if a.entries.any fun e => s.listed e.number then some .deniedEntry
      else if a.entries.any fun e => s.heldElsewhere h e.number then some .duplicateEntry
      else if s.freeHandleCount + (s.omitted h a.entries).length < (s.newEntries a.entries).length then some .noRoom
      else none := by
  simp only [State.rosterRefusal, counted, numbers, tiers, ne_eq, not_true_eq_false, Bool.not_true, Bool.false_eq_true,
    if_false]

/-- Settles O35: each check is reached with the ones before it passed. -/
theorem rosterEndIsChecked : Obligations.RosterEndIsChecked := by
  intro s drop n generation h r quiet source onDrop relay top c
  obtain ⟨here, rfl⟩ := s.station_of_lookup n h r source
  have ends : exec c s = .next ((s.taking c).endRoster generation h r) :=
    quiet.exec_of_topRelay rfl source onDrop relay top rfl
  refine ⟨fun unopened => ?_, fun a opened => ?_⟩
  · have standing : (s.taking c).station h = some r := here
    rw [ends, State.endRoster_of_unopened (s := s.taking c) unopened, State.rejectRoster_of_station standing]
  intro numbers rejectedFrom fresh absent freeHandles
  have current : (s.taking c).assembly h = some a := opened
  refine ⟨fun other => ?_, fun same => ?_⟩
  · have standing : ((s.taking c).setAssembly h none).station h = some r := here
    rw [ends, State.endRoster_of_other_generation current other, State.rejectRoster_of_station standing]
    rfl
  subst same
  have rejects {reason : Reason} (fails : s.rosterRefusal h r a = some reason) (noHits : reason ≠ .deniedEntry) :
      rejectedFrom (s.taking c) reason :=
    ends.trans (congrArg _ (State.endRoster_of_refused current fails noHits))
  have omitted : s.omitted h a.entries = absent := List.filter_congr fun k _ => by rw [List.contains_eq_mem, decide_not]
  refine ⟨fun miscounted => rejects (if_pos miscounted) (by decide), fun counted => ?_⟩
  refine ⟨fun badNumbers => rejects ?_ (by decide), fun valid once => ?_⟩
  · have fails : numbersGood r.number a.entries = false := (numbersGood_eq_false_iff ..).mpr badNumbers
    simp [State.rosterRefusal, counted, fails]
  have check2 : numbersGood r.number a.entries = true := (numbersGood_iff ..).mpr ⟨valid, once⟩
  intro tierWrong deepest
  have check3 : tiersGood a.declaredDepth a.entries = true ↔ ¬ tierWrong ∧ deepest := by
    rw [tiersGood_iff, relayDepth_eq_iff]
  refine ⟨fun badTiers => rejects ?_ (by decide), fun inRange deep => ?_⟩
  · have fails : ¬ tiersGood a.declaredDepth a.entries = true := fun good =>
      badTiers.elim (check3.mp good).1 (not_not.mpr (check3.mp good).2)
    simp [State.rosterRefusal, counted, check2, fails]
  have onDirectory := State.rosterRefusal_of_wellFormed counted check2 (check3.mpr ⟨inRange, deep⟩) s h
  have check4 : (a.entries.any fun e => s.listed e.number) = true ↔ ∃ m ∈ numbers, s.listed m = true := by
    simp [numbers]
  refine ⟨fun denied => ?_, fun allowed => ?_⟩
  · have fails : (s.taking c).rosterRefusal h r a = some .deniedEntry := onDirectory.trans (if_pos (check4.mpr denied))
    change exec c s = _
    rw [ends, State.endRoster_of_denied current fails, State.hitEntries_eq once]
    rfl
  have unlisted : ¬ ∃ m ∈ numbers, s.listed m = true := by simpa using allowed
  rw [if_neg (check4.not.mpr unlisted)] at onDirectory
  have check5 : (a.entries.any fun e => s.heldElsewhere h e.number) = true ↔
      ∃ m ∈ numbers, ∃ k x, s.lookup m = some (k, x) ∧ x.via ≠ some h := by
    simp [numbers, State.heldElsewhere_iff]
  refine ⟨fun elsewhere => rejects (onDirectory.trans (if_pos (check5.mpr elsewhere))) (by decide), fun ownOrNew => ?_⟩
  have notElsewhere : ¬ ∃ m ∈ numbers, ∃ k x, s.lookup m = some (k, x) ∧ x.via ≠ some h :=
    fun ⟨m, there, k, x, found, other⟩ => other (ownOrNew m there k x found)
  rw [if_neg (check5.not.mpr notElsewhere), omitted] at onDirectory
  refine ⟨fun crowded => rejects (onDirectory.trans (if_pos crowded)) (by decide), fun room => ?_⟩
  have accepted : (s.taking c).rosterRefusal h r a = none := onDirectory.trans (if_neg (not_lt.mpr room))
  rw [ends, State.endRoster_of_accepted current accepted]

end Sys2Proof.Machine
end

section
/-! The commands of the Deny List (R113, R115 to R117). -/

namespace Sys2Proof.Machine

set_option Elab.async false -- one proof at a time: waiting proofs would hold a thread each

/-! ### The row of a host command -/

/-- A latched command answers with the work of its owner (R174). -/
theorem State.Latched.exec_of_work {s part : State} {code : Byte} {c : Instr} {work : State → Work} {result : Result}
    {readout : List Byte} (ready : s.Latched code) (row : exec c s = .next (s.hostCommand code (State.runCommand work)))
    (done : work s = ⟨part, result, readout⟩) : exec c s = .next (part.finished result readout) := by
  rw [row, ready.runCommand_eq, done]

/-! ### Places in the Deny List (R113) -/

/-- An entry stands behind the smaller numbers and before the greater ones (R113, R115). -/
theorem insertDeny_append {e : DenyEntry} {front back : List DenyEntry} (below : ∀ x ∈ front, x.number < e.number)
    (above : ∀ x ∈ back, e.number < x.number) : insertDeny e (front ++ back) = front ++ e :: back := by
  have passes : ∀ x ∈ front, decide (x.number < e.number) = true := fun x there => decide_eq_true (below x there)
  rw [insertDeny, List.takeWhile_append_of_pos passes, List.dropWhile_append_of_pos passes]
  cases back with
  | nil => simp
  | cons x rest =>
    have stops : ¬ x.number < e.number := BitVec.lt_asymm (above x (List.mem_cons_self ..))
    simp [stops]

section FirstOfNumber

variable {e : DenyEntry} {n : StationNumber} {front : List DenyEntry} (number : e.number = n)
  (before : ∀ x ∈ front, x.number ≠ n) (back : List DenyEntry)
include number before

theorem denyPosition_append : denyPosition n (front ++ e :: back) = front.length + 1 := by
  have passed : front.findIdx (fun x => x.number = n) = front.length :=
    List.findIdx_eq_length.mpr fun x there => decide_eq_false (before x there)
  have here : (e :: back).findIdx (fun x => x.number = n) = 0 := by simp [List.findIdx_cons, number]
  rw [denyPosition, List.findIdx_append, passed, here, if_neg (lt_irrefl _), Nat.zero_add]

theorem find?_denyNumber_append : (front ++ e :: back).find? (fun x => x.number = n) = some e := by
  have passed : front.find? (fun x => x.number = n) = none := by simpa using before
  have here : (e :: back).find? (fun x => x.number = n) = some e := List.find?_cons_of_pos (decide_eq_true number)
  rw [List.find?_append, passed, here, Option.none_or]

theorem erase_denyEntry_append : (front ++ e :: back).erase e = front ++ back := by
  have notBefore : e ∉ front := fun there => before e there number
  rw [List.erase_append_right _ notBefore, List.erase_cons_head]

end FirstOfNumber

/-! ### DENY_ADD and DENY_REMOVE -/

section DenyAdd

variable {s : State}

theorem State.denyAddWork_of_invalid (invalid : validNumber s.argNumber = false) :
    s.denyAddWork = s.failed .badArgument := by
  simp [State.denyAddWork, invalid]

theorem State.denyAddWork_of_listed (valid : validNumber s.argNumber = true)
    (listed : ∃ e ∈ s.denyList, e.number = s.argNumber) : s.denyAddWork = s.failed .alreadyListed := by
  simp [State.denyAddWork, valid, (s.listed_iff _).mpr listed]

/-- A valid number that no entry holds is entered while there is room (R115). -/
theorem State.denyAddWork_of_unlisted (valid : validNumber s.argNumber = true)
    (unlisted : ∀ e ∈ s.denyList, e.number ≠ s.argNumber) :
    s.denyAddWork =
      if 24 ≤ s.denyList.length then s.failed .listFull
      else
        let entry : DenyEntry := ⟨s.argNumber, s.arg 4, 0⟩
        let list := insertDeny entry s.denyList
        ⟨State.evictNumber s.argNumber .denied { s with denyList := list }, .ok,
          denyForm (denyPosition s.argNumber list) list.length entry⟩ := by
  have fresh : ¬ s.listed s.argNumber = true := by simpa [s.listed_iff] using unlisted
  simp only [State.denyAddWork, valid, Bool.not_true, Bool.false_eq_true, if_false, if_neg fresh]
  rfl

theorem State.denyAddWork_of_place (valid : validNumber s.argNumber = true)
    (unlisted : ∀ e ∈ s.denyList, e.number ≠ s.argNumber) {front back : List DenyEntry} (room : s.denyList.length < 24)
    (list : s.denyList = front ++ back) (below : ∀ e ∈ front, e.number < s.argNumber)
    (above : ∀ e ∈ back, s.argNumber < e.number) :
    let entry : DenyEntry := ⟨s.argNumber, s.arg 4, 0⟩
    s.denyAddWork =
      ⟨State.evictNumber s.argNumber .denied { s with denyList := front ++ entry :: back }, .ok,
        denyForm (front.length + 1) (s.denyList.length + 1) entry⟩ := by
  intro entry
  have placed : insertDeny entry s.denyList = front ++ entry :: back :=
    (congrArg _ list).trans (insertDeny_append (e := entry) below above)
  have position : denyPosition s.argNumber (front ++ entry :: back) = front.length + 1 :=
    denyPosition_append (e := entry) rfl (fun x there => BitVec.ne_of_lt (below x there)) back
  have longer : (front ++ entry :: back).length = s.denyList.length + 1 := placed ▸ length_insertDeny entry s.denyList
  refine (State.denyAddWork_of_unlisted valid unlisted).trans ((if_neg (not_le.mpr room)).trans ?_)
  simp only [← longer, ← position, ← placed]
  rfl

end DenyAdd

theorem State.evictNumber_of_unknown {s : State} {n : StationNumber} (unknown : s.lookup n = none) (reason : Reason) :
    s.evictNumber n reason = s := by
  simp only [State.evictNumber, unknown]

theorem State.evictNumber_of_lookup {s : State} {n : StationNumber} {h : Handle} {r : Station}
    (found : s.lookup n = some (h, r)) (reason : Reason) : s.evictNumber n reason = s.evictStation h r reason := by
  simp only [State.evictNumber, found]

theorem State.denyRemoveWork_of_unlisted {s : State} (unlisted : ∀ e ∈ s.denyList, e.number ≠ s.argNumber) :
    s.denyRemoveWork = s.failed .notFound := by
  have nothing : s.denyList.find? (fun e => e.number = s.argNumber) = none := by simpa using unlisted
  simp only [State.denyRemoveWork, nothing]

theorem State.denyRemoveWork_of_listed {s : State} {front back : List DenyEntry} {e : DenyEntry}
    (list : s.denyList = front ++ e :: back) (number : e.number = s.argNumber)
    (before : ∀ x ∈ front, x.number ≠ s.argNumber) :
    s.denyRemoveWork =
      ⟨{ s with denyList := front ++ back }, .ok, denyForm (front.length + 1) s.denyList.length e⟩ := by
  have found : s.denyList.find? (fun x => x.number = s.argNumber) = some e :=
    (congrArg _ list).trans (find?_denyNumber_append number before back)
  have position : denyPosition s.argNumber s.denyList = front.length + 1 :=
    (congrArg _ list).trans (denyPosition_append number before back)
  have rest : s.denyList.erase e = front ++ back :=
    (congrArg (·.erase e) list).trans (erase_denyEntry_append number before back)
  simp only [State.denyRemoveWork, found, position, rest]

/-- Settles O50: the new entry's place is the one the list is split at, and the old one's the first of its number. -/
theorem denyCommandsKeepTheList : Obligations.DenyCommandsKeepTheList := by
  intro s n answers
  refine ⟨fun ready => ⟨fun invalid => ?_, fun valid => ⟨fun listed => ?_, fun unlisted => ⟨fun full => ?_, ?_⟩⟩⟩,
    fun ready => ⟨fun unlisted => ?_, fun front e back list number before => ?_⟩⟩
  · exact ready.exec_of_work rfl (State.denyAddWork_of_invalid invalid)
  · exact ready.exec_of_work rfl (State.denyAddWork_of_listed valid listed)
  · exact ready.exec_of_work rfl ((State.denyAddWork_of_unlisted valid unlisted).trans (if_pos full))
  · intro front back room list below above entry barred readout
    have adds : s.denyAddWork = ⟨barred.evictNumber n .denied, .ok, readout⟩ :=
      State.denyAddWork_of_place valid unlisted room list below above
    refine ⟨fun unknown => ready.exec_of_work rfl ?_, fun h r found => ready.exec_of_work rfl ?_⟩
    · rw [adds, State.evictNumber_of_unknown (s := barred) unknown]
    · rw [adds, State.evictNumber_of_lookup (s := barred) found]
  · exact ready.exec_of_work rfl (State.denyRemoveWork_of_unlisted unlisted)
  · exact ready.exec_of_work rfl (State.denyRemoveWork_of_listed list number before)

end Sys2Proof.Machine
end

section
/-! The commands that read (R118, R130, R178 to R181). -/

namespace Sys2Proof.Machine

set_option Elab.async false -- one proof at a time: waiting proofs would hold a thread each

section Works

variable {s : State}

/-! ### READ_STATION (R178) -/

theorem State.stationNumbered_val (h : Handle) : s.stationNumbered h.val = (s.station h).map fun r => (h, r) :=
  dif_pos h.isLt

theorem State.readStationWork_of_handle (byHandle : s.argNat 0 = 0) :
    s.readStationWork = s.stationRead (s.stationNumbered (s.argNat 1)) :=
  if_pos byHandle

theorem State.readStationWork_of_named {h : Handle} {found : Option Station} (byHandle : s.argNat 0 = 0)
    (named : h.val = s.argNat 1) (here : s.station h = found) :
    s.readStationWork = s.stationRead (found.map fun r => (h, r)) := by
  rw [State.readStationWork_of_handle byHandle, ← named, State.stationNumbered_val, here]

theorem State.readStationWork_of_beyond (byHandle : s.argNat 0 = 0) (beyond : 47 < s.argNat 1) :
    s.readStationWork = s.failed .notFound := by
  have none : s.stationNumbered (s.argNat 1) = none := dif_neg (by omega)
  rw [State.readStationWork_of_handle byHandle, none]
  rfl

theorem State.readStationWork_of_number {found : Option (Handle × Station)} (byNumber : s.argNat 0 = 1)
    (here : s.lookup s.argNumber1 = found) : s.readStationWork = s.stationRead found := by
  simp [State.readStationWork, byNumber, here]

theorem State.readStationWork_of_bad (bad : 1 < s.argNat 0) : s.readStationWork = s.failed .badArgument := by
  rw [State.readStationWork, if_neg (by omega), if_neg (by omega)]

/-! ### READ_CONNECTION (R179) -/

theorem State.readConnectionWork_of_bad (bad : 31 < s.argNat 0) : s.readConnectionWork = s.failed .badArgument :=
  dif_neg (by omega)

theorem State.readConnectionWork_of_unused {i : Index} (named : i.val = s.argNat 0) (unused : s.connection i = none) :
    s.readConnectionWork = s.failed .notFound := by
  simp only [State.readConnectionWork, ← named, i.isLt, dif_pos, unused]

theorem State.readConnectionWork_of_connection {i : Index} {k : Connection} (named : i.val = s.argNat 0)
    (used : s.connection i = some k) : s.readConnectionWork = ⟨s, .ok, s.connectionForm i k⟩ := by
  simp only [State.readConnectionWork, ← named, i.isLt, dif_pos, used]

/-! ### READ_SLOTS (R180) -/

theorem State.readSlotsWork_of_bad (bad : 3 < s.argNat 0) : s.readSlotsWork = s.failed .badArgument :=
  if_neg (not_le.mpr bad)

theorem State.readSlotsWork_of_group (good : s.argNat 0 ≤ 3) : s.readSlotsWork = ⟨s, .ok, s.slotForm (s.argNat 0)⟩ :=
  if_pos good

/-! ### READ_QUEUE and READ_DENY (R118, R181) -/

theorem State.readQueueWork_of_bad (bad : s.argNat 0 < 1 ∨ 16 < s.argNat 0) :
    s.readQueueWork = s.failed .badArgument :=
  if_pos bad

section QueuePosition

variable (low : 1 ≤ s.argNat 0) (high : s.argNat 0 ≤ 16)
include low high

theorem State.readQueueWork_of_beyond (beyond : s.waitQueue.length < s.argNat 0) :
    s.readQueueWork = s.failed .notFound := by
  have none : s.waitQueue[s.argNat 0 - 1]? = none := List.getElem?_eq_none (by omega)
  simp only [State.readQueueWork, Config.queueCapacity, not_lt.mpr low, not_lt.mpr high, or_self, if_false, none]

theorem State.readQueueWork_of_entry {e : Entry} (entry : s.waitQueue[s.argNat 0 - 1]? = some e) :
    s.readQueueWork = ⟨s, .ok, s.queueForm (s.argNat 0) e⟩ := by
  simp only [State.readQueueWork, Config.queueCapacity, not_lt.mpr low, not_lt.mpr high, or_self, if_false, entry]

end QueuePosition

theorem State.readDenyWork_of_bad (bad : s.argNat 0 < 1 ∨ 24 < s.argNat 0) : s.readDenyWork = s.failed .badArgument :=
  if_pos bad

section DenyPosition

variable (low : 1 ≤ s.argNat 0) (high : s.argNat 0 ≤ 24)
include low high

theorem State.readDenyWork_of_beyond (beyond : s.denyList.length < s.argNat 0) :
    s.readDenyWork = s.failed .notFound := by
  have none : s.denyList[s.argNat 0 - 1]? = none := List.getElem?_eq_none (by omega)
  simp only [State.readDenyWork, Config.denyCapacity, not_lt.mpr low, not_lt.mpr high, or_self, if_false, none]

theorem State.readDenyWork_of_entry {e : DenyEntry} (entry : s.denyList[s.argNat 0 - 1]? = some e) :
    s.readDenyWork = ⟨s, .ok, denyForm (s.argNat 0) s.denyList.length e⟩ := by
  simp only [State.readDenyWork, Config.denyCapacity, not_lt.mpr low, not_lt.mpr high, or_self, if_false, entry]

end DenyPosition

/-! ### READ_POLICY (R130) -/

theorem State.readPolicyWork_of_bad (bad : 3 < s.argNat 0) : s.readPolicyWork = s.failed .badArgument :=
  dif_neg (by omega)

theorem State.readPolicyWork_of_class {k : ClassNo} (named : k.val = s.argNat 0) :
    s.readPolicyWork = ⟨s, .ok, s.policyForm k⟩ := by
  simp only [State.readPolicyWork, ← named, k.isLt, dif_pos]

end Works

/-- Settles O48: each command answers with its work, and the argument decides which case of the work that is. -/
theorem readsAnswerWithTheirForms : Obligations.ReadsAnswerWithTheirForms := by
  intro s a n answers
  refine ⟨fun ready => ⟨fun byHandle => ?handle, fun byNumber => ?number, fun bad => ?selector⟩,
    fun ready => ⟨fun bad => ?index, fun i named => ?connection⟩, fun ready => ⟨fun bad => ?group, fun good => ?slots⟩,
    fun ready => ⟨fun bad => ?queuePosition, fun low high => ?queue⟩,
    fun ready => ⟨fun bad => ?denyPosition, fun low high => ?deny⟩,
    fun ready => ⟨fun bad => ?classNumber, fun k named => ?policy⟩⟩
  case handle =>
    refine ⟨fun h r named here => ?_, fun h named free => ?_, fun beyond => ?_⟩
    · exact ready.exec_of_work rfl (State.readStationWork_of_named byHandle named here)
    · exact ready.exec_of_work rfl (State.readStationWork_of_named byHandle named free)
    · exact ready.exec_of_work rfl (State.readStationWork_of_beyond byHandle beyond)
  case number =>
    exact ⟨fun h r found => ready.exec_of_work rfl (State.readStationWork_of_number byNumber found),
      fun unknown => ready.exec_of_work rfl (State.readStationWork_of_number byNumber unknown)⟩
  case selector => exact ready.exec_of_work rfl (State.readStationWork_of_bad bad)
  case index => exact ready.exec_of_work rfl (State.readConnectionWork_of_bad bad)
  case connection =>
    exact ⟨fun unused => ready.exec_of_work rfl (State.readConnectionWork_of_unused named unused),
      fun k used => ready.exec_of_work rfl (State.readConnectionWork_of_connection named used)⟩
  case group => exact ready.exec_of_work rfl (State.readSlotsWork_of_bad bad)
  case slots => exact ready.exec_of_work rfl (State.readSlotsWork_of_group good)
  case queuePosition => exact ready.exec_of_work rfl (State.readQueueWork_of_bad bad)
  case queue =>
    exact ⟨fun beyond => ready.exec_of_work rfl (State.readQueueWork_of_beyond low high beyond),
      fun e entry => ready.exec_of_work rfl (State.readQueueWork_of_entry low high entry)⟩
  case denyPosition => exact ready.exec_of_work rfl (State.readDenyWork_of_bad bad)
  case deny =>
    exact ⟨fun beyond => ready.exec_of_work rfl (State.readDenyWork_of_beyond low high beyond),
      fun e entry => ready.exec_of_work rfl (State.readDenyWork_of_entry low high entry)⟩
  case classNumber => exact ready.exec_of_work rfl (State.readPolicyWork_of_bad bad)
  case policy => exact ready.exec_of_work rfl (State.readPolicyWork_of_class named)

end Sys2Proof.Machine
end

section
/-! The class policy and the timing settings (R128, R129). -/

namespace Sys2Proof.Machine

set_option Elab.async false -- one proof at a time: waiting proofs would hold a thread each

section Works

variable {s : State}

/-! ### SET_POLICY (R128) -/

/-- A1 to A5 pass R128 where none of them is out of range. -/
theorem State.policyArgumentsGood_iff :
    s.policyArgumentsGood = true ↔
      ¬ (s.argNat 1 < 1 ∨ s.argNat 2 < 1 ∨ 8 < s.argNat 2 ∨ s.argNat 3 < 1 ∨ 16 < s.argNat 3 ∨ 1 < s.argNat 5) := by
  simp only [State.policyArgumentsGood, Bool.and_eq_true, decide_eq_true_eq]
  omega

theorem State.setPolicyWork_of_class {k : ClassNo} (named : k.val = s.argNat 0) :
    s.setPolicyWork =
      if s.policyArgumentsGood then
        let changed : State := { s with policy := s.policy.set k s.argPolicy }
        ⟨changed.servicePass, .ok, changed.policyForm k⟩
      else s.failed .badArgument := by
  simp only [State.setPolicyWork, ← named, k.isLt, dif_pos]

theorem State.setPolicyWork_of_bad
    (bad : 3 < s.argNat 0 ∨ s.argNat 1 < 1 ∨ s.argNat 2 < 1 ∨ 8 < s.argNat 2 ∨ s.argNat 3 < 1 ∨ 16 < s.argNat 3 ∨
      1 < s.argNat 5) : s.setPolicyWork = s.failed .badArgument := by
  by_cases bound : s.argNat 0 < 4
  · have outOfRange := bad.resolve_left (by omega)
    have refused : ¬ s.policyArgumentsGood = true := fun good => State.policyArgumentsGood_iff.mp good outOfRange
    exact (State.setPolicyWork_of_class (k := ⟨s.argNat 0, bound⟩) rfl).trans (if_neg refused)
  · exact dif_neg bound

/-! ### SET_TIMING (R129) -/

theorem State.setTimingWork_of_bad (bad : s.argNat 0 < 1 ∨ 15 < s.argNat 0 ∨ s.argNat 1 < 1) :
    s.setTimingWork = s.failed .badArgument :=
  if_pos bad

theorem State.setTimingWork_of_good (good : ¬ (s.argNat 0 < 1 ∨ 15 < s.argNat 0 ∨ s.argNat 1 < 1)) :
    s.setTimingWork =
      let changed : State := { s with answerPeriod := s.argNat 0, rosterPeriod := s.argNat 1 }
      ⟨changed, .ok, changed.timingForm⟩ :=
  if_neg good

end Works

/-- Settles O54: one check of the ranges decides between the whole record and the part as it stands. -/
theorem policyAndTimingAreReplaced : Obligations.PolicyAndTimingAreReplaced := by
  intro s a answers
  refine ⟨fun ready => ⟨fun bad => ?refusedPolicy, fun k good named => ?policy⟩,
    fun ready => ⟨fun bad => ?refusedTiming, fun good => ?timing⟩⟩
  case refusedPolicy => exact ready.exec_of_work rfl (State.setPolicyWork_of_bad bad)
  case policy =>
    have inRange : s.policyArgumentsGood = true := State.policyArgumentsGood_iff.mpr (not_or.mp good).2
    exact ready.exec_of_work rfl ((State.setPolicyWork_of_class named).trans (if_pos inRange))
  case refusedTiming => exact ready.exec_of_work rfl (State.setTimingWork_of_bad bad)
  case timing => exact ready.exec_of_work rfl (State.setTimingWork_of_good good)

end Sys2Proof.Machine
end

section
/-! The windows of the Uplink Arbiter and Receiver, the lines that close them, and the departure of the head of the Downlink
Queue (R134 to R144, R151, R152). -/

namespace Sys2Proof.Machine

set_option Elab.async false -- one proof at a time: waiting proofs would hold a thread each

/-! ### Full reset (R144, R166, R189) -/

/-- Settles O3. -/
theorem heldPartIgnoresEvents : Obligations.HeldPartIgnoresEvents := by
  intro c s held named
  cases c
  case uplinkGrant | drqFall | dprFall | presenceLoss | dprRise =>
    exact congrArg Host.Outcome.next (s.lineEvent_of_held _ _ held)
  case uplinkHeader | uplinkWord | messageDeparture | guardEnd | leaseCountdownWalk | queueDeadlineWalk |
      rosterDeadlineWalk | commandCompletion | attach | detach | request | accept | decline | renew | release | query |
      cancel | rosterBegin | rosterPart | rosterEnd =>
    exact congrArg Host.Outcome.next (s.event_of_held _ held)
  case leaseExpiry | answerExpiry | queueTimeout | rosterDeadlineExpiry =>
    exact congrArg Host.Outcome.next (if_neg fun taken => held taken.1)
  all_goals obtain inner | line | expiry := named
  all_goals contradiction

/-! ### The grant (R137) -/

/-- A grant needs 12 entries free, so at most 28 held (R137). -/
theorem State.grantThreshold_le_iff (s : State) :
    Config.grantThreshold ≤ s.downlinkFree ↔ s.downlink.held.length ≤ 28 := by
  simp only [Config.grantThreshold, State.downlinkFree, Config.downlinkCapacity]
  omega

/-- A grant goes to the first eligible drop of the order (R137). -/
theorem State.grantee_of_first {s : State} (idle : s.arbiter.window = .idle) (room : s.downlink.held.length ≤ 28) {k : Nat}
    (inOrder : k < 16) (eligible : s.pins.eligible (s.arbiter.pointer + 1 + Fin.ofNat 16 k) = true)
    (first : ∀ j, j < k → s.pins.eligible (s.arbiter.pointer + 1 + Fin.ofNat 16 j) = false) :
    s.grantee = some (s.arbiter.pointer + 1 + Fin.ofNat 16 k) := by
  have found : (List.range 16).find? (s.pins.eligible ∘ fun k => s.arbiter.pointer + 1 + Fin.ofNat 16 k) = some k :=
    List.find?_range_eq_some.mpr ⟨eligible, List.mem_range.mpr inOrder, fun j below => by
      rw [Function.comp_apply, first j below, Bool.not_false]⟩
  rw [State.grantee, if_pos ⟨idle, s.grantThreshold_le_iff.mpr room⟩, grantOrder, List.find?_map, found, Option.map_some]

/-- No grant with a window open, with fewer than 12 entries free, or with no drop eligible (R137). -/
theorem State.grantee_eq_none {s : State}
    (barred : s.arbiter.window ≠ .idle ∨ 28 < s.downlink.held.length ∨ ∀ d, s.pins.eligible d = false) :
    s.grantee = none := by
  unfold State.grantee
  split
  · rename_i made
    obtain ⟨idle, room⟩ := made
    rw [s.grantThreshold_le_iff] at room
    have nobody : ∀ d, s.pins.eligible d = false :=
      (barred.resolve_left (not_not_intro idle)).resolve_left (Nat.not_lt.mpr room)
    exact List.find?_eq_none.mpr fun d _ => by simp [nobody d]
  · rfl

/-- The grant decision where it falls to a drop (R137). -/
theorem State.considerGrant_of_grantee {s : State} {d : Drop} (grantee : s.grantee = some d) :
    s.considerGrant = { s with arbiter := { s.arbiter with pointer := d, window := .granted d, grantDue := false } } := by
  simp only [State.considerGrant, grantee]

/-- The grant decision where it falls to none (R137). -/
theorem State.considerGrant_of_none {s : State} (nobody : s.grantee = none) :
    s.considerGrant = { s with arbiter := { s.arbiter with grantDue := false } } := by
  simp only [State.considerGrant, nobody]

/-- UPLINK_GRANT samples DRQ and then decides a grant that is still to be considered (R137). -/
theorem State.Quiet.exec_uplinkGrant_eq {s : State} (quiet : s.Quiet) (drq : BitVec 16) :
    exec (.uplinkGrant drq) s =
      .next (if s.arbiter.grantDue then State.considerGrant { s with pins := { s.pins with drq := drq } }
        else { s with pins := { s.pins with drq := drq } }) :=
  congrArg _ (quiet.lineEvent_eq _ _)

/-- Settles O8: the grant is decided with DRQ as sampled, by the first eligible drop of the order. -/
theorem grantGoesToTheNextEligibleDrop : Obligations.GrantGoesToTheNextEligibleDrop := by
  intro s drq quiet eligible after
  let sampled : State := { s with pins := { s.pins with drq := drq } }
  refine ⟨fun due idle room k inOrder here first => ?granted, fun barred => ?barred⟩
  case granted =>
    have grantee : sampled.grantee = some (after k) := State.grantee_of_first (s := sampled) idle room inOrder here first
    rw [quiet.exec_uplinkGrant_eq, if_pos due, State.considerGrant_of_grantee grantee]
  case barred =>
    rw [quiet.exec_uplinkGrant_eq]
    cases due : s.arbiter.grantDue
    · rw [if_neg Bool.false_ne_true, ← due]
    · have nobody : sampled.grantee = none := State.grantee_eq_none (barred.resolve_left (by simp [due]))
      rw [if_pos rfl, State.considerGrant_of_none nobody]

/-! ### The header of a window (R139) -/

/-- The uplink kinds are 01h to 0Ch (R139). -/
theorem uplinkKind_iff (kind : BitVec 6) : uplinkKind kind = true ↔ 1 ≤ kind.toNat ∧ kind.toNat ≤ 12 := by
  simp [uplinkKind, BitVec.le_def]

section Header

variable {s : State} {d : Drop} {word : Word}

/-- A header of KIND 0 is the idle word (R139). -/
theorem State.judgeHeader_of_idle (idle : headerKind word = 0) : s.judgeHeader d word = s.closeWindow :=
  if_pos idle

/-- A header of an uplink kind with a LENGTH of 4 to 12 opens the message (R139). -/
theorem State.judgeHeader_of_accepted (low : 1 ≤ (headerKind word).toNat) (high : (headerKind word).toNat ≤ 12)
    (short : 4 ≤ headerLength word) (long : headerLength word ≤ 12) :
    s.judgeHeader d word =
      { s with arbiter := { s.arbiter with window := .receiving d (headerLength word) [word], wordDue := false } } := by
  have busy : headerKind word ≠ 0 := fun idle => by simp [idle] at low
  have uplink : uplinkKind (headerKind word) = true := (uplinkKind_iff _).mpr ⟨low, high⟩
  simp only [State.judgeHeader, busy, uplink, short, long, decide_true, Bool.and_self, if_true, if_false]

/-- Any other header is malformed (R139, R142). -/
theorem State.judgeHeader_of_malformed
    (bad : 12 < (headerKind word).toNat ∨
      (1 ≤ (headerKind word).toNat ∧ (headerLength word < 4 ∨ 12 < headerLength word))) :
    s.judgeHeader d word = s.closeWindow.makeNak d .malformed (headerKind word) := by
  have busy : headerKind word ≠ 0 := fun idle => by simp [idle] at bad
  have refused : (uplinkKind (headerKind word) && decide (4 ≤ headerLength word) && decide (headerLength word ≤ 12)) =
      false := by
    rw [Bool.eq_false_iff, ne_eq]
    simp only [Bool.and_eq_true, uplinkKind_iff, decide_eq_true_eq]
    omega
  simp only [State.judgeHeader, busy, refused, Bool.false_eq_true, if_false]

/-- The word of slot 1 of a window in GRANTED is judged where slot 1 belongs to the window (R138, R139). -/
theorem State.Quiet.exec_uplinkHeader_of_granted (quiet : s.Quiet) (granted : s.arbiter.window = .granted d) :
    exec (.uplinkHeader word) s = .next (if s.arbiter.wordDue then s.judgeHeader d word else s) := by
  refine congrArg Host.Outcome.next ((quiet.event_eq _).trans ?_)
  simp only [granted]

end Header

/-- Settles O9: KIND and LENGTH choose one of the three verdicts. -/
theorem headersAreJudged : Obligations.HeadersAreJudged := by
  intro s d word quiet granted kind length closed
  rw [quiet.exec_uplinkHeader_of_granted granted]
  refine ⟨fun past => by rw [past, if_neg Bool.false_ne_true], fun due => ?_⟩
  rw [if_pos due]
  refine ⟨fun idle => ?_, fun low high short long => ?_, fun bad => ?_⟩
  · exact congrArg _ (State.judgeHeader_of_idle idle)
  · exact congrArg _ (State.judgeHeader_of_accepted low high short long)
  · exact congrArg _ (State.judgeHeader_of_malformed bad)

/-! ### The words of a message (R140, R142, R143) -/

/-- The check word is right when the last word is the CRC of those before it (R140, R191). -/
theorem checkWordRight_append_iff (words : List Word) (word : Word) :
    checkWordRight (words ++ [word]) = true ↔ word = crc words := by
  simp [checkWordRight]

/-- The LENGTHs of R140, gathered by LENGTH. -/
theorem allowedLength_iff (kind : BitVec 6) (length : Nat) :
    allowedLength kind length = true ↔
      (kind.toNat ∈ [0x01, 0x04, 0x05, 0x06, 0x07, 0x09, 0x0A, 0x0C] ∧ length = 5) ∨
        (kind.toNat ∈ [0x02, 0x08] ∧ length = 4) ∨ (kind.toNat = 0x03 ∧ length = 7) ∨
        (kind.toNat = 0x0B ∧ (length = 7 ∨ length = 9 ∨ length = 11)) := by
  unfold allowedLength
  split <;> simp_all [or_assoc]

/-- A body of a length that R140 allows its KIND makes a message (R192). -/
theorem exists_uplinkMessage {kind : BitVec 6} {body : List Word} (allowed : allowedLength kind (body.length + 4) = true)
    (drop : Drop) (aux : Fin 64) (source : StationNumber) :
    ∃ message, uplinkMessage drop kind aux source body = some message := by
  obtain ⟨one, length⟩ | ⟨empty, length⟩ | ⟨three, length⟩ | ⟨part, length⟩ := (allowedLength_iff ..).mp allowed
  · obtain ⟨w, rfl⟩ := List.length_eq_one_iff.mp (show body.length = 1 by omega)
    simp only [List.mem_cons, List.not_mem_nil, or_false] at one
    unfold uplinkMessage
    obtain k | k | k | k | k | k | k | k := one <;> rw [k] <;> exact ⟨_, rfl⟩
  · obtain rfl := List.length_eq_zero_iff.mp (show body.length = 0 by omega)
    simp only [List.mem_cons, List.not_mem_nil, or_false] at empty
    unfold uplinkMessage
    obtain k | k := empty <;> rw [k] <;> exact ⟨_, rfl⟩
  · obtain ⟨high, low, w, rfl⟩ := List.length_eq_three.mp (show body.length = 3 by omega)
    unfold uplinkMessage
    rw [three]
    exact ⟨_, rfl⟩
  · obtain ⟨w, entries, rfl⟩ := List.exists_cons_of_length_pos (show 0 < body.length by omega)
    rw [List.length_cons] at length
    unfold uplinkMessage
    rw [part]
    obtain two | four | six : entries.length = 2 ∨ entries.length = 4 ∨ entries.length = 6 := by omega
    · obtain ⟨h1, l1, rfl⟩ := List.length_eq_two.mp two
      exact ⟨_, rfl⟩
    · obtain ⟨h1, l1, h2, l2, rfl⟩ := List.length_eq_four.mp four
      exact ⟨_, rfl⟩
    · obtain ⟨h1, _, rfl, five⟩ := List.length_eq_succ_iff.mp six
      obtain ⟨l1, _, rfl, four⟩ := List.length_eq_succ_iff.mp five
      obtain ⟨h2, l2, h3, l3, rfl⟩ := List.length_eq_four.mp four
      exact ⟨_, rfl⟩

/-- A message of a LENGTH that R140 allows its KIND is a good one. -/
theorem exists_messageOfWords {header : Word} {rest : List Word}
    (allowed : allowedLength (headerKind header) (header :: rest).length = true) (d : Drop) :
    ∃ message, messageOfWords d (header :: rest) = some message := by
  have long := (allowedLength_iff ..).mp allowed
  obtain _ | ⟨high, _ | ⟨low, _ | ⟨w, body⟩⟩⟩ := rest
  · simp at long
  · simp at long
  · simp at long
  · simp only [messageOfWords, allowed, if_true]
    exact exists_uplinkMessage (by simpa using allowed) ..

/-- A message of another LENGTH is none (R140). -/
theorem messageOfWords_eq_none {header : Word} {rest : List Word}
    (wrong : allowedLength (headerKind header) (header :: rest).length = false) (d : Drop) :
    messageOfWords d (header :: rest) = none := by
  unfold messageOfWords
  split
  · rename_i same
    obtain ⟨rfl, rfl⟩ := List.cons.inj same
    rw [wrong, if_neg Bool.false_ne_true]
  · rfl

section Words

variable {s : State} {d : Drop} {header word : Word} {rest : List Word}

/-- A message with a wrong check word is answered NAK(CHECK) (R140, R142). -/
theorem State.judgeMessage_of_bad_check (wrong : word ≠ crc (header :: rest)) :
    s.judgeMessage d (header :: rest ++ [word]) = s.closeWindow.makeNak d .checkWord (headerKind header) :=
  if_neg fun right => wrong ((checkWordRight_append_iff ..).mp right)

/-- A message with its check word right is judged by its LENGTH (R140, R142). -/
theorem State.judgeMessage_of_none (right : word = crc (header :: rest))
    (undecoded : messageOfWords d (header :: rest ++ [word]) = none) :
    s.judgeMessage d (header :: rest ++ [word]) = s.closeWindow.makeNak d .malformed (headerKind header) := by
  simp only [State.judgeMessage, (checkWordRight_append_iff ..).mpr right, undecoded, if_true]
  rfl

/-- A good message is handed on (R143). -/
theorem State.judgeMessage_of_some (right : word = crc (header :: rest)) {message : Instr}
    (good : messageOfWords d (header :: rest ++ [word]) = some message) :
    s.judgeMessage d (header :: rest ++ [word]) = { s.closeWindow with handedOn := s.handedOn ++ [message] } := by
  simp only [State.judgeMessage, (checkWordRight_append_iff ..).mpr right, good, if_true]
  rfl

/-- The word of slot 1 of a window in RECEIVING is taken where slot 1 belongs to the window (R138, R140). -/
theorem State.Quiet.exec_uplinkWord_of_receiving (quiet : s.Quiet) {expected : Nat} {words : List Word}
    (receiving : s.arbiter.window = .receiving d expected words) :
    exec (.uplinkWord word) s = .next (if s.arbiter.wordDue then s.takeWord d expected words word else s) := by
  refine congrArg Host.Outcome.next ((quiet.event_eq _).trans ?_)
  simp only [receiving]

end Words

/-- Settles O10: the last word brings the verdict, by the check word first and then by the LENGTH. -/
theorem wordsAreTaken : Obligations.WordsAreTaken := by
  intro s d expected header rest word quiet receiving kind received closed nak
  rw [quiet.exec_uplinkWord_of_receiving receiving]
  refine ⟨fun past => by rw [past, if_neg Bool.false_ne_true], fun due => ?_⟩
  rw [if_pos due]
  have last (all : expected ≤ received.length) :
      s.takeWord d expected (header :: rest) word = s.judgeMessage d received := if_pos all
  refine ⟨fun more => ?more, fun all wrong => ?check, fun all right wrong => ?malformed, fun all right allowed => ?good⟩
  case more => exact congrArg _ (if_neg (Nat.not_le.mpr more))
  case check => exact congrArg _ ((last all).trans (State.judgeMessage_of_bad_check wrong))
  case malformed =>
    exact congrArg _ ((last all).trans (State.judgeMessage_of_none right (messageOfWords_eq_none wrong d)))
  case good =>
    obtain ⟨message, decoded⟩ := exists_messageOfWords allowed d
    exact ⟨message, decoded, congrArg _ ((last all).trans (State.judgeMessage_of_some right decoded))⟩

/-! ### The lines (R134, R135, R141) -/

theorem Window.drop?_eq_some_iff (w : Window) (d : Drop) :
    w.drop? = some d ↔ w = .granted d ∨ ∃ expected words, w = .receiving d expected words := by
  cases w <;> simp [Window.drop?]

section Lines

variable {s : State} {d : Drop}

/-- The part with the request line of a drop low. -/
def State.drqLow (d : Drop) (s : State) : State :=
  { s with pins := { s.pins with drq := s.pins.drq &&& ~~~BitVec.twoPow 16 d.val } }

/-- The fall of DRQ at the window's drop closes the window with NAK(TRUNCATED) (R141, R142). -/
theorem State.Quiet.exec_drqFall_of_open (quiet : s.Quiet) (there : s.arbiter.window.drop? = some d) :
    exec (.drqFall d) s = .next ((s.drqLow d).closeWindow.makeNak d .truncated s.arbiter.window.kind) :=
  congrArg Host.Outcome.next ((quiet.lineEvent_eq (fun _ => _) fun _ => _).trans (if_pos there))

theorem State.Quiet.exec_drqFall_of_other (quiet : s.Quiet) (other : s.arbiter.window.drop? ≠ some d) :
    exec (.drqFall d) s = .next (s.drqLow d) :=
  congrArg Host.Outcome.next ((quiet.lineEvent_eq (fun _ => _) fun _ => _).trans (if_neg other))

theorem State.Quiet.exec_dprFall_of_open (quiet : s.Quiet) (there : s.arbiter.window.drop? = some d) :
    exec (.dprFall d) s = .next (State.closeWindow { s with pins := s.pins.lowerPresence d }) :=
  congrArg Host.Outcome.next ((quiet.lineEvent_eq (fun _ => _) fun _ => _).trans (if_pos there))

theorem State.Quiet.exec_dprFall_of_other (quiet : s.Quiet) (other : s.arbiter.window.drop? ≠ some d) :
    exec (.dprFall d) s = .next { s with pins := s.pins.lowerPresence d } :=
  congrArg Host.Outcome.next ((quiet.lineEvent_eq (fun _ => _) fun _ => _).trans (if_neg other))

/-- DGT is high exactly at the window's drop (R134, R136). -/
theorem State.dgt_iff : s.dgt d = true ↔ s.arbiter.window.drop? = some d := decide_eq_true_iff

/-- While full reset is held no window is open (R144). -/
theorem State.HeldLaw.window_idle (law : s.HeldLaw) (held : s.hold ≠ .running) : s.arbiter.window = .idle := by
  rw [law.atReset held]
  rfl

end Lines

/-- Settles O11: each fall asks whether the window is open on its drop, which is when that drop's DGT is high. -/
theorem linesCloseWindows : Obligations.LinesCloseWindows := by
  refine ⟨fun s d quiet => ?events, fun s d => ?high, fun s d e first second => ?one, fun s law held d => ?low⟩
  case events =>
    refine ⟨fun granted => ?_, fun expected header rest receiving => ?_, quiet.exec_drqFall_of_other,
      quiet.exec_dprFall_of_open, quiet.exec_dprFall_of_other, congrArg _ (quiet.lineEvent_eq _ _)⟩
    · rw [quiet.exec_drqFall_of_open ((Window.drop?_eq_some_iff ..).mpr (.inl granted)), granted]
      rfl
    · rw [quiet.exec_drqFall_of_open ((Window.drop?_eq_some_iff ..).mpr (.inr ⟨_, _, receiving⟩)), receiving]
      rfl
  case high => rw [State.dgt_iff, Window.drop?_eq_some_iff]
  case one => exact Option.some.inj ((State.dgt_iff.mp first).symm.trans (State.dgt_iff.mp second))
  case low => simp [State.dgt, law.window_idle held, Window.drop?]

/-! ### Departure and SYNC issue (R151, R152) -/

/-- The SYNC owner is the lowest handle whose record owes one (R152). -/
theorem State.syncOwner_eq_some {s : State} {h : Handle} {r : Station} (here : s.station h = some r)
    (owes : r.syncOwed = true) (lowest : ∀ k x, k < h → s.station k = some x → x.syncOwed = false) :
    s.syncOwner = some h := by
  refine (find?_finRange_eq_some_iff ..).mpr ⟨by simp [here, owes], fun k below => ?_⟩
  simpa [Option.any_eq_false] using fun x => lowest k x below

/-- No SYNC owner where no record owes one (R152). -/
theorem State.syncOwner_eq_none {s : State} (nobody : ∀ h r, s.station h = some r → r.syncOwed = false) :
    s.syncOwner = none := by
  simpa [State.syncOwner, allHandles, Option.any_eq_false] using nobody

/-- No SYNC is issued with fewer than 3 entries free or where none is owed (R152). -/
theorem State.issueSync_of_barred {s : State}
    (barred : 37 < s.downlink.held.length ∨ ∀ h r, s.station h = some r → r.syncOwed = false) : s.issueSync = s := by
  unfold State.issueSync
  split
  · rename_i h owner
    obtain full | nobody := barred
    · refine if_neg ?_
      simp only [State.downlinkFree, Config.downlinkCapacity, Config.downlinkAdmission]
      omega
    · cases owner.symm.trans (State.syncOwner_eq_none nobody)
  · rfl

/-- SYNC issue to the lowest handle that owes one, with 3 entries free (R152). -/
theorem State.issueSync_of_owner {s : State} (room : s.downlink.held.length ≤ 37) {h : Handle} {r : Station}
    (here : s.station h = some r) (owner : s.syncOwner = some h) :
    s.issueSync =
      { s with
        downlink := { s.downlink with held := s.downlink.held ++ [⟨r.number, .sync⟩] }
        stations := s.stations.set h (some { r with syncOwed := false }) } := by
  have free : Config.downlinkAdmission ≤ s.downlinkFree := by
    simp only [State.downlinkFree, Config.downlinkCapacity, Config.downlinkAdmission]
    omega
  have queued : (s.enqueue ⟨r.number, .sync⟩).station h = some r := here
  simp only [State.issueSync, owner, free, if_true, State.numberOf_of_station here, State.modifyStation, queued,
    Option.map_some]
  rfl

/-- The last word of the head has been sent when as many words as it has have been (R151). -/
theorem State.departureDue_iff {s : State} {m : DownMessage} {rest : List DownMessage}
    (held : s.downlink.held = m :: rest) : s.departureDue = true ↔ s.downlink.wordsSent = some m.words.length := by
  simp only [State.departureDue, held, decide_eq_true_eq]

/-- Settles O12: the departure makes the room that its SYNC issue needs. -/
theorem headDepartsWithItsSync : Obligations.HeadDepartsWithItsSync := by
  intro s m rest quiet held departed
  have taken : exec .messageDeparture s = .next (if s.departureDue then s.depart else s) :=
    congrArg _ (quiet.event_eq _)
  have departs : s.depart = departed.issueSync := by simp only [State.depart, held, List.tail_cons, departed]
  rw [taken]
  refine ⟨fun before => ?_, fun sent => ?_⟩
  · rw [if_neg fun due => before ((State.departureDue_iff held).mp due)]
  · rw [if_pos ((State.departureDue_iff held).mpr sent), departs]
    refine ⟨fun barred => ?_, fun h r room here owes lowest => ?_⟩
    · exact congrArg _ (State.issueSync_of_barred (s := departed) barred)
    · have owner : departed.syncOwner = some h := State.syncOwner_eq_some (s := departed) here owes lowest
      exact congrArg _ (State.issueSync_of_owner (s := departed) room here owner)

end Sys2Proof.Machine
end

section
/-! The words on the wire: the check word and the downlink messages (R140, R146, R191, R193). -/

namespace Sys2Proof.Machine

set_option Elab.async false -- one proof at a time: waiting proofs would hold a thread each

/-! ### Fields of a word, as numbers -/

/-- Two fields side by side, read as one number. -/
theorem toNat_append_eq_add {m n : Nat} (x : BitVec m) (y : BitVec n) : (x ++ y).toNat = 2 ^ n * x.toNat + y.toNat := by
  rw [BitVec.toNat_append, Nat.shiftLeft_eq, Nat.mul_comm, Nat.two_pow_add_eq_or_of_lt y.isLt]

/-- A bit as a number, with the place it stands at. -/
theorem ite_eq_mul_toNat (b : Bool) (place : Nat) : (if b then place else 0) = place * b.toNat := by
  cases b <;> simp

theorem Reference.byte_toNat (r : Reference) : r.byte.toNat = 32 * r.serial.toNat + r.index.val := by
  have := r.index.isLt
  simp only [Reference.byte, toNat_append_eq_add, BitVec.toNat_ofNat]
  omega

/-- The number of a header (R191). -/
theorem headerWord_toNat (kind aux : BitVec 6) {length : Nat} (short : length < 16) :
    (headerWord kind length aux).toNat = 1024 * kind.toNat + 64 * length + aux.toNat := by
  simp only [headerWord, toNat_append_eq_add, BitVec.toNat_ofNat]
  omega

theorem headerWord_eq_ofNat (kind aux : BitVec 6) {length : Nat} (short : length < 16) :
    headerWord kind length aux = BitVec.ofNat 16 (1024 * kind.toNat + 64 * length + aux.toNat) := by
  rw [← headerWord_toNat kind aux short, BitVec.ofNat_toNat, BitVec.setWidth_eq]

theorem highWord_eq_ofNat (n : StationNumber) : highWord n = BitVec.ofNat 16 (n.toNat / 65536) := by
  refine BitVec.eq_of_toNat_eq ?_
  simp [highWord, Nat.shiftRight_eq_div_pow]

theorem lowWord_eq_ofNat (n : StationNumber) : lowWord n = BitVec.ofNat 16 (n.toNat % 65536) := by
  refine BitVec.eq_of_toNat_eq ?_
  simp [lowWord]

/-! ### The check word (R191) -/

/-- One bit leads to a shifted register exactly from that register, where the bit is its bit 15. -/
theorem crcBit_eq_shiftLeft_iff (register v : BitVec 16) : crcBit register v.msb = v <<< 1 ↔ register = v := by
  unfold crcBit
  split
  · rename_i same
    refine ⟨fun shifted => BitVec.eq_of_getLsbD_eq fun k bound => ?_, fun equal => by rw [equal]⟩
    obtain rfl | below : k = 15 ∨ k < 15 := by omega
    · exact same.symm
    · have next : k + 1 < 16 := by omega
      have bit := congrArg (·.getLsbD (k + 1)) shifted
      simpa only [BitVec.getLsbD_shiftLeft, next, Nat.add_sub_cancel, decide_true, Nat.not_lt.mpr (Nat.le_add_left 1 k),
        decide_false, Bool.not_false, Bool.true_and] using bit
  · rename_i differ
    refine ⟨fun shifted => ?_, fun equal => absurd (congrArg BitVec.msb equal.symm) differ⟩
    simpa using congrArg (·.getLsbD 0) shifted

/-- The bits of a word below `n`, the highest first, lead to 0 exactly from the register that has them on top. -/
theorem foldl_crcBit_eq_zero_iff (w : Word) {n : Nat} (bound : n ≤ 16) (register : BitVec 16) :
    ((List.range n).reverse.map w.getLsbD).foldl crcBit register = 0 ↔ register = w <<< (16 - n) := by
  induction n generalizing register with
  | zero => simp
  | succ n ih =>
    have top : w.getLsbD n = (w <<< (15 - n)).msb := by
      rw [BitVec.msb_shiftLeft, BitVec.getMsbD_eq_getLsbD, decide_eq_true (by omega), Bool.true_and]
      congr 1
      omega
    have shifted : w <<< (16 - n) = (w <<< (15 - n)) <<< 1 := by
      rw [← BitVec.shiftLeft_add]
      congr 1
      omega
    rw [List.range_succ, List.reverse_append, List.map_append, List.foldl_append, ih (by omega), shifted]
    simp only [List.reverse_singleton, List.map_singleton, List.foldl_cons, List.foldl_nil, top]
    rw [crcBit_eq_shiftLeft_iff]
    simp

/-- The bits of a word in the order sent. -/
def sentBits (w : Word) : List Bool := [15, 14, 13, 12, 11, 10, 9, 8, 7, 6, 5, 4, 3, 2, 1, 0].map w.getLsbD

theorem crcWord_eq_foldl (register : BitVec 16) (w : Word) : crcWord register w = (sentBits w).foldl crcBit register := by
  rw [crcWord, sentBits, List.foldl_map]

/-- A word leads to 0 exactly from itself. -/
theorem crcWord_eq_zero_iff (register : BitVec 16) (w : Word) : crcWord register w = 0 ↔ w = register := by
  rw [crcWord_eq_foldl, eq_comm (a := w)]
  exact (foldl_crcBit_eq_zero_iff w (Nat.le_refl 16) register).trans (by simp)

/-- The register of R191 after the bits of the words. -/
theorem foldl_sentBits_eq (words : List Word) (register : BitVec 16) :
    (words.flatMap sentBits).foldl crcBit register = words.foldl crcWord register := by
  rw [List.foldl_flatMap]
  exact congrArg (fun step => words.foldl step register) (funext₂ fun r w => (crcWord_eq_foldl r w).symm)

/-- Over a whole message the register ends at 0 exactly where the last word is the check word. -/
theorem crc_append_eq_zero_iff (words : List Word) (word : Word) : crc (words ++ [word]) = 0 ↔ word = crc words := by
  rw [crc, List.foldl_append]
  exact crcWord_eq_zero_iff _ word

/-! ### The frame of a downlink message (R146, R191) -/

/-- The words are the numbers, one to a word. -/
def Spells (words : List Word) (fields : List Nat) : Prop := words = fields.map (BitVec.ofNat 16 ·)

theorem Spells.nil : Spells [] [] := rfl

theorem Spells.cons {w : Word} {v : Nat} {words : List Word} {fields : List Nat} (first : w = BitVec.ofNat 16 v)
    (rest : Spells words fields) : Spells (w :: words) (v :: fields) := by
  rw [Spells, first, rest, List.map_cons]

theorem Spells.one {w : Word} {v : Nat} (same : w = BitVec.ofNat 16 v) : Spells [w] [v] := .cons same .nil

/-- A station number before other words (R191). -/
theorem Spells.cons_number (n : StationNumber) {words : List Word} {fields : List Nat} (rest : Spells words fields) :
    Spells (highWord n :: lowWord n :: words) (n.toNat / 65536 :: n.toNat % 65536 :: fields) :=
  .cons (highWord_eq_ofNat n) (.cons (lowWord_eq_ofNat n) rest)

/-- A message is sent as the numbers of its fields. -/
theorem DownMessage.words_eq_ofNat {n : StationNumber} {body : DownBody} {kind aux : Nat} {fields : List Nat}
    (kindCode : body.kind.toNat = kind) (auxCode : body.aux.toNat = aux)
    (bodyWords : Spells body.words fields) (short : fields.length < 12) :
    let framed : List Word := ([1024 * kind + 64 * (fields.length + 4) + aux, n.toNat / 65536, n.toNat % 65536] ++
      fields).map fun v => BitVec.ofNat 16 v
    (DownMessage.mk n body).words = framed ++ [crc framed] := by
  rw [Spells] at bodyWords
  have length : body.length = fields.length + 4 := by simp [DownBody.length, bodyWords]
  have framed : (DownMessage.mk n body).framed =
      ([1024 * kind + 64 * (fields.length + 4) + aux, n.toNat / 65536, n.toNat % 65536] ++ fields).map
        fun v => BitVec.ofNat 16 v := by
    simp only [DownMessage.framed, length, headerWord_eq_ofNat _ _ (show fields.length + 4 < 16 by omega), kindCode, auxCode,
      highWord_eq_ofNat, lowWord_eq_ofNat, bodyWords, List.map_append, List.map_cons, List.map_nil]
  simp only [DownMessage.words, framed]

/-! ### Body words (R193) -/

/-- A slot list, two slot numbers to a word. -/
theorem spells_slotWords (slots : List Nat) (bearer : ∀ a ∈ slots, a ≤ 63) :
    Spells (slotWords slots) ((List.range ((slots.length + 1) / 2)).map fun k =>
      256 * slots[2 * k]?.getD 0 + slots[2 * k + 1]?.getD 0) := by
  induction slots using slotWords.induct with
  | case1 => rfl
  | case2 a =>
    have := bearer a (by simp)
    have word : BitVec.ofNat 8 a ++ (0 : BitVec 8) = BitVec.ofNat 16 (256 * a) := by
      refine BitVec.eq_of_toNat_eq ?_
      simp only [toNat_append_eq_add, BitVec.ofNat_eq_ofNat, BitVec.toNat_ofNat]
      omega
    simpa [slotWords] using Spells.one word
  | case3 a b rest ih =>
    have := bearer a (by simp)
    have := bearer b (by simp)
    have word : BitVec.ofNat 8 a ++ BitVec.ofNat 8 b = BitVec.ofNat 16 (256 * a + b) := by
      refine BitVec.eq_of_toNat_eq ?_
      simp only [toNat_append_eq_add, BitVec.toNat_ofNat]
      omega
    have count : ((a :: b :: rest).length + 1) / 2 = (rest.length + 1) / 2 + 1 := by
      simp only [List.length_cons]
      omega
    rw [count, List.range_succ_eq_map, List.map_cons, List.map_map]
    exact .cons word (ih fun x there => bearer x (by simp [there]))

/-- A reference with a number of eight bits. -/
theorem byte_append_eq_ofNat (r : Reference) {v : Nat} (bound : v ≤ 255) :
    r.byte ++ BitVec.ofNat 8 v = BitVec.ofNat 16 (256 * (32 * r.serial.toNat + r.index.val) + v) := by
  refine BitVec.eq_of_toNat_eq ?_
  have := r.index.isLt
  have := r.serial.isLt
  simp only [toNat_append_eq_add, Reference.byte_toNat, BitVec.toNat_ofNat]
  omega

/-- The first word of a WELCOME. -/
theorem welcomeWord_eq_ofNat (handle : Handle) (cls : ClassNo) (flag : Bool) {quota : Nat} (bound : quota ≤ 16) :
    BitVec.ofNat 6 handle.val ++ BitVec.ofNat 5 quota ++ BitVec.ofNat 2 cls.val ++ (0 : BitVec 2) ++ BitVec.ofBool flag =
      BitVec.ofNat 16 (1024 * handle.val + 32 * quota + 8 * cls.val + if flag then 1 else 0) := by
  refine BitVec.eq_of_toNat_eq ?_
  have := handle.isLt
  have := flag.toNat_lt
  simp only [toNat_append_eq_add, BitVec.toNat_ofBool, ite_eq_mul_toNat, BitVec.ofNat_eq_ofNat, BitVec.toNat_ofNat]
  omega

theorem refuseWord_tag_eq_ofNat : ∀ tag : Tag, refuseWord (some tag) none = BitVec.ofNat 16 (32768 + 256 * tag.val) := by
  decide

theorem refuseWord_reference_eq_ofNat (r : Reference) :
    refuseWord none (some r) = BitVec.ofNat 16 (16384 + (32 * r.serial.toNat + r.index.val)) := by
  refine BitVec.eq_of_toNat_eq ?_
  have := r.index.isLt
  have := r.serial.isLt
  simp only [refuseWord, toNat_append_eq_add, BitVec.toNat_ofBool, BitVec.ofNat_eq_ofNat, BitVec.toNat_ofNat,
    Option.map_some, Option.map_none, Option.getD_some, Option.getD_none, Option.isSome_none, Option.isSome_some,
    Bool.toNat_true, Bool.toNat_false, Reference.byte_toNat]
  omega

theorem offerWord_eq_ofNat (r : Reference) (cls : ClassNo) (flag : Bool) {answer : Nat} (bound : answer ≤ 15) :
    r.byte ++ BitVec.ofNat 4 answer ++ BitVec.ofNat 2 cls.val ++ (0 : BitVec 1) ++ BitVec.ofBool flag =
      BitVec.ofNat 16 (256 * (32 * r.serial.toNat + r.index.val) + 16 * answer + 4 * cls.val + if flag then 1 else 0) := by
  refine BitVec.eq_of_toNat_eq ?_
  have := r.index.isLt
  have := r.serial.isLt
  have := flag.toNat_lt
  simp only [toNat_append_eq_add, BitVec.toNat_ofBool, ite_eq_mul_toNat, BitVec.ofNat_eq_ofNat, BitVec.toNat_ofNat,
    Reference.byte_toNat]
  omega

/-- The second word of a GRANT. -/
theorem grantWord_eq_ofNat (role : Role) (cls : ClassNo) (tag : Tag) :
    role.bit ++ (0 : BitVec 1) ++ BitVec.ofNat 2 cls.val ++ BitVec.ofNat 4 tag.val ++ (0 : BitVec 8) =
      BitVec.ofNat 16 (32768 * role.bit.toNat + 4096 * cls.val + 256 * tag.val) := by
  refine BitVec.eq_of_toNat_eq ?_
  have := role.bit.isLt
  simp only [toNat_append_eq_add, BitVec.ofNat_eq_ofNat, BitVec.toNat_ofNat]
  omega

theorem ConnectionState.code_le (state : ConnectionState) : state.code ≤ 2 := by
  cases state <;> decide

/-- The second word of a STATUS. -/
theorem statusWord_eq_ofNat (state : ConnectionState) (role : Role) (cls : ClassNo) (flag pinned : Bool) (tag : Tag) :
    BitVec.ofNat 2 state.code ++ role.bit ++ BitVec.ofBool pinned ++ BitVec.ofBool flag ++ (0 : BitVec 1) ++
        BitVec.ofNat 2 cls.val ++ (0 : BitVec 4) ++ BitVec.ofNat 4 tag.val =
      BitVec.ofNat 16 (16384 * state.code + 8192 * role.bit.toNat + (if pinned then 4096 else 0) +
        (if flag then 2048 else 0) + 256 * cls.val + tag.val) := by
  refine BitVec.eq_of_toNat_eq ?_
  have := state.code_le
  have := role.bit.isLt
  have := pinned.toNat_lt
  have := flag.toNat_lt
  simp only [toNat_append_eq_add, BitVec.toNat_ofBool, ite_eq_mul_toNat, BitVec.ofNat_eq_ofNat, BitVec.toNat_ofNat]
  omega

/-- The word of a STATUS_END. -/
theorem statusEndWord_eq_ofNat (count : Nat) (waiting : Option Tag) :
    BitVec.ofNat 4 count ++ (0 : BitVec 3) ++ BitVec.ofBool waiting.isSome ++ (0 : BitVec 4) ++
        BitVec.ofNat 4 ((waiting.map (·.val)).getD 0) =
      BitVec.ofNat 16 (4096 * count + 256 * waiting.isSome.toNat + (waiting.map (·.val)).getD 0) := by
  refine BitVec.eq_of_toNat_eq ?_
  have tag : (waiting.map (·.val)).getD 0 < 16 := by
    cases waiting with
    | none => decide
    | some tag => exact tag.isLt
  have := waiting.isSome.toNat_lt
  simp only [toNat_append_eq_add, BitVec.toNat_ofBool, BitVec.ofNat_eq_ofNat, BitVec.toNat_ofNat]
  omega

/-- The word of a RELEASED. -/
theorem releasedWord_eq_ofNat (r : Reference) :
    (0 : BitVec 8) ++ r.byte = BitVec.ofNat 16 (32 * r.serial.toNat + r.index.val) := by
  refine BitVec.eq_of_toNat_eq ?_
  have := r.index.isLt
  have := r.serial.isLt
  simp only [toNat_append_eq_add, Reference.byte_toNat, BitVec.ofNat_eq_ofNat, BitVec.toNat_ofNat]
  omega

/-- The word of a NAK. -/
theorem nakWord_eq_ofNat (kind : BitVec 6) : (0 : BitVec 10) ++ kind = BitVec.ofNat 16 kind.toNat := by
  refine BitVec.eq_of_toNat_eq ?_
  have := kind.isLt
  simp only [toNat_append_eq_add, BitVec.ofNat_eq_ofNat, BitVec.toNat_ofNat]
  omega

/-- The word of a ROSTER_REJECT. -/
theorem rejectWord_eq_ofNat (generation : Byte) : generation ++ (0 : BitVec 8) = BitVec.ofNat 16 (256 * generation.toNat) := by
  refine BitVec.eq_of_toNat_eq ?_
  have := generation.isLt
  simp only [toNat_append_eq_add, BitVec.ofNat_eq_ofNat, BitVec.toNat_ofNat]
  omega

/-- The word of a ROSTER_OK. -/
theorem generationWord_eq_ofNat (generation : Byte) {low : Nat} (bound : low ≤ 15) :
    generation ++ (0 : BitVec 4) ++ BitVec.ofNat 4 low = BitVec.ofNat 16 (256 * generation.toNat + low) := by
  refine BitVec.eq_of_toNat_eq ?_
  have := generation.isLt
  simp only [toNat_append_eq_add, BitVec.ofNat_eq_ofNat, BitVec.toNat_ofNat]
  omega

/-- Settles O15: a word leads the register to 0 from itself alone, and the body words of each kind are the numbers of its
fields. -/
theorem downlinkMessagesAreFramed : Obligations.DownlinkMessagesAreFramed := by
  refine ⟨?crc, fun reason => ?codes, ?framed⟩
  case crc =>
    intro bits register words word
    have computed (list : List Word) : register list = crc list := foldl_sentBits_eq list 0xFFFF
    rw [computed, computed]
    exact ⟨rfl, crc_append_eq_zero_iff .., rfl, checkWordRight_append_iff ..⟩
  case framed =>
    intro n number reference reason cls tag role width amount flag pinned slots wide few bearer high low named roleBit pairs
      sent
    have roleNumber : role.bit.toNat = roleBit := by cases role <;> rfl
    have list : Spells (slotWords slots) pairs := spells_slotWords slots bearer
    have short : pairs.length ≤ 4 := by
      simp only [pairs, List.length_map, List.length_range]
      omega
    have sends (body : DownBody) (kind aux : Nat) (fields : List Nat) (kindCode : body.kind.toNat = kind)
        (auxCode : body.aux.toNat = aux) (words : Spells body.words fields) (fits : fields.length ≤ pairs.length + 4) :
        sent body kind aux fields := DownMessage.words_eq_ofNat kindCode auxCode words (by omega)
    have widthAux : (BitVec.ofNat 6 width).toNat = width := by
      rw [BitVec.toNat_ofNat]
      omega
    refine ⟨fun handle bound => ?welcome, ?refuse, ?refuseTag, ?refuseReference, ?drop, ?dropTag, ?dropReference, ?queued,
      fun bound => ?offer, fun bound => ⟨?grant, ?renewed, fun state => ?status⟩, ?released,
      fun _ => ⟨?statusEnd, ?statusEndTag⟩, fun generation => ⟨fun bound => ?rosterOk, ?rosterReject⟩, ?evicted, ?sync,
      fun kind => ?nak, ?resetAll, ?closed, ?opened, ?draining⟩
    case welcome => exact sends _ _ _ _ rfl rfl (.one (welcomeWord_eq_ofNat handle cls flag bound)) (by simp)
    case refuse => exact sends _ _ _ _ rfl rfl (.one rfl) (by simp)
    case refuseTag => exact sends _ _ _ _ rfl rfl (.one (refuseWord_tag_eq_ofNat tag)) (by simp)
    case refuseReference => exact sends _ _ _ _ rfl rfl (.one (refuseWord_reference_eq_ofNat reference)) (by simp)
    case drop => exact sends _ _ _ _ rfl rfl (.cons rfl (.cons_number number .nil)) (by simp)
    case dropTag =>
      exact sends _ _ _ _ rfl rfl (.cons (refuseWord_tag_eq_ofNat tag) (.cons_number number .nil)) (by simp)
    case dropReference =>
      exact sends _ _ _ _ rfl rfl (.cons (refuseWord_reference_eq_ofNat reference) (.cons_number number .nil)) (by simp)
    case queued => exact sends _ _ _ _ rfl (Nat.mod_eq_of_lt (by omega)) .nil (by simp)
    case offer =>
      exact sends _ _ _ _ rfl widthAux
        (.cons (offerWord_eq_ofNat reference cls flag bound) (.cons_number number list)) (by simp)
    case grant =>
      exact sends _ _ _ _ rfl widthAux
        (.cons (byte_append_eq_ofNat reference bound)
          (.cons (roleNumber ▸ grantWord_eq_ofNat role cls tag) (.cons_number number list))) (by simp)
    case renewed => exact sends _ _ _ _ rfl rfl (.one (byte_append_eq_ofNat reference bound)) (by simp)
    case status =>
      have word := statusWord_eq_ofNat state role cls flag pinned tag
      rw [roleNumber] at word
      refine sends _ _ _ _ rfl widthAux
        (.cons (byte_append_eq_ofNat reference bound) (.cons (word.trans ?_) (.cons_number number list))) (by simp)
      cases state <;> rfl
    case released => exact sends _ _ _ _ rfl rfl (.one (releasedWord_eq_ofNat reference)) (by simp)
    case statusEnd => exact sends _ _ _ _ rfl rfl (.one (statusEndWord_eq_ofNat amount none)) (by simp)
    case statusEndTag => exact sends _ _ _ _ rfl rfl (.one (statusEndWord_eq_ofNat amount (some tag))) (by simp)
    case rosterOk => exact sends _ _ _ _ rfl rfl (.one (generationWord_eq_ofNat generation bound)) (by simp)
    case rosterReject => exact sends _ _ _ _ rfl rfl (.one (rejectWord_eq_ofNat generation)) (by simp)
    case nak => exact sends _ _ _ _ rfl rfl (.one (nakWord_eq_ofNat kind)) (by simp)
    all_goals exact sends _ _ _ _ rfl rfl .nil (by simp)
  case codes => cases reason <;> decide

end Sys2Proof.Machine
end

section
/-! The words a station sends are read back as the message they were sent for (R140, R191, R192). -/

namespace Sys2Proof.Machine

set_option Elab.async false -- one proof at a time: waiting proofs would hold a thread each

/-! ### Fields read back -/

/-- A field of a word is the value at its place. -/
theorem extractLsb'_of_toNat {n : Nat} {w : BitVec n} {start len : Nat} {x : BitVec len}
    (value : w.toNat / 2 ^ start % 2 ^ len = x.toNat) : w.extractLsb' start len = x :=
  BitVec.eq_of_toNat_eq (by rw [BitVec.extractLsb'_toNat, Nat.shiftRight_eq_div_pow, value])

theorem toFin_extractLsb'_of_toNat {n : Nat} {w : BitVec n} {start len : Nat} {x : Fin (2 ^ len)}
    (value : w.toNat / 2 ^ start % 2 ^ len = x.val) : (w.extractLsb' start len).toFin = x :=
  Fin.ext (by rw [BitVec.val_toFin, BitVec.extractLsb'_toNat, Nat.shiftRight_eq_div_pow, value])

theorem getLsbD_of_toNat {w : Word} {k : Nat} {b : Bool} (value : w.toNat / 2 ^ k % 2 = b.toNat) : w.getLsbD k = b := by
  rw [← BitVec.testBit_toNat, Nat.testBit_eq_decide_div_mod_eq, value]
  cases b <;> rfl

section Header

variable (kind aux : BitVec 6) {length : Nat} (short : length < 16)
include short

theorem headerKind_headerWord : headerKind (headerWord kind length aux) = kind := by
  refine extractLsb'_of_toNat ?_
  rw [headerWord_toNat kind aux short]
  omega

theorem headerLength_headerWord : headerLength (headerWord kind length aux) = length := by
  have field : (headerWord kind length aux).extractLsb' 6 4 = BitVec.ofNat 4 length := by
    refine extractLsb'_of_toNat ?_
    rw [headerWord_toNat kind aux short, BitVec.toNat_ofNat]
    omega
  rw [headerLength, field, BitVec.toNat_ofNat]
  exact Nat.mod_eq_of_lt short

theorem headerAux_headerWord : headerAux (headerWord kind length aux) = aux.toFin := by
  refine congrArg BitVec.toFin (extractLsb'_of_toNat ?_)
  rw [headerWord_toNat kind aux short]
  omega

end Header

theorem numberOfWords_highWord_lowWord (n : StationNumber) : numberOfWords (highWord n) (lowWord n) = n := by
  refine BitVec.eq_of_toNat_eq ?_
  simp only [numberOfWords, toNat_append_eq_add, highWord_eq_ofNat, lowWord_eq_ofNat, BitVec.toNat_ofNat]
  omega

theorem Reference.ofByte_byte (r : Reference) : Reference.ofByte r.byte = r := by
  have index : (r.byte.extractLsb' 0 5).toFin = r.index :=
    toFin_extractLsb'_of_toNat (by rw [Reference.byte_toNat]; omega)
  have serial : r.byte.extractLsb' 5 3 = r.serial :=
    extractLsb'_of_toNat (by rw [Reference.byte_toNat]; omega)
  rw [Reference.ofByte, index, serial]

theorem referenceOfWord_referenceWord (r : Reference) : referenceOfWord (referenceWord r) = r := by
  have field : (referenceWord r).extractLsb' 0 8 = r.byte := by
    refine extractLsb'_of_toNat ?_
    have := r.byte.isLt
    rw [referenceWord, BitVec.toNat_setWidth]
    omega
  rw [referenceOfWord, field, Reference.ofByte_byte]

theorem stationKindOf_kindBit (kind : StationKind) : stationKindOf (kind = .relay) = kind := by
  cases kind <;> rfl

/-! ### The frame of an uplink message (R191) -/

/-- The words of a window of the drop are those of a good message, and it is this one (R140). -/
def Decodes (drop : Drop) (words : List Word) (i : Instr) : Prop :=
  messageOfWords drop words = some i ∧ checkWordRight words = true ∧
    ∃ header rest, words = header :: rest ∧ headerLength header = words.length ∧
      allowedLength (headerKind header) words.length = true

/-- A body that its KIND reads as a message is read so from the words sent (R140). -/
theorem uplinkFrame_decodes {kind aux : BitVec 6} {source : StationNumber} {body : List Word} {drop : Drop} {i : Instr}
    (allowed : allowedLength kind (4 + body.length) = true)
    (decoded : uplinkMessage drop kind aux.toFin source body = some i) :
    Decodes drop (uplinkFrame kind aux source body) i := by
  have short : 4 + body.length < 16 := by
    have lengths := (allowedLength_iff ..).mp allowed
    omega
  have length : (uplinkFrame kind aux source body).length = 4 + body.length := by
    simp [uplinkFrame]
    omega
  have headed := headerKind_headerWord kind aux short
  refine ⟨?_, (checkWordRight_append_iff ..).mpr rfl, _, _, rfl, ?_, ?_⟩
  · have long : (headerWord kind (4 + body.length) aux :: highWord source :: lowWord source ::
        (body ++ [crc (headerWord kind (4 + body.length) aux :: highWord source :: lowWord source :: body)])).length =
        4 + body.length := length
    simp only [uplinkFrame, List.cons_append, messageOfWords, long, headed, allowed, if_true, List.dropLast_concat,
      headerAux_headerWord kind aux short, numberOfWords_highWord_lowWord, decoded]
  · rw [length]
    exact headerLength_headerWord kind aux short
  · rw [length, headed, allowed]

/-- A message whose body is a reference is read back with it (R192). -/
theorem uplinkFrame_decodes_reference {kind aux : BitVec 6} {source : StationNumber} {drop : Drop} {make : Reference → Instr}
    (allowed : allowedLength kind 5 = true)
    (read : ∀ w, uplinkMessage drop kind aux.toFin source [w] = some (make (referenceOfWord w))) (r : Reference) :
    Decodes drop (uplinkFrame kind aux source [referenceWord r]) (make r) :=
  uplinkFrame_decodes allowed ((read _).trans (by rw [referenceOfWord_referenceWord]))

/-! ### Bodies read back (R192) -/

section Bodies

variable (drop : Drop) (aux : Fin 64) (source : StationNumber) {w : Word}

theorem uplinkMessage_attach (kind : StationKind) (cls : ClassNo)
    (number : w.toNat = 32768 * (decide (kind = .relay)).toNat + cls.val) :
    uplinkMessage drop 0x01 aux source [w] = some (.attach drop source kind cls) := by
  have relay : w.getLsbD 15 = decide (kind = .relay) := getLsbD_of_toNat (by rw [number]; omega)
  have classNo : (w.extractLsb' 0 2).toFin = cls := toFin_extractLsb'_of_toNat (by rw [number]; omega)
  refine congrArg some ?_
  rw [relay, classNo, stationKindOf_kindBit]

theorem uplinkMessage_request (peer : StationNumber) (cls : ClassNo) (contiguous : Bool) (width : Fin 16) (tag : Tag)
    (number : w.toNat = 16384 * cls.val + 8192 * contiguous.toNat + 256 * width.val + tag.val) :
    uplinkMessage drop 0x03 aux source [highWord peer, lowWord peer, w] =
      some (.request drop source peer cls contiguous width tag) := by
  have := contiguous.toNat_lt
  have classNo : (w.extractLsb' 14 2).toFin = cls := toFin_extractLsb'_of_toNat (by rw [number]; omega)
  have form : w.getLsbD 13 = contiguous := getLsbD_of_toNat (by rw [number]; omega)
  have slots : (w.extractLsb' 8 4).toFin = width := toFin_extractLsb'_of_toNat (by rw [number]; omega)
  have tagged : tagOfWord w = tag := toFin_extractLsb'_of_toNat (by rw [number]; omega)
  refine congrArg some ?_
  rw [numberOfWords_highWord_lowWord, classNo, form, slots, tagged]

theorem uplinkMessage_rosterBegin (generation : Byte) (count : Fin 16) (depth : Fin 4) (depthExceeded countExceeded : Bool)
    (number : w.toNat =
      256 * generation.toNat + 16 * count.val + 4 * depth.val + 2 * depthExceeded.toNat + countExceeded.toNat) :
    uplinkMessage drop 0x0A aux source [w] =
      some (.rosterBegin drop source generation count depth depthExceeded countExceeded) := by
  have := depthExceeded.toNat_lt
  have := countExceeded.toNat_lt
  have numbered : w.extractLsb' 8 8 = generation := extractLsb'_of_toNat (by rw [number]; omega)
  have counted : (w.extractLsb' 4 4).toFin = count := toFin_extractLsb'_of_toNat (by rw [number]; omega)
  have deep : (w.extractLsb' 2 2).toFin = depth := toFin_extractLsb'_of_toNat (by rw [number]; omega)
  have tooDeep : w.getLsbD 1 = depthExceeded := getLsbD_of_toNat (by rw [number]; omega)
  have tooMany : w.getLsbD 0 = countExceeded := getLsbD_of_toNat (by rw [number]; omega)
  refine congrArg some ?_
  rw [numbered, counted, deep, tooDeep, tooMany]

end Bodies

/-- The group of an entry is read back with its number (R192). -/
theorem entryOfWords_of_group {attributes : Word} {k : Nat} (placed : k ≤ 2) {e : RosterEntry}
    (group : attributes.toNat / 2 ^ (12 - 4 * k) % 16 = (entryGroup [e] 0).toNat) :
    entryOfWords attributes k (highWord e.number) (lowWord e.number) = e := by
  have bits : (entryGroup [e] 0).toNat = 8 * (decide (e.kind = .relay)).toNat + e.tier.val := by
    simp only [entryGroup, List.getElem?_cons_zero, kindBit, toNat_append_eq_add, BitVec.toNat_ofBool, BitVec.toNat_ofNat]
    omega
  rw [bits] at group
  have := (decide (e.kind = .relay)).toNat_lt
  have relay : attributes.getLsbD (15 - 4 * k) = decide (e.kind = .relay) := by
    refine getLsbD_of_toNat ?_
    obtain rfl | rfl | rfl : k = 0 ∨ k = 1 ∨ k = 2 := by omega
    all_goals omega
  have tier : (attributes.extractLsb' (12 - 4 * k) 3).toFin = e.tier := by
    refine toFin_extractLsb'_of_toNat ?_
    omega
  rw [entryOfWords, numberOfWords_highWord_lowWord, relay, tier, stationKindOf_kindBit]

/-- The groups of a ROSTER_PART, as one number (R192). -/
theorem groups_toNat (entries : List RosterEntry) :
    (entryGroup entries 0 ++ entryGroup entries 1 ++ entryGroup entries 2 ++ (0 : BitVec 4)).toNat =
      4096 * (entryGroup entries 0).toNat + 256 * (entryGroup entries 1).toNat + 16 * (entryGroup entries 2).toNat := by
  simp only [toNat_append_eq_add, BitVec.ofNat_eq_ofNat, BitVec.toNat_ofNat]
  omega

/-- Each entry of a ROSTER_PART is read back from its group and its number (R192). -/
theorem entryOfWords_groups {entries : List RosterEntry} {k : Nat} (placed : k ≤ 2) {e : RosterEntry}
    (there : entries[k]? = some e) :
    entryOfWords (entryGroup entries 0 ++ entryGroup entries 1 ++ entryGroup entries 2 ++ (0 : BitVec 4)) k
      (highWord e.number) (lowWord e.number) = e := by
  refine entryOfWords_of_group placed ?_
  have same : entryGroup [e] 0 = entryGroup entries k := by
    rw [entryGroup, entryGroup, there]
    rfl
  have := (entryGroup entries 0).isLt
  have := (entryGroup entries 1).isLt
  have := (entryGroup entries 2).isLt
  rw [same, groups_toNat]
  obtain rfl | rfl | rfl : k = 0 ∨ k = 1 ∨ k = 2 := by omega
  all_goals omega

theorem uplinkMessage_rosterPart (drop : Drop) (aux : Fin 64) (source : StationNumber) {entries : List RosterEntry}
    (least : 1 ≤ entries.length) (most : entries.length ≤ 3) :
    uplinkMessage drop 0x0B aux source (partBody entries) = some (.rosterPart drop source aux entries) := by
  obtain one | two | three : entries.length = 1 ∨ entries.length = 2 ∨ entries.length = 3 := by omega
  · obtain ⟨a, rfl⟩ := List.length_eq_one_iff.mp one
    have first := entryOfWords_groups (entries := [a]) (k := 0) (by decide) rfl
    refine congrArg (fun list => some (Instr.rosterPart drop source aux list)) ?_
    rw [first]
  · obtain ⟨a, b, rfl⟩ := List.length_eq_two.mp two
    have first := entryOfWords_groups (entries := [a, b]) (k := 0) (by decide) rfl
    have second := entryOfWords_groups (entries := [a, b]) (k := 1) (by decide) rfl
    refine congrArg (fun list => some (Instr.rosterPart drop source aux list)) ?_
    rw [first, second]
  · obtain ⟨a, b, c, rfl⟩ := List.length_eq_three.mp three
    have first := entryOfWords_groups (entries := [a, b, c]) (k := 0) (by decide) rfl
    have second := entryOfWords_groups (entries := [a, b, c]) (k := 1) (by decide) rfl
    have third := entryOfWords_groups (entries := [a, b, c]) (k := 2) (by decide) rfl
    refine congrArg (fun list => some (Instr.rosterPart drop source aux list)) ?_
    rw [first, second, third]

/-- A ROSTER_PART of one to three entries has a LENGTH of 7, 9 or 11 (R140). -/
theorem allowedLength_rosterPart {entries : List RosterEntry} (least : 1 ≤ entries.length) (most : entries.length ≤ 3) :
    allowedLength 0x0B (4 + (partBody entries).length) = true := by
  refine (allowedLength_iff ..).mpr (.inr (.inr (.inr ⟨rfl, ?_⟩)))
  have length : (partBody entries).length = 2 * entries.length + 1 := by
    simp [partBody]
    omega
  omega

/-- Settles O14: a frame carries its KIND, source and body over, and the body of each kind is read back. -/
theorem uplinkMessagesDecode : Obligations.UplinkMessagesDecode := by
  intro i drop words good sent
  cases i <;> cases sent
  case attach source kind cls =>
    refine uplinkFrame_decodes rfl (uplinkMessage_attach drop _ source kind cls ?_)
    simp only [kindBit, toNat_append_eq_add, BitVec.toNat_ofBool, BitVec.ofNat_eq_ofNat, BitVec.toNat_ofNat]
    omega
  case detach | query => exact uplinkFrame_decodes rfl rfl
  case request source peer cls contiguous width tag =>
    refine uplinkFrame_decodes rfl (uplinkMessage_request drop _ source peer cls contiguous width tag ?_)
    simp only [toNat_append_eq_add, BitVec.toNat_ofBool, BitVec.ofNat_eq_ofNat, BitVec.toNat_ofNat]
    omega
  case accept source reference =>
    exact uplinkFrame_decodes_reference (make := .accept drop source) rfl (fun _ => rfl) reference
  case decline source reference =>
    exact uplinkFrame_decodes_reference (make := .decline drop source) rfl (fun _ => rfl) reference
  case renew source reference =>
    exact uplinkFrame_decodes_reference (make := .renew drop source) rfl (fun _ => rfl) reference
  case release source reference =>
    exact uplinkFrame_decodes_reference (make := .release drop source) rfl (fun _ => rfl) reference
  case cancel source tag =>
    have tagged : tagOfWord (BitVec.ofNat 16 tag.val) = tag :=
      toFin_extractLsb'_of_toNat (by rw [BitVec.toNat_ofNat]; omega)
    exact uplinkFrame_decodes rfl (congrArg (fun x => some (Instr.cancel drop source x)) tagged)
  case rosterBegin source generation count depth depthExceeded countExceeded =>
    refine uplinkFrame_decodes rfl
      (uplinkMessage_rosterBegin drop _ source generation count depth depthExceeded countExceeded ?_)
    simp only [toNat_append_eq_add, BitVec.toNat_ofBool, BitVec.toNat_ofNat]
    omega
  case rosterPart source partIndex entries =>
    have bounds : 1 ≤ entries.length ∧ entries.length ≤ 3 := by simpa [Instr.wellFormed] using good
    have index : (BitVec.ofNat 6 partIndex.val).toFin = partIndex := Fin.ext (Nat.mod_eq_of_lt partIndex.isLt)
    obtain ⟨least, most⟩ := bounds
    exact uplinkFrame_decodes (allowedLength_rosterPart least most)
      ((uplinkMessage_rosterPart drop _ source least most).trans
        (congrArg (fun x => some (Instr.rosterPart drop source x entries)) index))
  case rosterEnd source generation =>
    have numbered : (generation ++ (0 : BitVec 8) : Word).extractLsb' 8 8 = generation := by
      refine extractLsb'_of_toNat ?_
      simp only [toNat_append_eq_add, BitVec.ofNat_eq_ofNat, BitVec.toNat_ofNat]
      omega
    exact uplinkFrame_decodes rfl (congrArg (fun g => some (Instr.rosterEnd drop source g)) numbered)

end Sys2Proof.Machine
end

section
/-! OPEN and CLOSE, exactly (R157, R163, R164). -/

namespace Sys2Proof.Machine

set_option Elab.async false -- one proof at a time: waiting proofs would hold a thread each

/-! ### OPEN (R157) -/

theorem State.openWork_of_opened {s : State} (opened : s.highway = .opened) : s.openWork = s.done := by
  simp only [State.openWork, opened]

theorem State.openWork_of_not_opened {s : State} (shut : s.highway ≠ .opened) :
    s.openWork = (State.broadcast (.highwayState .opened) { s with highway := .opened }).done := by
  cases state : s.highway with
  | opened => exact absurd state shut
  | closed | draining => simp only [State.openWork, state]

/-! ### CLOSE (R163, R164) -/

/-- CONNECTION RECORDS counts the indices in use (R171). -/
theorem State.connectionCount_eq (s : State) :
    s.connectionCount = ((List.finRange 32).filter fun i => (s.connection i).isSome).length := by
  rw [State.connectionCount, State.inUse, List.length_filterMap_eq_countP, List.countP_eq_length_filter]
  rfl

/-- CLOSE in one update: LEFT and LEASE are raised where records were removed (R163, R164). -/
theorem State.closeHighway_eq (s : State) : s.closeHighway =
    { s with
      highway := .closed
      stations := State.reset.stations
      assemblies := State.reset.assemblies
      connections := State.reset.connections
      slots := State.reset.slots
      waitQueue := []
      downlink := ⟨[resetAllMessage, ⟨0xFFFFFFFF, .highwayState .closed⟩], none, s.downlink.hdo⟩
      directoryChanges := s.directoryChanges + BitVec.ofNat 16 s.stationCount
      connectionChanges := s.connectionChanges + BitVec.ofNat 16 s.connectionCount
      flags := s.flags ||| (if s.stationCount = 0 then 0 else 0x2) ||| (if s.connectionCount = 0 then 0 else 0x4) } := by
  have maskIf (n : Nat) (f : Flag) : (if (n != 0) = true then f.mask else 0) = if n = 0 then 0 else f.mask := by
    by_cases none : n = 0 <;> simp [none]
  rw [State.closeHighway, State.raiseIf_eq, State.raiseIf_flags, State.raiseIf_eq, State.raiseIf_flags, maskIf, maskIf]
  rfl

/-- Settles O46. -/
theorem openAndCloseSetTheHighway : Obligations.OpenAndCloseSetTheHighway := by
  refine ⟨fun s ready => ?_, fun s ready => ?_⟩
  · have opens : exec .openHighway s = .next (s.openWork.part.finished s.openWork.result s.openWork.readout) :=
      congrArg _ (ready.runCommand_eq State.openWork)
    refine ⟨fun opened => ?_, fun shut => ?_⟩
    · rw [opens, State.openWork_of_opened opened]
      rfl
    · rw [opens, State.openWork_of_not_opened shut]
      rfl
  · intro stations connections
    have closes : exec .close s = .next (s.closeHighway.finished .ok []) :=
      congrArg _ (ready.runCommand_eq State.closeWork)
    have counted : s.connectionCount = connections := s.connectionCount_eq
    rw [closes, State.closeHighway_eq, counted]
    rfl

end Sys2Proof.Machine
end

section
/-! What takes nothing into the tables outside OPEN: connections, queue entries and claims on FREE slots (R54, R160, R163). -/

namespace Sys2Proof.Machine

set_option Elab.async false -- one proof at a time: waiting proofs would hold a thread each

/-- The second part stands under the same causes of full reset and in the same highway state; and outside OPEN no connection
and no queue entry has come in, every ACTIVE connection that stands is still ACTIVE, and every FREE slot is still FREE. -/
structure State.NoIntake (s t : State) : Prop where
  hold : t.hold = s.hold
  highway : t.highway = s.highway
  connections : s.highway ≠ .opened → ∀ i d, t.connection i = some d →
    ∃ c, s.connection i = some c ∧ (c.state = .active → d.state = .active)
  entries : s.highway ≠ .opened → s.waitQueue = [] → t.waitQueue = []
  slots : s.highway ≠ .opened → ∀ n, s.slot n = some .free → t.slot n = some .free

theorem State.NoIntake.trans {s t u : State} (first : s.NoIntake t) (second : t.NoIntake u) : s.NoIntake u where
  hold := second.hold.trans first.hold
  highway := second.highway.trans first.highway
  connections shut i d there := by
    obtain ⟨c, here, active⟩ := second.connections (first.highway ▸ shut) i d there
    obtain ⟨b, before, still⟩ := first.connections shut i c here
    exact ⟨b, before, active ∘ still⟩
  entries shut none := second.entries (first.highway ▸ shut) (first.entries shut none)
  slots shut n free := second.slots (first.highway ▸ shut) n (first.slots shut n free)

/-- An update that leaves the map, the table and the queue as they are. -/
theorem State.NoIntake.of_sameMap {s t : State} (same : s.SameMap t) (hold : t.hold = s.hold := by rfl)
    (highway : t.highway = s.highway := by rfl) (waitQueue : t.waitQueue = s.waitQueue := by rfl) : s.NoIntake t where
  hold := hold
  highway := highway
  connections _ i d there := ⟨d, same.connection i ▸ there, id⟩
  entries _ none := waitQueue.trans none
  slots _ n free := (same.slot n).trans free

theorem State.NoIntake.of_unchanged {s t : State} (hold : t.hold = s.hold := by rfl)
    (highway : t.highway = s.highway := by rfl) (waitQueue : t.waitQueue = s.waitQueue := by rfl)
    (slots : t.slots = s.slots := by rfl) (connections : t.connections = s.connections := by rfl) : s.NoIntake t :=
  .of_sameMap ⟨slots, connections⟩ hold highway waitQueue

theorem State.NoIntake.refl (s : State) : s.NoIntake s := .of_unchanged

/-- In OPEN every table may take in. -/
theorem State.NoIntake.of_opened {s t : State} (opened : s.highway = .opened) (hold : t.hold = s.hold := by rfl)
    (highway : t.highway = s.highway := by rfl) : s.NoIntake t :=
  ⟨hold, highway, fun shut => absurd opened shut, fun shut => absurd opened shut, fun shut => absurd opened shut⟩

theorem State.noIntake_foldl {α : Type} (s : State) (f : State → α → State)
    (step : ∀ (t : State) (a : α), t.NoIntake (f t a)) (list : List α) : s.NoIntake (list.foldl f s) :=
  foldl_keeps s s.NoIntake f (fun t a before => before.trans (step t a)) list (State.NoIntake.refl s)

/-! ### Messages, slots and records -/

theorem State.noIntake_offer (s : State) (m : DownMessage) : s.NoIntake (s.offer m) :=
  .of_sameMap (s.sameMap_offer m) (by simp) (by simp) (by simp)

theorem State.noIntake_tell (s : State) (h : Handle) (body : DownBody) : s.NoIntake (s.tell h body) :=
  .of_sameMap (s.sameMap_tell h body) (by simp) (by simp) (by simp)

theorem State.noIntake_tellOpt (s : State) (h : Handle) (body : Option DownBody) : s.NoIntake (s.tellOpt h body) :=
  .of_sameMap (s.sameMap_tellOpt h body) (by simp) (by simp) (by simp)

theorem State.noIntake_raise (s : State) (f : Flag) : s.NoIntake (s.raise f) := .of_unchanged

theorem State.noIntake_refuseEntry (s : State) (e : Entry) (reason : Reason) : s.NoIntake (s.refuseEntry e reason) :=
  s.noIntake_tell ..

/-- A change of the slots that frees or keeps the FREE ones. -/
theorem State.noIntake_mapSlots (s : State) {f : Nat → SlotRecord → SlotRecord} (free : ∀ n, f n .free = .free) :
    s.NoIntake (s.mapSlots f) where
  hold := rfl
  highway := rfl
  connections _ _ d there := ⟨d, there, id⟩
  entries _ := id
  slots _ n here := by rw [State.slot_mapSlots, here, Option.map_some, free]

/-- A record goes, or changes and stays ACTIVE if it was. -/
theorem State.noIntake_setConnection (s : State) (i : Index) {o : Option Connection}
    (fromRecord : ∀ d, o = some d → ∃ c, s.connection i = some c ∧ (c.state = .active → d.state = .active)) :
    s.NoIntake (s.setConnection i o) where
  hold := rfl
  highway := rfl
  connections _ j d there := by
    rw [State.connection_setConnection] at there
    split at there
    · rename_i same
      exact same ▸ fromRecord d there
    · exact ⟨d, there, id⟩
  entries _ := id
  slots _ _ := id

theorem State.noIntake_changeConnection {s : State} {i : Index} {c : Connection} (here : s.connection i = some c)
    (d : Connection) (active : c.state = .active → d.state = .active := by exact id) :
    s.NoIntake (s.setConnection i (some d)) :=
  s.noIntake_setConnection i fun _ new => ⟨c, here, Option.some.inj new ▸ active⟩

theorem State.noIntake_dropConnection (s : State) (i : Index) (c : Connection) : s.NoIntake (s.dropConnection i c) := by
  have claimed : s.NoIntake (if c.state = .active then (s.endClaim i).raise .lease else s.withdrawClaim i) := by
    split
    · exact (s.noIntake_mapSlots fun _ => rfl).trans (State.noIntake_raise ..)
    · exact s.noIntake_mapSlots fun _ => rfl
  have forgotten := claimed.trans (State.noIntake_setConnection _ i (o := none) fun _ new => nomatch new)
  refine forgotten.trans ?_
  unfold State.dropConnection State.reportIfEmpty
  rw [State.raiseIf_eq]
  exact .of_unchanged

theorem State.noIntake_removeConnection (s : State) (i : Index) (c : Connection) (a b : Option DownBody) :
    s.NoIntake (s.removeConnection i c a b) :=
  ((s.noIntake_dropConnection i c).trans (State.noIntake_tellOpt ..)).trans (State.noIntake_tellOpt ..)

/-- The queue loses entries, or countdowns change: an empty one stays empty. -/
theorem State.noIntake_setQueue (s : State) {list : List Entry} (empty : s.waitQueue = [] → list = []) :
    s.NoIntake { s with waitQueue := list } where
  hold := rfl
  highway := rfl
  connections _ _ d there := ⟨d, there, id⟩
  entries _ := empty
  slots _ _ := id

theorem State.noIntake_removeEntry (s : State) (e : Entry) : s.NoIntake (s.removeEntry e) :=
  s.noIntake_setQueue fun empty => by simp [empty]

/-! ### Service passes and the cascade (R54, R83) -/

/-- A service pass works in OPEN alone (R54). -/
theorem State.noIntake_servicePass (s : State) : s.NoIntake s.servicePass := by
  by_cases opened : s.highway = .opened
  · have steady : s.Steady s.servicePass := s.steady_servicePasses 1
    refine .of_opened opened ?_ ?_ <;> rw [steady.frame]
  · rw [s.servicePass_of_not_opened opened]
    exact State.NoIntake.refl s

theorem State.noIntake_servicePasses (s : State) (n : Nat) : s.NoIntake (s.servicePasses n) :=
  s.servicePasses_keeps s.NoIntake (fun t before => before.trans t.noIntake_servicePass) n (State.NoIntake.refl s)

theorem State.noIntake_cutConnection (s : State) (set : List Handle) (reason : Reason) (i : Index) :
    s.NoIntake (s.cutConnection set reason i) := by
  unfold State.cutConnection
  split
  · exact State.NoIntake.refl s
  · exact s.noIntake_removeConnection ..

theorem State.noIntake_cutEntry (s : State) (set : List Handle) (e : Entry) : s.NoIntake (s.cutEntry set e) := by
  unfold State.cutEntry
  split
  · exact s.noIntake_removeEntry e
  split
  · exact (s.noIntake_removeEntry e).trans (State.noIntake_refuseEntry ..)
  · exact State.NoIntake.refl s

theorem State.noIntake_cascade (s : State) (set deleted : List Handle) (reason : Reason) {after : State → State}
    (cause : ∀ t : State, t.NoIntake (after t)) : s.NoIntake (s.cascade set deleted reason after) :=
  s.cascade_keeps s.NoIntake set deleted reason after (fun t i before => before.trans (t.noIntake_cutConnection ..))
    (fun t e before => before.trans (t.noIntake_cutEntry ..)) (fun _ _ before => before.trans .of_unchanged)
    (fun t before => before.trans (cause t)) (fun t before => before.trans t.noIntake_servicePass) (State.NoIntake.refl s)

theorem State.noIntake_evictStation (s : State) (h : Handle) (r : Station) (reason : Reason) :
    s.NoIntake (s.evictStation h r reason) := by
  refine s.noIntake_cascade _ _ _ fun t => State.NoIntake.trans ?_ (State.noIntake_offer ..)
  unfold State.shortenRoster
  split
  · exact State.NoIntake.refl t
  · exact .of_unchanged

/-! ### Walks, expiries and guard end (R15, R36, R57, R107) -/

theorem State.noIntake_walkConnections (s : State) (list : List Index) : s.NoIntake (s.walkConnections list) := by
  induction list generalizing s with
  | nil => exact .of_unchanged
  | cons i rest ih =>
    simp only [State.walkConnections]
    split
    · exact ih s
    rename_i c here
    split
    · exact ih s
    rename_i d _
    have lowered := State.noIntake_changeConnection here { c with countdown := some (s.lowered d) }
    split
    · split
      · exact lowered.trans .of_unchanged
      · exact lowered.trans (ih _)
    · exact ih s

theorem State.noIntake_expireConnection (s : State) (i : Index) : s.NoIntake (s.expireConnection i) := by
  unfold State.expireConnection
  split
  · exact State.NoIntake.refl s
  split
  · exact (s.noIntake_removeConnection ..).trans (State.noIntake_servicePass _)
  · exact (s.noIntake_removeConnection ..).trans (State.noIntake_servicePass _)
  · exact State.NoIntake.refl s

theorem State.noIntake_walkEntries (s : State) (list : List Entry) (position : Nat) :
    s.NoIntake (s.walkEntries list position) := by
  induction list generalizing s position with
  | nil => exact .of_unchanged
  | cons e rest ih =>
    have lowered (x : Entry) : s.NoIntake { s with waitQueue := s.waitQueue.set position x } :=
      s.noIntake_setQueue fun empty => by simp [empty]
    simp only [State.walkEntries]
    split
    · split
      · exact (lowered _).trans .of_unchanged
      · exact (lowered _).trans (ih ..)
    · exact ih ..

theorem State.noIntake_timeOutEntry (s : State) (position : Nat) : s.NoIntake (s.timeOutEntry position) := by
  unfold State.timeOutEntry
  split
  · exact State.NoIntake.refl s
  · exact ((s.noIntake_setQueue fun empty => by simp [empty]).trans (State.noIntake_refuseEntry ..)).trans
      (State.noIntake_raise ..)

theorem State.noIntake_walkRelays (s : State) (list : List Handle) : s.NoIntake (s.walkRelays list) := by
  induction list generalizing s with
  | nil => exact .of_unchanged
  | cons h rest ih =>
    simp only [State.walkRelays]
    split
    · exact ih s
    split
    · exact ih s
    split
    · split
      · exact .of_unchanged
      · exact State.NoIntake.trans .of_unchanged (ih _)
    · exact ih s

theorem State.noIntake_expireRelay (s : State) (h : Handle) : s.NoIntake (s.expireRelay h) := by
  unfold State.expireRelay
  split
  · exact State.NoIntake.refl s
  · exact s.noIntake_evictStation ..

theorem State.noIntake_takeDue (s : State) : s.NoIntake s.takeDue := by
  unfold State.takeDue
  split
  · exact State.NoIntake.refl s
  · exact (s.noIntake_expireConnection _).trans (State.noIntake_walkConnections ..)
  · exact (s.noIntake_timeOutEntry _).trans (State.noIntake_walkEntries ..)
  · exact (s.noIntake_expireRelay _).trans (State.noIntake_walkRelays ..)

theorem State.noIntake_completeEarmark (s : State) (i : Index) : s.NoIntake (s.completeEarmark i) := by
  unfold State.completeEarmark
  split
  · exact State.NoIntake.refl s
  rename_i c here
  dsimp only
  split
  · rename_i pending
    have offered := State.noIntake_changeConnection here
      { c with state := .offered, countdown := some (s.countdownOf s.answerPeriod) }
      fun active => nomatch pending.symm.trans active
    exact (offered.trans .of_unchanged).trans (State.noIntake_tell ..)
  · exact State.NoIntake.refl s

theorem State.noIntake_takeGuardEnd (s : State) : s.NoIntake s.takeGuardEnd := by
  have completed : s.NoIntake ((s.completing (!s.timer.parity)).foldl State.completeEarmark
      (s.mapSlots fun _ r => r.guardEnded (!s.timer.parity))) :=
    (s.noIntake_mapSlots fun _ => rfl).trans (State.noIntake_foldl _ _ (fun t i => t.noIntake_completeEarmark i) _)
  simp only [State.takeGuardEnd]
  split
  · exact completed.trans (State.noIntake_servicePass _)
  · exact completed

theorem State.noIntake_takeOwedGuardEnd (s : State) : s.NoIntake s.takeOwedGuardEnd := by
  unfold State.takeOwedGuardEnd
  split
  · exact State.NoIntake.trans .of_unchanged (State.noIntake_takeGuardEnd _)
  · exact State.NoIntake.refl s

theorem State.noIntake_takeOwedLeaseWalk (s : State) : s.NoIntake s.takeOwedLeaseWalk := by
  unfold State.takeOwedLeaseWalk
  split
  · exact State.NoIntake.trans .of_unchanged (State.noIntake_walkConnections ..)
  · exact State.NoIntake.refl s

theorem State.noIntake_takeOwedQueueWalk (s : State) : s.NoIntake s.takeOwedQueueWalk := by
  unfold State.takeOwedQueueWalk
  split
  · exact State.NoIntake.trans .of_unchanged (State.noIntake_walkEntries ..)
  · exact State.NoIntake.refl s

theorem State.noIntake_takeOwedRosterWalk (s : State) : s.NoIntake s.takeOwedRosterWalk := by
  unfold State.takeOwedRosterWalk
  split
  · exact State.NoIntake.trans .of_unchanged (State.noIntake_walkRelays ..)
  · exact State.NoIntake.refl s

end Sys2Proof.Machine
end

section
/-! What station messages and rosters take into the tables outside OPEN: nothing (R26, R54, R76, R160). -/

namespace Sys2Proof.Machine

set_option Elab.async false -- one proof at a time: waiting proofs would hold a thread each

/-! ### ATTACH and departures (R76 to R82) -/

theorem State.noIntake_departWithSubtree (s : State) (h : Handle) (r : Station) : s.NoIntake (s.departWithSubtree h r) :=
  s.noIntake_cascade _ _ _ State.NoIntake.refl

theorem State.noIntake_losePresence (s : State) (drop : Drop) : s.NoIntake (s.losePresence drop) :=
  s.noIntake_cascade _ _ _ State.NoIntake.refl

theorem State.noIntake_admitByAttach (s : State) (drop : Drop) (number : StationNumber) (kind : StationKind)
    (cls : ClassNo) : s.NoIntake (s.admitByAttach drop number kind cls) := by
  unfold State.admitByAttach
  split
  · exact State.NoIntake.refl s
  · exact State.NoIntake.trans .of_unchanged (State.noIntake_offer ..)

theorem State.noIntake_takeAttach (s : State) (drop : Drop) (number : StationNumber) (kind : StationKind) (cls : ClassNo) :
    s.NoIntake (s.takeAttach drop number kind cls) := by
  unfold State.takeAttach
  split
  · refine State.NoIntake.trans ?_ (State.noIntake_offer ..)
    split
    · exact .of_unchanged
    · exact State.NoIntake.refl s
  split
  · exact (s.noIntake_departWithSubtree ..).trans (State.noIntake_admitByAttach ..)
  · exact s.noIntake_admitByAttach ..

theorem State.noIntake_takeDetach (s : State) (h : Handle) (r : Station) : s.NoIntake (s.takeDetach h r) := by
  unfold State.takeDetach
  split
  · exact s.noIntake_departWithSubtree h r
  · exact s.noIntake_tell ..

/-! ### REQUEST, which OPEN alone lets through (R26) -/

theorem State.noIntake_insertAndTell {s : State} (opened : s.highway = .opened) (e : Entry) :
    s.NoIntake (s.insertAndTell e) := .of_opened opened (State.tell_hold ..) (State.tell_highway ..)

theorem State.noIntake_refuseNoSlots (s : State) (e : Entry) : s.NoIntake (s.refuseNoSlots e) :=
  (s.noIntake_refuseEntry ..).trans (State.noIntake_raise ..)

theorem State.noIntake_joinQueue {s : State} (opened : s.highway = .opened) (e : Entry) : s.NoIntake (s.joinQueue e) := by
  unfold State.joinQueue
  split
  · exact s.noIntake_refuseNoSlots e
  split
  · exact State.noIntake_insertAndTell opened e
  split
  · exact s.noIntake_refuseNoSlots e
  rename_i tail _
  split
  · have displaced : s.NoIntake
        ((State.refuseEntry tail .queueDisplaced { s with waitQueue := s.waitQueue.dropLast }).raise .refusal) :=
      ((s.noIntake_setQueue fun empty => by simp [empty]).trans (State.noIntake_refuseEntry ..)).trans
        (State.noIntake_raise ..)
    exact displaced.trans (State.noIntake_insertAndTell (displaced.highway.trans opened) e)
  · exact s.noIntake_refuseNoSlots e

theorem State.noIntake_place {s : State} (opened : s.highway = .opened) (i : Index) (c : Connection) :
    s.NoIntake (s.place i c) := by
  have steady := s.steady_place i c
  refine .of_opened opened ?_ ?_ <;> rw [steady.frame]

theorem State.noIntake_preempt {s : State} (opened : s.highway = .opened) (victims : List (Index × Connection))
    (source peer : Handle) (cls : ClassNo) (width : Nat) (tag : Tag) :
    s.NoIntake (s.preempt victims source peer cls width tag) := by
  cases unused : (s.endVictims victims).unusedIndex with
  | none =>
    rw [State.preempt_of_full unused]
    exact State.NoIntake.refl s
  | some i =>
    have ended : s.NoIntake (s.endVictims victims) := by
      rw [State.endVictims_frame]
      exact .of_opened opened
    rw [State.preempt_of_unused unused, State.preemptMessages_eq_offerAll]
    exact (ended.trans (.of_opened (ended.highway.trans opened))).trans
      (State.noIntake_foldl _ _ (fun t m => t.noIntake_offer m) _)

theorem State.noIntake_takeRequest (s : State) (peer : StationNumber) (cls : ClassNo) (contiguous : Bool) (width : Nat)
    (tag : Tag) (h : Handle) (r : Station) : s.NoIntake (s.takeRequest peer cls contiguous width tag h r) := by
  unfold State.takeRequest
  split
  · exact s.noIntake_tell ..
  rename_i accepted
  obtain ⟨p, q, passes⟩ := State.passes_of_requestRefusal_eq_none accepted
  have opened := passes.opened
  simp only [passes.found, State.serveRequest, State.handOn]
  split
  · exact State.noIntake_place opened ..
  split
  · split
    · exact (State.noIntake_preempt opened ..).trans (State.noIntake_servicePasses ..)
    · exact State.noIntake_joinQueue opened _
  · exact State.noIntake_joinQueue opened _

/-! ### Messages that name a reference (R30 to R35) -/

theorem State.noIntake_refuseNamed (s : State) (h : Handle) (reference : Reference) (reason : Reason) :
    s.NoIntake (s.refuseNamed h reference reason) := s.noIntake_tell ..

theorem State.noIntake_sendGrants (s : State) (i : Index) (c : Connection) : s.NoIntake (s.sendGrants i c) :=
  (s.noIntake_tell ..).trans (State.noIntake_tell ..)

theorem State.noIntake_activate {s : State} {i : Index} {c : Connection} (here : s.connection i = some c) :
    s.NoIntake (s.activate i c) := by
  have held : s.NoIntake (s.holdClaim i) := s.noIntake_mapSlots fun _ => rfl
  have active := State.noIntake_changeConnection (s := s.holdClaim i) here
    { c with state := .active, countdown := some (s.countdownOf (s.classPolicy c.cls).leasePeriod) } fun _ => rfl
  exact ((held.trans active).trans .of_unchanged).trans (State.noIntake_sendGrants ..)

theorem State.noIntake_takeAccept {s : State} {reference : Reference} {c : Connection}
    (here : s.connection reference.index = some c) (role : Role) (h : Handle) :
    s.NoIntake (s.takeAccept reference c role h) := by
  unfold State.takeAccept
  split
  · exact s.noIntake_refuseNamed ..
  · exact State.noIntake_activate here
  · exact s.noIntake_refuseNamed ..
  · exact s.noIntake_refuseNamed ..

theorem State.noIntake_removeAndServe (s : State) (i : Index) (c : Connection) (a b : Option DownBody) :
    s.NoIntake (s.removeConnection i c a b).servicePass :=
  (s.noIntake_removeConnection ..).trans (State.noIntake_servicePass _)

theorem State.noIntake_takeDecline (s : State) (reference : Reference) (c : Connection) (role : Role) (h : Handle) :
    s.NoIntake (s.takeDecline reference c role h) := by
  unfold State.takeDecline
  split
  · exact s.noIntake_refuseNamed ..
  · exact s.noIntake_removeAndServe ..
  · exact s.noIntake_refuseNamed ..
  · exact s.noIntake_refuseNamed ..

/-- A lease is granted to the record of an index, which may have lost its pinning (R35, R40). -/
theorem State.noIntake_grantLease {s : State} {i : Index} {c : Connection} (here : s.connection i = some c)
    (d : Connection) (active : c.state = .active → d.state = .active := by exact id) : s.NoIntake (s.grantLease i d) :=
  ((State.noIntake_changeConnection here
    { d with countdown := some (s.countdownOf (s.classPolicy d.cls).leasePeriod) } active).trans .of_unchanged).trans
      (State.noIntake_tell ..)

theorem State.noIntake_takeRenew {s : State} {reference : Reference} {c : Connection}
    (here : s.connection reference.index = some c) (role : Role) (h : Handle) :
    s.NoIntake (s.takeRenew reference c role h) := by
  unfold State.takeRenew
  split
  · exact s.noIntake_refuseNamed ..
  · exact State.noIntake_grantLease here c

theorem State.noIntake_takeRelease (s : State) (reference : Reference) (c : Connection) (role : Role) (h : Handle) :
    s.NoIntake (s.takeRelease reference c role h) := by
  have removed (a b : Option DownBody) := s.noIntake_removeAndServe reference.index c a b
  have refused (reason : Reason) := s.noIntake_refuseNamed h reference reason
  simp only [State.takeRelease]
  split
  · exact removed ..
  · exact refused _
  · exact removed ..
  · exact removed ..
  · split
    · exact refused _
    · exact removed ..
  · split
    · exact refused _
    · exact removed ..

theorem State.noIntake_takeQuery (s : State) (h : Handle) (r : Station) : s.NoIntake (s.takeQuery h r) :=
  (s.noIntake_foldl _ (fun t body => t.noIntake_tell h body) _).trans (State.noIntake_tell ..)

theorem State.noIntake_takeCancel (s : State) (tag : Tag) (h : Handle) (r : Station) : s.NoIntake (s.takeCancel tag h r) := by
  unfold State.takeCancel
  split
  · exact s.noIntake_tell ..
  split
  · exact s.noIntake_tell ..
  split
  · exact (s.noIntake_removeEntry _).trans (State.noIntake_tell ..)
  · exact s.noIntake_tell ..

/-! ### Rosters (R92 to R106) -/

theorem State.noIntake_fromTopRelay (s : State) {f : Handle → Station → State → State} {h : Handle} {r : Station}
    (work : s.NoIntake (f h r s)) : s.NoIntake (s.fromTopRelay f h r) := by
  unfold State.fromTopRelay
  split
  · exact work
  · exact s.noIntake_tell ..

theorem State.noIntake_rejectRoster (s : State) (h : Handle) (generation : Byte) (reason : Reason) :
    s.NoIntake (s.rejectRoster h generation reason) := (s.noIntake_tell ..).trans (State.noIntake_raise ..)

theorem State.noIntake_setAssembly (s : State) (h : Handle) (a : Option Assembly) : s.NoIntake (s.setAssembly h a) :=
  .of_unchanged

theorem State.noIntake_rejectContent (s : State) (h : Handle) (r : Station) (generation : Byte) (reason : Reason) :
    s.NoIntake (s.rejectContent h r generation reason) :=
  (s.noIntake_setAssembly h none).trans (State.noIntake_cascade _ _ _ _ fun _ =>
    State.NoIntake.trans .of_unchanged (State.noIntake_rejectRoster ..))

theorem State.noIntake_beginRoster (s : State) (generation : Byte) (count depth : Nat) (depthExceeded countExceeded : Bool)
    (h : Handle) (r : Station) : s.NoIntake (s.beginRoster generation count depth depthExceeded countExceeded h r) := by
  unfold State.beginRoster
  split
  · exact s.noIntake_rejectContent ..
  split
  · exact s.noIntake_rejectContent ..
  · exact s.noIntake_setAssembly ..

theorem State.noIntake_partRoster (s : State) (partIndex : Nat) (entries : List RosterEntry) (h : Handle) (r : Station) :
    s.NoIntake (s.partRoster partIndex entries h r) := by
  unfold State.partRoster
  split
  · exact s.noIntake_tell ..
  split
  · exact (s.noIntake_setAssembly ..).trans (State.noIntake_rejectRoster ..)
  split
  · exact s.noIntake_rejectContent ..
  · exact s.noIntake_setAssembly ..

theorem State.noIntake_keepEntry (s : State) (relay : Handle) (e : RosterEntry) : s.NoIntake (s.keepEntry relay e) := by
  unfold State.keepEntry
  split
  · exact State.NoIntake.refl s
  split
  · exact .of_unchanged
  · exact State.NoIntake.refl s

theorem State.noIntake_admitEntry (s : State) (relay : Handle) (r : Station) (e : RosterEntry) :
    s.NoIntake (s.admitEntry relay r e) := by
  unfold State.admitEntry
  split
  · exact State.NoIntake.refl s
  · exact .of_unchanged

/-- An accepted roster admits records, in any state of the highway, and nothing else (R103). -/
theorem State.noIntake_acceptRoster (s : State) (h : Handle) (r : Station) (a : Assembly) :
    s.NoIntake (s.acceptRoster h r a) := by
  unfold State.acceptRoster
  refine s.noIntake_cascade _ _ _ fun t => ?_
  have kept := t.noIntake_foldl (State.keepEntry h) (fun u e => u.noIntake_keepEntry h e) a.entries
  have admitted := kept.trans
    (State.noIntake_foldl _ (State.admitEntry h r) (fun u e => u.noIntake_admitEntry h r e) (s.newEntries a.entries))
  exact ((admitted.trans .of_unchanged).trans (State.noIntake_tell ..)).trans (State.noIntake_raise ..)

theorem State.noIntake_endRoster (s : State) (generation : Byte) (h : Handle) (r : Station) :
    s.NoIntake (s.endRoster generation h r) := by
  unfold State.endRoster
  split
  · exact s.noIntake_rejectRoster ..
  split
  · exact (s.noIntake_setAssembly ..).trans (State.noIntake_rejectRoster ..)
  split
  · exact s.noIntake_acceptRoster ..
  · refine State.NoIntake.trans ?_ (State.noIntake_rejectContent ..)
    split
    · exact (s.noIntake_foldl _ (fun _ _ => .of_unchanged) _).trans (State.noIntake_raise ..)
    · exact State.NoIntake.refl s

end Sys2Proof.Machine
end

section
/-! What the signalling channel, the Host Port and the commands that administer take into the tables outside OPEN: nothing
(R39, R137 to R151, R167 to R175). -/

namespace Sys2Proof.Machine

set_option Elab.async false -- one proof at a time: waiting proofs would hold a thread each

/-! ### The signalling channel and the frame (R137 to R151) -/

theorem State.noIntake_considerGrant (s : State) : s.NoIntake s.considerGrant := by
  unfold State.considerGrant
  split <;> exact .of_unchanged

theorem State.noIntake_closeWindow (s : State) : s.NoIntake s.closeWindow := .of_unchanged

theorem State.noIntake_closeWindow_makeNak (s : State) (d : Drop) (reason : Reason) (kind : BitVec 6) :
    s.NoIntake (s.closeWindow.makeNak d reason kind) :=
  (s.noIntake_closeWindow.trans (State.noIntake_offer ..)).trans (State.noIntake_raise ..)

theorem State.noIntake_judgeHeader (s : State) (d : Drop) (word : Word) : s.NoIntake (s.judgeHeader d word) := by
  simp only [State.judgeHeader]
  split
  · exact s.noIntake_closeWindow
  split
  · exact .of_unchanged
  · exact s.noIntake_closeWindow_makeNak ..

theorem State.noIntake_takeWord (s : State) (d : Drop) (expected : Nat) (words : List Word) (word : Word) :
    s.NoIntake (s.takeWord d expected words word) := by
  simp only [State.takeWord, State.judgeMessage]
  split
  · split
    · split
      · exact .of_unchanged
      · exact s.noIntake_closeWindow_makeNak ..
    · exact s.noIntake_closeWindow_makeNak ..
  · exact .of_unchanged

theorem State.noIntake_depart (s : State) : s.NoIntake s.depart := by
  unfold State.depart State.issueSync
  split
  · split <;> exact .of_unchanged
  · exact .of_unchanged

theorem State.noIntake_chooseWord (s : State) : s.NoIntake s.chooseWord := by
  unfold State.chooseWord
  split <;> exact .of_unchanged

theorem State.noIntake_startFrame (s : State) : s.NoIntake s.startFrame := by
  unfold State.startFrame
  exact State.NoIntake.trans .of_unchanged (State.noIntake_chooseWord _)

/-! ### The Host Port (R167 to R173) -/

theorem State.noIntake_takeAddress (s : State) (byte : Byte) : s.NoIntake (s.takeAddress byte) := by
  obtain ⟨-, same⟩ | ⟨-, _, -, same⟩ | ⟨-, same⟩ := s.takeAddress_cases byte <;> rw [same] <;> exact .of_unchanged

theorem State.noIntake_writeLocation (s : State) (a : BitVec 6) (value : Byte) : s.NoIntake (s.writeLocation a value) := by
  unfold State.writeLocation
  split
  · unfold State.writeCommand
    split
    · split <;> exact .of_unchanged
    · exact .of_unchanged
  · repeat' split
    all_goals exact .of_unchanged

theorem State.noIntake_dataByte (s : State) (value : Byte) : s.NoIntake (s.dataByte value) := by
  obtain ⟨a, -, same⟩ | ⟨a, -, same⟩ | ⟨a, -, same⟩ | ⟨-, -, same⟩ := s.dataByte_cases value <;> rw [same]
  · exact State.NoIntake.trans .of_unchanged (State.noIntake_writeLocation ..)
  · exact .of_unchanged
  · exact .of_unchanged
  · exact State.NoIntake.refl s

/-! ### Commands that administer (R39 to R41, R86, R88, R115 to R129) -/

theorem State.noIntake_evictNumber (s : State) (n : StationNumber) (reason : Reason) :
    s.NoIntake (s.evictNumber n reason) := by
  unfold State.evictNumber
  split
  · exact s.noIntake_evictStation ..
  · exact State.NoIntake.refl s

theorem State.noIntake_setQuotaWork (s : State) : s.NoIntake s.setQuotaWork.part := by
  simp only [State.setQuotaWork]
  split
  · exact State.NoIntake.refl s
  split
  · exact State.NoIntake.refl s
  · exact State.NoIntake.trans .of_unchanged (State.noIntake_servicePass _)

/-- PIN makes a connection in OPEN alone (R39 step 2). -/
theorem State.noIntake_pinWork (s : State) : s.NoIntake s.pinWork.part := by
  have parties (originator answerer : Handle × Station) (cls : ClassNo) (slots : List Nat)
      (opened : s.highway = .opened) : s.NoIntake (s.pinParties originator answerer cls slots).part := by
    unfold State.pinParties
    split
    · exact State.NoIntake.refl s
    split
    · exact State.NoIntake.refl s
    split
    · exact State.NoIntake.refl s
    split
    · exact State.NoIntake.trans (.of_opened opened) (State.noIntake_sendGrants ..)
    · exact State.NoIntake.refl s
  unfold State.pinWork
  split
  · split
    · exact State.NoIntake.refl s
    split
    · exact State.NoIntake.refl s
    rename_i opened
    split
    · exact parties _ _ _ _ (not_not.mp opened)
    · exact State.NoIntake.refl s
  · exact State.NoIntake.refl s

theorem State.noIntake_unpinWork (s : State) : s.NoIntake s.unpinWork.part := by
  unfold State.unpinWork
  split
  · exact State.NoIntake.refl s
  rename_i i c named
  split
  · exact State.noIntake_grantLease (State.connection_of_argConnection named) { c with pinned := false }
  · exact State.NoIntake.refl s

theorem State.noIntake_forceReleaseWork (s : State) : s.NoIntake s.forceReleaseWork.part := by
  unfold State.forceReleaseWork
  split
  · exact State.NoIntake.refl s
  · exact s.noIntake_removeAndServe ..

theorem State.noIntake_setPolicyWork (s : State) : s.NoIntake s.setPolicyWork.part := by
  unfold State.setPolicyWork
  split
  · split
    · exact State.NoIntake.trans .of_unchanged (State.noIntake_servicePass _)
    · exact State.NoIntake.refl s
  · exact State.NoIntake.refl s

theorem State.noIntake_setTimingWork (s : State) : s.NoIntake s.setTimingWork.part := by
  unfold State.setTimingWork
  split
  · exact State.NoIntake.refl s
  · exact .of_unchanged

end Sys2Proof.Machine
end

section
/-! An empty directory outside OPEN stays empty (R76, R163), and what a command then leaves of the laws of CLOSED and DRAINING
(R160, R163). -/

namespace Sys2Proof.Machine

set_option Elab.async false -- one proof at a time: waiting proofs would hold a thread each

/-! ### The empty directory -/

/-- The directory holds no record, and no assembly is kept. -/
structure State.Vacant (s : State) : Prop where
  stations : ∀ h, s.station h = none
  assemblies : ∀ h, s.assembly h = none

theorem State.Vacant.of_same {s t : State} (vacant : s.Vacant) (same : s.SameDirectory t) : t.Vacant where
  stations h := by simpa [vacant.stations h] using same.records h
  assemblies h := by simpa [vacant.assemblies h] using same.declared h

theorem State.Vacant.lookup_eq_none {s : State} (vacant : s.Vacant) (n : StationNumber) : s.lookup n = none :=
  (s.lookup_eq_none_iff n).mpr fun h _ here => nomatch (vacant.stations h).symm.trans here

/-- A drop with no record loses none (R81). -/
theorem State.Vacant.losePresence {s : State} (vacant : s.Vacant) (drop : Drop) : (s.losePresence drop).Vacant := by
  refine s.cascade_keeps State.Vacant _ _ _ _ (fun t i empty => empty.of_same ?_) (fun t e empty => empty.of_same ?_)
    (fun t h empty => ?_) (fun _ => id) (fun t empty => empty.of_same t.sameDirectory_servicePass) vacant
  · unfold State.cutConnection
    split
    · exact State.SameDirectory.refl t
    · exact t.sameDirectory_removeConnection ..
  · unfold State.cutEntry
    split
    · exact t.sameDirectory_removeEntry e
    split
    · exact (t.sameDirectory_removeEntry e).trans (State.sameDirectory_refuseEntry ..)
    · exact State.SameDirectory.refl t
  · exact ⟨fun k => by simp [empty.stations k], fun k => by simp [empty.assemblies k]⟩

/-- Outside OPEN an ATTACH is refused (R76 step 1). -/
theorem State.Vacant.takeAttach {s : State} (vacant : s.Vacant) (shut : s.highway ≠ .opened) (drop : Drop)
    (number : StationNumber) (kind : StationKind) (cls : ClassNo) : (s.takeAttach drop number kind cls).Vacant := by
  have refused : ∃ reason, s.attachRefusal drop number = some reason := by
    unfold State.attachRefusal
    split
    · exact ⟨_, rfl⟩
    · exact ⟨_, rfl⟩
    · exact absurd ‹_› shut
  obtain ⟨reason, refused⟩ := refused
  simp only [State.takeAttach, refused]
  refine State.Vacant.of_same ?_ (State.sameDirectory_offer ..)
  split
  · exact ⟨vacant.stations, vacant.assemblies⟩
  · exact vacant

/-- The expiry that is due is no relay's where there is no record. -/
theorem State.Vacant.takeDue {s : State} (vacant : s.Vacant) : s.takeDue.Vacant := by
  unfold State.takeDue
  split
  · exact vacant
  · exact vacant.of_same ((s.sameDirectory_expireConnection _).trans (State.sameDirectory_walkConnections ..))
  · exact vacant.of_same ((s.sameDirectory_timeOutEntry _).trans (State.sameDirectory_walkEntries ..))
  · rename_i h _
    have unheld : s.expireRelay h = s := by simp only [State.expireRelay, vacant.stations h]
    rw [State.takeRelayExpiry, unheld]
    exact vacant.of_same (s.sameDirectory_walkRelays _)

theorem State.Vacant.evictNumber {s : State} (vacant : s.Vacant) (n : StationNumber) (reason : Reason) :
    (s.evictNumber n reason).Vacant := by
  simpa only [State.evictNumber, vacant.lookup_eq_none n] using vacant

/-! ### What a change conserves -/

/-- Outside OPEN the second part takes nothing into its tables, and its directory is empty where that of the first is. -/
structure State.Conserves (s t : State) : Prop where
  intake : s.NoIntake t
  directory : s.highway ≠ .opened → s.Vacant → t.Vacant

theorem State.Conserves.trans {s t u : State} (first : s.Conserves t) (second : t.Conserves u) : s.Conserves u where
  intake := first.intake.trans second.intake
  directory shut vacant := second.directory (first.intake.highway ▸ shut) (first.directory shut vacant)

theorem State.NoIntake.conserves {s t : State} (intake : s.NoIntake t) (same : s.SameDirectory t) : s.Conserves t :=
  ⟨intake, fun _ vacant => vacant.of_same same⟩

/-- A directory with a record is not empty, so all that counts are the other tables. -/
theorem State.NoIntake.conserves_of_station {s t : State} (intake : s.NoIntake t) {h : Handle} {r : Station}
    (here : s.station h = some r) : s.Conserves t :=
  ⟨intake, fun _ vacant => nomatch (vacant.stations h).symm.trans here⟩

theorem State.Conserves.of_unchanged {s t : State} (hold : t.hold = s.hold := by rfl)
    (highway : t.highway = s.highway := by rfl) (waitQueue : t.waitQueue = s.waitQueue := by rfl)
    (slots : t.slots = s.slots := by rfl) (connections : t.connections = s.connections := by rfl)
    (stations : t.stations = s.stations := by rfl) (assemblies : t.assemblies = s.assemblies := by rfl) :
    s.Conserves t where
  intake := .of_unchanged hold highway waitQueue slots connections
  directory _ vacant :=
    ⟨fun h => by simpa only [State.station, stations] using vacant.stations h,
      fun h => by simpa only [State.assembly, assemblies] using vacant.assemblies h⟩

theorem State.Conserves.refl (s : State) : s.Conserves s := .of_unchanged

theorem State.conserves_offer (s : State) (m : DownMessage) : s.Conserves (s.offer m) :=
  (s.noIntake_offer m).conserves (s.sameDirectory_offer m)

theorem State.conserves_takeDue (s : State) : s.Conserves s.takeDue :=
  ⟨s.noIntake_takeDue, fun _ vacant => vacant.takeDue⟩

theorem State.conserves_settled (s : State) : s.Conserves s.settled :=
  s.settled_keeps s.Conserves (fun t before => before.trans t.conserves_takeDue) (State.Conserves.refl s)

/-- Source resolution, where the owner of the message takes in nothing (R74): the source has a record. -/
theorem State.conserves_resolve (s : State) (drop : Drop) (source : StationNumber) (tag : Option Tag)
    (reference : Option Reference) {owner : Handle → Station → State → State}
    (work : ∀ h r, s.NoIntake (owner h r s)) : s.Conserves (s.resolve drop source tag reference owner) := by
  unfold State.resolve
  split
  · exact s.conserves_offer _
  rename_i h r found
  split
  · exact (work h r).conserves_of_station (s.station_of_lookup source h r found).1
  · exact s.conserves_offer _

/-- A message that names a reference, where the work on the record it names takes in nothing (R24). -/
theorem State.noIntake_onReference (s : State) (reference : Reference) {f : Connection → Role → Handle → State → State}
    (work : ∀ c role h, s.connection reference.index = some c → s.NoIntake (f c role h s)) (h : Handle) (r : Station) :
    s.NoIntake (s.onReference reference f h r) :=
  s.onReference_keeps s.NoIntake (fun t k body before => before.trans (t.noIntake_tell k body)) reference f work h r
    (State.NoIntake.refl s)

theorem State.conserves_takeAttach (s : State) (drop : Drop) (number : StationNumber) (kind : StationKind)
    (cls : ClassNo) : s.Conserves (s.takeAttach drop number kind cls) :=
  ⟨s.noIntake_takeAttach .., fun shut vacant => vacant.takeAttach shut ..⟩

theorem State.conserves_losePresence (s : State) (drop : Drop) : s.Conserves (s.losePresence drop) :=
  ⟨s.noIntake_losePresence drop, fun _ vacant => vacant.losePresence drop⟩

theorem State.conserves_depart (s : State) : s.Conserves s.depart := s.noIntake_depart.conserves s.sameDirectory_depart

theorem State.conserves_startFrame (s : State) : s.Conserves s.startFrame :=
  s.noIntake_startFrame.conserves s.sameDirectory_startFrame

theorem State.conserves_dataByte (s : State) (value : Byte) : s.Conserves (s.dataByte value) :=
  (s.noIntake_dataByte value).conserves (s.sameDirectory_dataByte value)

theorem State.conserves_takeOwedGuardEnd (s : State) : s.Conserves s.takeOwedGuardEnd :=
  s.noIntake_takeOwedGuardEnd.conserves s.sameDirectory_takeOwedGuardEnd

theorem State.conserves_takeOwedLeaseWalk (s : State) : s.Conserves s.takeOwedLeaseWalk :=
  s.noIntake_takeOwedLeaseWalk.conserves s.sameDirectory_takeOwedLeaseWalk

theorem State.conserves_takeOwedQueueWalk (s : State) : s.Conserves s.takeOwedQueueWalk :=
  s.noIntake_takeOwedQueueWalk.conserves s.sameDirectory_takeOwedQueueWalk

theorem State.conserves_takeOwedRosterWalk (s : State) : s.Conserves s.takeOwedRosterWalk :=
  s.noIntake_takeOwedRosterWalk.conserves s.sameDirectory_takeOwedRosterWalk

theorem State.conserves_finishFrame (s : State) : s.Conserves s.finishFrame := by
  have departed : s.Conserves (if s.settled.departureDue then s.settled.depart else s.settled) := by
    split
    · exact s.conserves_settled.trans (State.conserves_depart _)
    · exact s.conserves_settled
  have leased := (departed.trans (State.conserves_takeOwedGuardEnd _)).trans (State.conserves_takeOwedLeaseWalk _)
  have queued := (leased.trans (State.conserves_settled _)).trans (State.conserves_takeOwedQueueWalk _)
  exact ((queued.trans (State.conserves_settled _)).trans (State.conserves_takeOwedRosterWalk _)).trans
    (State.conserves_settled _)

theorem State.conserves_denyAddWork (s : State) : s.Conserves s.denyAddWork.part := by
  have listed (list : List DenyEntry) : s.Conserves { s with denyList := list } := .of_unchanged
  have evicted (t : State) (n : StationNumber) : t.Conserves (t.evictNumber n .denied) :=
    ⟨t.noIntake_evictNumber .., fun _ vacant => vacant.evictNumber ..⟩
  simp only [State.denyAddWork]
  split
  · exact State.Conserves.refl s
  split
  · exact State.Conserves.refl s
  split
  · exact State.Conserves.refl s
  · exact (listed _).trans (evicted ..)

theorem State.conserves_denyRemoveWork (s : State) : s.Conserves s.denyRemoveWork.part := by
  simp only [State.denyRemoveWork]
  split
  · exact State.Conserves.refl s
  · exact .of_unchanged

theorem State.conserves_evictWork (s : State) : s.Conserves s.evictWork.part := by
  unfold State.evictWork
  split
  · exact State.Conserves.refl s
  · rename_i h r found
    exact (s.noIntake_evictStation ..).conserves_of_station (s.station_of_lookup _ h r found).1

/-! ### The laws of CLOSED and DRAINING -/

/-- Outside CLOSED its law asks for nothing. -/
theorem State.closedLaw_of_ne {s : State} (other : s.highway ≠ .closed) : s.ClosedLaw := by
  constructor <;> exact fun closed => absurd closed other

/-- Outside DRAINING its law asks for nothing. -/
theorem State.drainingLaw_of_ne {s : State} (other : s.highway ≠ .draining) : s.DrainingLaw := by
  constructor <;> exact fun draining => absurd draining other

theorem State.Conserves.closedLaw {s t : State} (conserves : s.Conserves t) (law : s.ClosedLaw) : t.ClosedLaw := by
  by_cases closed : s.highway = .closed
  · have shut : s.highway ≠ .opened := fun opened => nomatch closed.symm.trans opened
    have vacant := conserves.directory shut ⟨law.noStation closed, law.noAssembly closed⟩
    refine ⟨fun _ => vacant.stations, fun _ i => ?_, fun _ => conserves.intake.entries shut (law.noEntry closed),
      fun _ => vacant.assemblies, fun _ n r there => ?_⟩
    · refine Option.eq_none_iff_forall_ne_some.mpr fun d there => ?_
      obtain ⟨c, here, -⟩ := conserves.intake.connections shut i d there
      cases (law.noConnection closed i).symm.trans here
    · have bearer : (s.slot n).isSome := (s.slot_isSome_iff n).mpr ((t.slot_isSome_iff n).mp (by rw [there]; rfl))
      obtain ⟨q, here⟩ := Option.isSome_iff_exists.mp bearer
      have free := conserves.intake.slots shut n (law.allFree closed n q here ▸ here)
      exact Option.some.inj (there.symm.trans free)
  · exact State.closedLaw_of_ne (conserves.intake.highway ▸ closed)

theorem State.Conserves.drainingLaw {s t : State} (conserves : s.Conserves t) (law : s.DrainingLaw) : t.DrainingLaw := by
  have before (draining : t.highway = .draining) : s.highway = .draining := conserves.intake.highway ▸ draining
  have shut (draining : t.highway = .draining) : s.highway ≠ .opened := fun opened =>
    nomatch (before draining).symm.trans opened
  refine ⟨fun draining => conserves.intake.entries (shut draining) (law.noEntry (before draining)),
    fun draining i d there => ?_⟩
  obtain ⟨c, here, active⟩ := conserves.intake.connections (shut draining) i d there
  exact active (law.allActive (before draining) i c here)

/-- Tables that are those of full reset meet the law of CLOSED. -/
theorem State.closedLaw_of_reset {s : State} (stations : s.stations = State.reset.stations := by rfl)
    (assemblies : s.assemblies = State.reset.assemblies := by rfl)
    (connections : s.connections = State.reset.connections := by rfl) (slots : s.slots = State.reset.slots := by rfl)
    (waitQueue : s.waitQueue = [] := by rfl) : s.ClosedLaw where
  noStation _ h := by
    rw [State.station, stations]
    exact State.reset_station h
  noConnection _ i := by
    rw [State.connection, connections]
    exact State.reset_connection i
  noEntry _ := waitQueue
  noAssembly _ h := by
    rw [State.assembly, assemblies]
    exact State.reset_assembly h
  allFree _ n r there := by
    rw [State.slot, slots] at there
    exact State.reset_slot there

end Sys2Proof.Machine
end

section
/-! Every command keeps the laws of CLOSED, of DRAINING and of full reset (R160, R163, R166, R189). -/

namespace Sys2Proof.Machine

set_option Elab.async false -- one proof at a time: waiting proofs would hold a thread each

/-! ### The law of full reset -/

theorem State.heldLaw_of_running {s : State} (running : s.hold = .running) : s.HeldLaw :=
  ⟨fun held => absurd running held, fun held => absurd running held⟩

/-- While full reset is held a transaction may change, if it writes nothing to its end (R189). -/
theorem State.HeldLaw.withSpi {s : State} (law : s.HeldLaw) (x : Spi)
    (discarded : s.hold ≠ .running → ∀ y, x.transaction = some y → y.underReset = y) :
    State.HeldLaw { s with spi := x } :=
  ⟨fun held => congrArg (fun u : State => { u with spi := x }) (law.atReset held), discarded⟩

theorem State.HeldLaw.withPins {s : State} (law : s.HeldLaw) (p : Pins) : State.HeldLaw { s with pins := p } :=
  ⟨fun held => congrArg (fun u : State => { u with pins := p }) (law.atReset held), law.discarded⟩

theorem State.HeldLaw.withPending {s : State} (law : s.HeldLaw) (waiting : List Instr) :
    State.HeldLaw { s with pending := waiting } :=
  ⟨fun held => congrArg (fun u : State => { u with pending := waiting }) (law.atReset held), law.discarded⟩

/-- A cause of full reset comes or goes while another holds it. -/
theorem State.HeldLaw.withHold {s : State} (law : s.HeldLaw) (held : s.hold ≠ .running) (left : Hold) :
    State.HeldLaw { s with hold := left } :=
  ⟨fun _ => congrArg (fun u : State => { u with hold := left }) (law.atReset held), fun _ => law.discarded held⟩

theorem SpiTransaction.underReset_underReset (x : SpiTransaction) : x.underReset.underReset = x.underReset := by
  cases x <;> rfl

theorem State.heldLaw_enterReset (s : State) (h : Hold) : (s.enterReset h).HeldLaw := by
  refine ⟨fun _ => rfl, fun _ x there => ?_⟩
  obtain ⟨y, -, rfl⟩ := Option.map_eq_some_iff.mp there
  exact y.underReset_underReset

/-! ### What a command upholds -/

/-- Each of the three laws that the first part meets the second meets. -/
structure State.Upholds (s t : State) : Prop where
  closed : s.ClosedLaw → t.ClosedLaw
  draining : s.DrainingLaw → t.DrainingLaw
  held : s.HeldLaw → t.HeldLaw

theorem State.Upholds.refl (s : State) : s.Upholds s := ⟨id, id, id⟩

theorem State.Upholds.trans {s t u : State} (first : s.Upholds t) (second : t.Upholds u) : s.Upholds u :=
  ⟨second.closed ∘ first.closed, second.draining ∘ first.draining, second.held ∘ first.held⟩

theorem State.Conserves.upholds {s t : State} (conserves : s.Conserves t)
    (held : s.hold ≠ .running → s.HeldLaw → t.HeldLaw) : s.Upholds t := by
  refine ⟨conserves.closedLaw, conserves.drainingLaw, fun law => ?_⟩
  by_cases running : s.hold = .running
  · exact State.heldLaw_of_running (conserves.intake.hold.trans running)
  · exact held running law

theorem State.Conserves.upholds_of_running {s t : State} (conserves : s.Conserves t) (running : s.hold = .running) :
    s.Upholds t := conserves.upholds fun held => absurd running held

/-- The highway is closed: DRAINING is over. -/
theorem State.upholds_of_closed {s t : State} (closed : t.highway = .closed) (law : t.ClosedLaw)
    (held : s.HeldLaw → t.HeldLaw) : s.Upholds t :=
  ⟨fun _ => law, fun _ => State.drainingLaw_of_ne (by simp [closed]), held⟩

/-! ### Events -/

theorem State.upholds_settled (s : State) : s.Upholds s.settled :=
  s.conserves_settled.upholds fun held law => by rwa [s.settled_of_held held]

theorem State.upholds_event (s : State) {f : State → State} (work : ∀ t : State, t.Conserves (f t)) :
    s.Upholds (s.event f) := by
  have conserves := s.event_keeps s.Conserves (fun t before => before.trans t.conserves_takeDue) f
    (fun t before => before.trans (work t)) (State.Conserves.refl s)
  exact conserves.upholds fun held law => by rwa [s.event_of_held f held]

theorem State.upholds_lineEvent (s : State) (change : Pins → Pins) {f : State → State}
    (work : ∀ t : State, t.Conserves (f t)) : s.Upholds (s.lineEvent change f) := by
  have conserves := s.lineEvent_keeps s.Conserves (fun t before => before.trans t.conserves_takeDue)
    (fun _ _ before => before.trans .of_unchanged) change f (fun t before => before.trans (work t)) (State.Conserves.refl s)
  refine conserves.upholds fun held law => ?_
  rw [s.lineEvent_of_held change f held]
  exact law.withPins _

theorem State.upholds_message (s : State) (command : Instr) {f : State → State} (work : ∀ t : State, t.Conserves (f t)) :
    s.Upholds (s.message command f) :=
  s.upholds_event fun _ => State.Conserves.trans .of_unchanged (work _)

/-- A station message other than ATTACH (R74). -/
theorem State.upholds_sourcedMessage (s : State) (command : Instr) (drop : Drop) (source : StationNumber)
    (tag : Option Tag) (reference : Option Reference) {owner : Handle → Station → State → State}
    (work : ∀ (t : State) (h : Handle) (r : Station), t.NoIntake (owner h r t)) :
    s.Upholds (s.message command fun t => t.resolve drop source tag reference owner) :=
  s.upholds_message command fun t => t.conserves_resolve drop source tag reference (work t)

/-- A station message that names a reference (R24). -/
theorem State.upholds_referenceMessage (s : State) (command : Instr) (drop : Drop) (source : StationNumber)
    (tag : Option Tag) (reference : Reference) {f : Connection → Role → Handle → State → State}
    (work : ∀ (t : State) c role h, t.connection reference.index = some c → t.NoIntake (f c role h t)) :
    s.Upholds (s.message command fun t => t.resolve drop source tag (some reference) (State.onReference reference f)) :=
  s.upholds_sourcedMessage command drop source tag (some reference) fun t => t.noIntake_onReference reference (work t)

/-- The taking of an expiry by its row. -/
theorem State.upholds_takeDueIf (s : State) (due : Bool) :
    s.Upholds (if s.hold = .running ∧ due then s.takeDue else s) := by
  split
  · rename_i taken
    exact s.conserves_takeDue.upholds_of_running taken.1
  · exact State.Upholds.refl s

/-! ### Full reset and the frame start (R1, R166) -/

theorem State.upholds_enterReset (s : State) (h : Hold) : s.Upholds (s.enterReset h) :=
  State.upholds_of_closed rfl State.closedLaw_of_reset fun _ => s.heldLaw_enterReset h

theorem State.upholds_release_startFrame (s : State) : s.Upholds s.release.startFrame := by
  have started := s.release.conserves_startFrame
  have released : s.release.ClosedLaw := State.closedLaw_of_reset
  exact State.upholds_of_closed started.intake.highway (started.closedLaw released) fun _ =>
    State.heldLaw_of_running started.intake.hold

theorem State.upholds_endCause (s : State) (left : Hold) (held : s.hold ≠ .running) : s.Upholds (s.endCause left) := by
  unfold State.endCause
  split
  · exact ⟨fun law => { law with }, fun law => { law with }, fun law => law.withHold held left⟩
  · exact s.upholds_release_startFrame

/-! ### SPI transactions (R167, R189) -/

theorem State.upholds_withSpi (s : State) (x : Spi)
    (discarded : s.HeldLaw → s.hold ≠ .running → ∀ y, x.transaction = some y → y.underReset = y) :
    s.Upholds { s with spi := x } :=
  State.Conserves.upholds .of_unchanged fun _ law => law.withSpi x (discarded law)

/-- A transaction begun while full reset is held writes nothing to its end. -/
theorem State.upholds_select (s : State) : s.Upholds s.select :=
  s.upholds_withSpi _ fun _ held y there => by
    cases there
    simp [SpiTransaction.underReset, held]

theorem State.upholds_deselect (s : State) : s.Upholds s.deselect := s.upholds_withSpi _ fun _ _ _ there => nomatch there

theorem State.upholds_driveBytes (s : State) (a : BitVec 6) (count : Nat) : s.Upholds (s.driveBytes a count) :=
  s.upholds_withSpi _ fun _ _ y there => by
    cases there
    rfl

theorem State.upholds_takeAddress (s : State) (byte : Byte) : s.Upholds (s.takeAddress byte) := by
  obtain ⟨-, same⟩ | ⟨-, d, awaited, same⟩ | ⟨-, same⟩ := s.takeAddress_cases byte <;> rw [same]
  · refine s.upholds_withSpi _ fun _ _ y there => ?_
    cases there
    rfl
  · refine s.upholds_withSpi _ fun law held y there => ?_
    have discards := law.discarded held _ awaited
    cases there
    simpa [SpiTransaction.underReset] using discards
  · exact State.Upholds.refl s

/-- A data byte is written with full reset not held: while it is held every write transaction is discarded. -/
theorem State.upholds_dataByte (s : State) (value : Byte) : s.Upholds (s.dataByte value) := by
  obtain ⟨a, here, -⟩ | ⟨a, -, same⟩ | ⟨a, -, same⟩ | ⟨-, -, same⟩ := s.dataByte_cases value
  · refine (s.conserves_dataByte value).upholds fun held law => ?_
    have discards := law.discarded held _ here
    simp [SpiTransaction.underReset] at discards
  · rw [same]
    refine s.upholds_withSpi _ fun _ _ y there => ?_
    cases there
    rfl
  · rw [same]
    exact s.upholds_driveBytes a 1
  · rw [same]
    exact State.Upholds.refl s

theorem State.upholds_firstByte (s : State) (address value : Byte) : s.Upholds (s.firstByte address value) :=
  (s.upholds_select.trans (State.upholds_takeAddress ..)).trans (State.upholds_dataByte ..)

/-! ### Host commands (R157 to R166, R172 to R174) -/

/-- Everything a host command can do: its code is written alone, or it is taken, with its code written now or before. -/
theorem State.hostCommand_cases (s : State) (code : Byte) (take : State → State) :
    s.hostCommand code take = s.settled.firstByte 0x03 code ∨
      ∃ t, t.hold = .running ∧ s.hostCommand code take = take t ∧
        (t = s.settled ∨ t = s.settled.firstByte 0x03 code) := by
  simp only [State.hostCommand]
  split
  · rename_i latched
    exact .inr ⟨_, latched.1, rfl, .inl rfl⟩
  split
  · rename_i written
    refine .inr ⟨_, ?_, rfl, .inr rfl⟩
    have same : s.settled.NoIntake (s.settled.firstByte 0x03 code) :=
      (State.NoIntake.trans .of_unchanged (State.noIntake_takeAddress ..)).trans (State.noIntake_dataByte ..)
    exact same.hold.trans written.1
  · exact .inl rfl

theorem State.upholds_hostCommand (s : State) (code : Byte) {take : State → State}
    (work : ∀ t : State, t.hold = .running → t.Upholds (take t)) : s.Upholds (s.hostCommand code take) := by
  have written := s.upholds_settled.trans (State.upholds_firstByte _ 0x03 code)
  obtain same | ⟨t, running, same, rfl | rfl⟩ := s.hostCommand_cases code take <;> rw [same]
  · exact written
  · exact s.upholds_settled.trans (work _ running)
  · exact written.trans (work _ running)

theorem State.upholds_runCommand (s : State) (code : Byte) {work : State → Work}
    (done : ∀ t : State, t.Conserves (work t).part) : s.Upholds (s.hostCommand code (State.runCommand work)) :=
  s.upholds_hostCommand code fun t running => ((done t).trans .of_unchanged).upholds_of_running running

/-- A command that reads changes no record. -/
theorem State.upholds_readCommand (s : State) (code : Byte) {work : State → Work} (reads : ∀ t, (work t).part = t) :
    s.Upholds (s.hostCommand code (State.runCommand work)) :=
  s.upholds_runCommand code fun t => by
    rw [reads t]
    exact State.Conserves.refl t

/-- In OPEN neither law asks for anything. -/
theorem State.upholds_of_opened {s t : State} (opened : t.highway = .opened) (running : t.hold = .running) :
    s.Upholds t := by
  exact ⟨fun _ => State.closedLaw_of_ne (by simp [opened]), fun _ => State.drainingLaw_of_ne (by simp [opened]),
    fun _ => State.heldLaw_of_running running⟩

theorem State.upholds_open {s : State} (running : s.hold = .running) : s.Upholds (s.runCommand State.openWork) := by
  by_cases opened : s.highway = .opened
  · refine State.upholds_of_opened ?_ ?_ <;> simp only [State.runCommand, State.openWork_of_opened opened]
    · exact opened
    · exact running
  · refine State.upholds_of_opened ?_ ?_ <;> simp only [State.runCommand, State.openWork_of_not_opened opened]
    · exact State.broadcast_highway ..
    · exact (State.broadcast_hold ..).trans running

/-- What a drain leaves: no queue entry, and of the connections the ACTIVE ones (R47, R61). -/
theorem State.drainingLaw_drained (s : State) (sent : List DownMessage) : (s.drained.offerAll sent).DrainingLaw where
  noEntry _ := State.offerAll_waitQueue ..
  allActive _ i c there := by
    have left : (s.drained.offerAll sent).connection i = (s.connection i).filter fun k => k.state = .active := by
      rw [State.offerAll_connection]
      simp [State.drained, State.withTables, State.connection]
    rw [left, Option.filter_eq_some_iff] at there
    exact of_decide_eq_true there.2

theorem State.upholds_drain {s : State} (running : s.hold = .running) (waitQueueFirst : Bool) :
    s.Upholds (s.runCommand (State.drainWork waitQueueFirst)) := by
  cases state : s.highway with
  | closed | draining =>
    simp only [State.runCommand, State.drainWork, state]
    exact State.Conserves.upholds_of_running .of_unchanged running
  | opened =>
    let told := State.broadcast (.highwayState .draining) { s with highway := .draining }
    have standing : told.highway = .draining := State.broadcast_highway ..
    have still : told.hold = .running := (State.broadcast_hold ..).trans running
    simp only [State.runCommand, State.drainWork, state]
    rw [State.drain_eq standing]
    generalize (if waitQueueFirst then _ else _ : List DownMessage) = sent
    have highway : (told.drained.offerAll sent).highway = .draining := (State.offerAll_highway ..).trans standing
    have hold : (told.drained.offerAll sent).hold = .running := (State.sameBoundary_offerAll ..).hold.trans still
    refine ⟨fun _ => State.closedLaw_of_ne ?_, fun _ => { told.drainingLaw_drained sent with }, fun _ =>
      State.heldLaw_of_running hold⟩
    exact fun closed => nomatch highway.symm.trans closed

theorem State.upholds_close {s : State} (running : s.hold = .running) : s.Upholds (s.runCommand State.closeWork) := by
  have closed : s.closeWork.part = s.closeHighway := rfl
  simp only [State.runCommand, closed, State.closeHighway_eq]
  exact State.upholds_of_closed rfl State.closedLaw_of_reset fun _ => State.heldLaw_of_running running

/-! ### The laws after every step -/

/-- Every command upholds the three laws. -/
theorem exec_upholds {s t : State} (c : Instr) (answered : exec c s = .next t) : s.Upholds t := by
  cases c <;> cases answered
  case powerUp => exact s.upholds_enterReset _
  case rstLow => exact s.upholds_enterReset _
  case rstHigh =>
    split
    · rename_i low
      exact s.upholds_endCause _ fun running => by simp [running, Hold.running] at low
    · exact State.Upholds.refl s
  case resetRelease =>
    split
    · rename_i unstable
      exact s.upholds_endCause _ fun running => by simp [running, Hold.running] at unstable
    split
    · exact s.upholds_release_startFrame
    · exact State.Upholds.refl s
  case frameStart =>
    split
    · rename_i running
      exact (s.conserves_finishFrame.trans (State.conserves_startFrame _)).upholds_of_running running
    split
    · exact State.Upholds.refl s
    · exact s.upholds_release_startFrame
  case uplinkGrant drq =>
    refine s.upholds_lineEvent _ fun u => ?_
    split
    · exact u.noIntake_considerGrant.conserves u.sameDirectory_considerGrant
    · exact State.Conserves.refl u
  case uplinkHeader word =>
    refine s.upholds_event fun u => ?_
    split
    · split
      · exact (u.noIntake_judgeHeader ..).conserves (u.sameDirectory_judgeHeader ..)
      · exact State.Conserves.refl u
    · exact State.Conserves.refl u
    · exact State.Conserves.refl u
  case uplinkWord word =>
    refine s.upholds_event fun u => ?_
    split
    · split
      · exact (u.noIntake_takeWord ..).conserves (u.sameDirectory_takeWord ..)
      · exact State.Conserves.refl u
    · exact State.Conserves.refl u
    · exact State.Conserves.refl u
  case drqFall drop =>
    refine s.upholds_lineEvent _ fun u => ?_
    split
    · exact (u.noIntake_closeWindow_makeNak ..).conserves (u.sameDirectory_closeWindow_makeNak ..)
    · exact State.Conserves.refl u
  case dprFall drop =>
    refine s.upholds_lineEvent _ fun u => ?_
    split
    · exact u.noIntake_closeWindow.conserves u.sameDirectory_closeWindow
    · exact State.Conserves.refl u
  case dprRise drop => exact s.upholds_lineEvent _ State.Conserves.refl
  case presenceLoss drop => exact s.upholds_lineEvent _ fun u => u.conserves_losePresence drop
  case messageDeparture =>
    refine s.upholds_event fun u => ?_
    split
    · exact u.conserves_depart
    · exact State.Conserves.refl u
  case attach drop source kind cls => exact s.upholds_message _ fun u => u.conserves_takeAttach ..
  case detach drop source => exact s.upholds_sourcedMessage _ _ _ _ _ State.noIntake_takeDetach
  case request drop source peer cls contiguous width tag =>
    exact s.upholds_sourcedMessage _ _ _ _ _ fun u => u.noIntake_takeRequest _ _ _ _ _
  case accept drop source reference =>
    exact s.upholds_referenceMessage _ _ _ _ _ fun _ _ role h here => State.noIntake_takeAccept here role h
  case decline drop source reference =>
    exact s.upholds_referenceMessage _ _ _ _ _ fun u c role h _ => u.noIntake_takeDecline reference c role h
  case renew drop source reference =>
    exact s.upholds_referenceMessage _ _ _ _ _ fun _ _ role h here => State.noIntake_takeRenew here role h
  case release drop source reference =>
    exact s.upholds_referenceMessage _ _ _ _ _ fun u c role h _ => u.noIntake_takeRelease reference c role h
  case query drop source => exact s.upholds_sourcedMessage _ _ _ _ _ State.noIntake_takeQuery
  case cancel drop source tag => exact s.upholds_sourcedMessage _ _ _ _ _ fun u => u.noIntake_takeCancel tag
  case rosterBegin drop source generation count depth depthExceeded countExceeded =>
    exact s.upholds_sourcedMessage _ _ _ _ _ fun u h r => u.noIntake_fromTopRelay (u.noIntake_beginRoster ..)
  case rosterPart drop source partIndex entries =>
    exact s.upholds_sourcedMessage _ _ _ _ _ fun u h r => u.noIntake_fromTopRelay (u.noIntake_partRoster ..)
  case rosterEnd drop source generation =>
    exact s.upholds_sourcedMessage _ _ _ _ _ fun u h r => u.noIntake_fromTopRelay (u.noIntake_endRoster ..)
  case guardEnd => exact s.upholds_event State.conserves_takeOwedGuardEnd
  case leaseCountdownWalk => exact s.upholds_event State.conserves_takeOwedLeaseWalk
  case queueDeadlineWalk => exact s.upholds_event State.conserves_takeOwedQueueWalk
  case rosterDeadlineWalk => exact s.upholds_event State.conserves_takeOwedRosterWalk
  case leaseExpiry | answerExpiry | queueTimeout | rosterDeadlineExpiry => exact s.upholds_takeDueIf _
  case spiReadCapture address length =>
    have begun := (s.upholds_settled.trans (State.upholds_select _)).trans (State.upholds_takeAddress _ address)
    dsimp only
    split
    · exact begun.trans (State.upholds_driveBytes ..)
    · exact begun
  case registerWrite event value =>
    refine s.upholds_settled.trans ?_
    split
    · exact State.upholds_select _
    · exact State.upholds_takeAddress ..
    · exact State.upholds_dataByte ..
    · exact State.upholds_deselect _
    · exact State.upholds_firstByte ..
  case notifyPendingWrite | notifyEnableWrite | commandCollision | unknownCommand =>
    exact s.upholds_settled.trans (State.upholds_firstByte ..)
  case commandCompletion =>
    refine s.upholds_event fun u => ?_
    split
    · exact .of_unchanged
    · exact State.Conserves.refl u
    · exact State.Conserves.refl u
  case openHighway => exact s.upholds_hostCommand _ fun _ => State.upholds_open
  case drain waitQueueFirst => exact s.upholds_hostCommand _ fun _ running => State.upholds_drain running waitQueueFirst
  case close => exact s.upholds_hostCommand _ fun _ => State.upholds_close
  case reset => exact s.upholds_hostCommand _ fun u _ => u.upholds_enterReset _
  case denyAdd => exact s.upholds_runCommand _ State.conserves_denyAddWork
  case denyRemove => exact s.upholds_runCommand _ State.conserves_denyRemoveWork
  case evict => exact s.upholds_runCommand _ State.conserves_evictWork
  case setQuota =>
    exact s.upholds_runCommand _ fun u => u.noIntake_setQuotaWork.conserves u.sameDirectory_setQuotaWork
  case pin => exact s.upholds_runCommand _ fun u => u.noIntake_pinWork.conserves u.sameDirectory_pinWork
  case unpin => exact s.upholds_runCommand _ fun u => u.noIntake_unpinWork.conserves u.sameDirectory_unpinWork
  case forceRelease =>
    exact s.upholds_runCommand _ fun u => u.noIntake_forceReleaseWork.conserves u.sameDirectory_forceReleaseWork
  case setPolicy =>
    exact s.upholds_runCommand _ fun u => u.noIntake_setPolicyWork.conserves u.sameDirectory_setPolicyWork
  case setTiming =>
    exact s.upholds_runCommand _ fun u => u.noIntake_setTimingWork.conserves u.sameDirectory_setTimingWork
  case readStation => exact s.upholds_readCommand _ State.part_readStationWork
  case readConnection => exact s.upholds_readCommand _ State.part_readConnectionWork
  case readSlots => exact s.upholds_readCommand _ State.part_readSlotsWork
  case readQueue => exact s.upholds_readCommand _ State.part_readQueueWork
  case readDeny => exact s.upholds_readCommand _ State.part_readDenyWork
  case readPolicy => exact s.upholds_readCommand _ State.part_readPolicyWork

/-- Settles O56: what waits in the queue of commands bears on none of the three laws, and every command upholds them. -/
theorem highwayStatesHold : Obligations.HighwayStatesHold :=
  ⟨keptByStep_of_exec State.ClosedLaw (fun _ _ law => { law with }) fun c _ _ law answered =>
      (exec_upholds c answered).closed law,
    keptByStep_of_exec State.DrainingLaw (fun _ _ law => { law with }) fun c _ _ law answered =>
      (exec_upholds c answered).draining law,
    keptByStep_of_exec State.HeldLaw (fun _ rest law => law.withPending rest) fun c _ _ law answered =>
      (exec_upholds c answered).held law⟩

end Sys2Proof.Machine
end

section
/-! The register window and the read transactions that capture it (R167 to R171, R189, R194, R195). -/

namespace Sys2Proof.Machine

set_option Elab.async false -- one proof at a time: waiting proofs would hold a thread each

/-! ### Registers as bytes (R194, R195) -/

theorem highByte_append_lowByte (v : BitVec 16) : highByte v ++ lowByte v = v := by
  have := v.isLt
  refine BitVec.eq_of_toNat_eq ?_
  simp only [highByte, lowByte, toNat_append_eq_add, BitVec.extractLsb'_toNat, Nat.shiftRight_eq_div_pow]
  omega

/-- STATUS as a number: BUSY, COLLIDED and HIGHWAY STATE at their places. -/
theorem statusBits_eq_ofNat (busy collided : Bool) {state : Nat} (short : state < 4) :
    BitVec.ofBool busy ++ BitVec.ofBool collided ++ (0 : BitVec 4) ++ BitVec.ofNat 2 state =
      BitVec.ofNat 8 ((if busy then 0x80 else 0) + (if collided then 0x40 else 0) + state) := by
  have := busy.toNat_lt
  have := collided.toNat_lt
  refine BitVec.eq_of_toNat_eq ?_
  simp only [toNat_append_eq_add, ite_eq_mul_toNat, BitVec.toNat_ofNat, BitVec.toNat_ofBool, BitVec.ofNat_eq_ofNat]
  omega

theorem HighwayState.code_lt (state : HighwayState) : state.code < 4 := by cases state <;> decide

/-- RESULT gives the code that R195 lists for the result. -/
theorem Result.mem_codes (r : Result) : (r, r.code) ∈ (
    [(.ok, 0x00), (.unknownCommand, 0x01), (.badArgument, 0x02), (.notFound, 0x03), (.listFull, 0x04),
      (.alreadyListed, 0x05), (.slotBusy, 0x06), (.tableFull, 0x07), (.wrongState, 0x08), (.partyLimit, 0x09),
      (.notAdmitted, 0x0A)] : List (Result × Byte)) := by
  cases r <;> decide

/-! ### The window, location by location (R170, R171, R194) -/

section Window
variable {s : State}

theorem State.statusByte_of_running (running : s.hold = .running) : s.statusByte =
    BitVec.ofNat 8
      ((if s.port.mailbox = .idle then 0 else 0x80) + (if s.port.collided then 0x40 else 0) + s.highway.code) := by
  have busy : s.busy = !decide (s.port.mailbox = .idle) := by simp [State.busy, running, bne, beq_eq_decide]
  rw [State.statusByte, statusBits_eq_ofNat _ _ s.highway.code_lt, busy]
  simp

theorem State.windowByte_unused {a : Nat} (low : 0x15 ≤ a) (high : a < 0x20) : s.windowByte a = 0 := by
  interval_cases a <;> rfl

theorem State.windowByte_readout {k : Nat} (bound : k < 32) : s.windowByte (0x20 + k) = s.port.readout[k] := by
  unfold State.windowByte
  split
  case h_22 => simp [bound]
  all_goals omega

/-! ### The captured window (R169, R189) -/

/-- What a read shows while full reset is held: the part at its release, still held, with the lines as they are. -/
def State.heldView (s : State) : State := { State.reset with hold := s.hold, pins := s.pins }

theorem State.windowNow_getElem_of_running (running : s.hold = .running) {a : Nat} (bound : a < 64) :
    s.windowNow[a] = s.windowByte a := by
  simp only [State.windowNow, if_pos running, Vector.getElem_ofFn]

theorem State.windowNow_getElem_of_held (held : s.hold ≠ .running) {a : Nat} (bound : a < 64) :
    s.windowNow[a] = s.heldView.windowByte a := by
  simp only [State.windowNow, if_neg held, Vector.getElem_ofFn, State.heldView]

theorem State.heldView_statusByte (held : s.hold ≠ .running) : s.heldView.statusByte = 0x80 := by
  have busy : s.heldView.busy = true := by simp [State.busy, State.heldView, held]
  rw [State.statusByte, busy]
  change BitVec.ofBool true ++ BitVec.ofBool false ++ (0 : BitVec 4) ++ BitVec.ofNat 2 0 = 0x80
  decide

/-- But for STATUS and DROP PRESENT, a read while full reset is held gives the reset values. -/
theorem State.heldView_windowByte {a : Nat} (status : a ≠ 0x02) (high : a ≠ 0x0F) (low : a ≠ 0x10) :
    s.heldView.windowByte a = State.reset.windowByte a := by
  unfold State.windowByte
  split
  case h_3 | h_16 | h_17 => contradiction
  all_goals rfl

theorem reset_windowByte_eq_zero :
    ∀ a : Fin 64, (0x03 ≤ a.val ∧ a.val < 0x0D) ∨ 0x11 ≤ a.val → State.reset.windowByte a = 0 := by decide

theorem State.heldView_windowByte_eq_zero {a : Nat} (bound : a < 64) (zero : (0x03 ≤ a ∧ a < 0x0D) ∨ 0x11 ≤ a) :
    s.heldView.windowByte a = 0 := by
  rw [State.heldView_windowByte (by omega) (by omega) (by omega)]
  exact reset_windowByte_eq_zero ⟨a, bound⟩ zero

theorem reset_windowByte_freeSlots : State.reset.windowByte 0x0D = 0x3E := by decide

/-- An SPI transaction is not seen in the window. -/
theorem State.windowNow_withSpi (x : Spi) : State.windowNow { s with spi := x } = s.windowNow := by
  refine Vector.ext fun a bound => ?_
  by_cases running : s.hold = .running
  · rw [State.windowNow_getElem_of_running running, State.windowNow_getElem_of_running (s := { s with spi := x }) running]
    rfl
  · rw [State.windowNow_getElem_of_held running, State.windowNow_getElem_of_held (s := { s with spi := x }) running]
    rfl

end Window

/-! ### The address byte and the bytes read (R167 to R169, R194) -/

theorem location_setWidth (byte : Byte) : location (byte.setWidth 7) = byte.setWidth 6 :=
  BitVec.setWidth_setWidth_of_le byte (by decide)

theorem captured_eq_getElem (capture : Vector Byte 64) (a : BitVec 6) : captured capture a = capture[a.toNat] := by
  have bound := a.isLt
  simp [captured, bound]

/-- The address of a data byte advances from the location that the address byte names, wrapping past 3Fh. -/
theorem captured_advance (capture : Vector Byte 64) (address : Byte) (k : Nat) :
    captured capture (address.setWidth 6 + BitVec.ofNat 6 k) =
      capture[(address.toNat + k) % 64]'(Nat.mod_lt _ (by decide)) := by
  have place : (address.setWidth 6 + BitVec.ofNat 6 k : BitVec 6).toNat = (address.toNat + k) % 64 := by simp
  simp only [captured_eq_getElem, place]

section Transaction
variable {s : State}

/-- Full reset is not held and no walk stands at an expiry, or full reset is held: there is nothing to settle. -/
theorem State.settled_of_quiet_or_held (ready : s.Quiet ∨ s.hold ≠ .running) : s.settled = s :=
  ready.elim State.Quiet.settled_eq s.settled_of_held

theorem State.takeAddress_of_read {byte : Byte} (read : byte.getLsbD 7 = true) {discarded : Bool}
    (awaited : s.spi.transaction = some (.addressing discarded)) :
    s.takeAddress byte = { s with spi := ⟨some (.reading (byte.setWidth 6)), s.windowNow, []⟩ } := by
  simp only [State.takeAddress, awaited, addressByte, read, if_true, location_setWidth]

theorem State.takeAddress_of_write {byte : Byte} (write : byte.getLsbD 7 = false) {discarded : Bool}
    (awaited : s.spi.transaction = some (.addressing discarded)) :
    s.takeAddress byte =
      { s with spi := { s.spi with transaction := some (.writing (byte.setWidth 6) discarded) } } := by
  simp only [State.takeAddress, awaited, addressByte, write, Bool.false_eq_true, if_false, location_setWidth]

theorem State.select_eq : s.select =
    { s with spi := { s.spi with transaction := some (.addressing (decide (s.hold ≠ Hold.running))) } } := by
  simp only [State.select, bne, beq_eq_decide, decide_not]

/-- A write transaction from its start to its address byte. -/
theorem exec_spiReadCapture_of_write (ready : s.settled = s) {address : Byte} (length : Nat)
    (write : address.getLsbD 7 = false) : exec (.spiReadCapture address length) s = .next
      { s with spi := { s.spi with
          transaction := some (.writing (address.setWidth 6) (decide (s.hold ≠ Hold.running))) } } := by
  have begun : s.select.takeAddress address = _ := State.takeAddress_of_write write (by rw [State.select_eq])
  simp only [exec, execSpiReadCapture, ready, begun]
  rfl

/-- A read transaction from its start: the window is captured, and each byte driven is the captured one at its address. -/
theorem exec_spiReadCapture_of_read (ready : s.settled = s) {address : Byte} (length : Nat)
    (read : address.getLsbD 7 = true) : exec (.spiReadCapture address length) s = .next
      { s with
        spi :=
          ⟨some (.reading (address.setWidth 6 + BitVec.ofNat 6 length)), s.windowNow,
            (List.range length).map fun k =>
              s.windowNow[(address.toNat + k) % 64]'(Nat.mod_lt _ (by decide))⟩ } := by
  have begun : s.select.takeAddress address = _ := State.takeAddress_of_read read rfl
  have same : s.select.windowNow = s.windowNow := State.windowNow_withSpi _
  simp only [exec, execSpiReadCapture, ready, begun, State.driveBytes, List.nil_append, same, captured_advance]
  rfl

end Transaction

/-- Settles O42. -/
theorem readsCaptureTheWindow : Obligations.ReadsCaptureTheWindow := by
  intro s address length ready
  have settled := State.settled_of_quiet_or_held ready
  refine ⟨exec_spiReadCapture_of_write settled length,
    fun read => ⟨s.windowNow, exec_spiReadCapture_of_read settled length read, ?_⟩⟩
  by_cases running : s.hold = .running
  · simp only [State.windowNow_getElem_of_running running]
    refine ⟨rfl, rfl, highByte_append_lowByte _, fun _ => State.windowByte_unused, fun _ => ?_,
      fun held => absurd running held⟩
    refine ⟨?_, rfl, s.port.result.mem_codes, highByte_append_lowByte _, highByte_append_lowByte _, rfl,
      congrArg byteOf s.connectionCount_eq, rfl, rfl, rfl, rfl, highByte_append_lowByte _, highByte_append_lowByte _,
      fun k => State.windowByte_readout k.isLt⟩
    exact State.statusByte_of_running running
  · simp only [State.windowNow_getElem_of_held running]
    refine ⟨rfl, rfl, highByte_append_lowByte _, fun _ => State.windowByte_unused,
      fun runs => absurd runs running, fun _ => ?_⟩
    refine ⟨State.heldView_statusByte running, ?_, rfl, fun k low high => ?_, fun k low high => ?_⟩
    · exact (State.heldView_windowByte (by decide) (by decide) (by decide)).trans reset_windowByte_freeSlots
    · exact State.heldView_windowByte_eq_zero (by omega) (.inl ⟨low, high⟩)
    · exact State.heldView_windowByte_eq_zero high (.inr low)

end Sys2Proof.Machine
end

section
/-! Write transactions: a data byte reaches its location and no other (R167, R168, R172, R173, R175, R187 to R189). -/

namespace Sys2Proof.Machine

set_option Elab.async false -- one proof at a time: waiting proofs would hold a thread each

/-! ### The locations (R168, R172, R173, R175) -/

section Locations
variable {s : State}

/-- With BUSY clear a code that names a command is latched (R172). -/
theorem State.writeCommand_of_named {code : Byte} (idle : s.port.mailbox = .idle) (named : code ∈ commandCodes) :
    s.writeCommand code = s.latch code := by
  simp only [State.writeCommand, idle, List.contains_iff_mem, named, if_true]

/-- With BUSY clear a code that names no command is completed at once (R175). -/
theorem State.writeCommand_of_unknown {code : Byte} (idle : s.port.mailbox = .idle) (unknown : code ∉ commandCodes) :
    s.writeCommand code = (s.latch code).complete .unknownCommand (readoutOf []) := by
  simp only [State.writeCommand, idle, List.contains_iff_mem, unknown, if_true, if_false]

/-- A write of the command byte with BUSY set collides (R173). -/
theorem State.writeCommand_of_busy (code : Byte) (busy : s.port.mailbox ≠ .idle) :
    s.writeCommand code = { s with port := { s.port with collided := true } } := by
  simp only [State.writeCommand, busy, if_false]

theorem State.writeLocation_argument {a : BitVec 6} {k : Fin 20} (here : a.toNat = 0x20 + k.val) (value : Byte) :
    s.writeLocation a value = { s with port := { s.port with arguments := s.port.arguments.set k value } } := by
  have place : a.toNat - 0x20 = k.val := by omega
  have inArea : (0x20 ≤ a && a ≤ 0x33) = true := by
    rw [Bool.and_eq_true, decide_eq_true_eq, decide_eq_true_eq]
    bv_omega
  unfold State.writeLocation
  rw [if_neg (by bv_omega), if_neg (by bv_omega), if_neg (by bv_omega), if_neg (by bv_omega), if_neg (by bv_omega),
    if_pos inArea, place]
  have stored : s.port.arguments.setIfInBounds k value = s.port.arguments.set k value :=
    Vector.ext fun i _ => by simp only [Vector.getElem_setIfInBounds, Vector.getElem_set]
  simp only [State.writeArgument, stored]

/-- A read-only or unused location discards the byte. -/
theorem State.writeLocation_discards {a : BitVec 6} (value : Byte)
    (readOnly : a < 0x03 ∨ a = 0x04 ∨ (0x08 < a ∧ a < 0x20) ∨ 0x33 < a) : s.writeLocation a value = s := by
  have outside : ¬ (0x20 ≤ a && a ≤ 0x33) = true := by
    rw [Bool.and_eq_true, decide_eq_true_eq, decide_eq_true_eq]
    bv_omega
  unfold State.writeLocation
  rw [if_neg (by bv_omega), if_neg (by bv_omega), if_neg (by bv_omega), if_neg (by bv_omega), if_neg (by bv_omega),
    if_neg outside]

end Locations

/-! ### A data byte (R167 to R169, R189) -/

section DataByte
variable {s : State}

theorem State.dataByte_of_writing {a : BitVec 6} (here : s.spi.transaction = some (.writing a false)) (value : Byte) :
    s.dataByte value =
      { s with spi := { s.spi with transaction := some (.writing (a + 1) false) } }.writeLocation a value := by
  simp only [State.dataByte, here, Bool.false_eq_true, if_false]

theorem State.dataByte_of_discarded {a : BitVec 6} (here : s.spi.transaction = some (.writing a true)) (value : Byte) :
    s.dataByte value = { s with spi := { s.spi with transaction := some (.writing (a + 1) true) } } := by
  simp only [State.dataByte, here, if_true]

theorem State.dataByte_of_reading {a : BitVec 6} (here : s.spi.transaction = some (.reading a)) (value : Byte) :
    s.dataByte value =
      { s with spi := ⟨some (.reading (a + 1)), s.spi.capture, s.spi.sdo ++ [s.spi.capture[a.toNat]]⟩ } := by
  have driven : s.dataByte value = s.driveBytes a 1 := by simp only [State.dataByte, here]
  have first : a + BitVec.ofNat 6 0 = a := BitVec.add_zero a
  rw [driven, State.driveBytes, List.range_one, List.map_singleton, first, captured_eq_getElem]
  rfl

/-- A data byte comes to nothing outside a transaction, and where the address byte is still to come. -/
theorem State.dataByte_of_not_awaited (writes : ∀ a discarded, s.spi.transaction ≠ some (.writing a discarded))
    (reads : ∀ a, s.spi.transaction ≠ some (.reading a)) (value : Byte) : s.dataByte value = s := by
  obtain ⟨a, here, -⟩ | ⟨a, here, -⟩ | ⟨a, here, -⟩ | ⟨-, -, same⟩ := s.dataByte_cases value
  · exact absurd here (writes a false)
  · exact absurd here (writes a true)
  · exact absurd here (reads a)
  · exact same

theorem State.takeAddress_of_not_awaited (other : ∀ discarded, s.spi.transaction ≠ some (.addressing discarded))
    (byte : Byte) : s.takeAddress byte = s := by
  unfold State.takeAddress
  split
  · rename_i discarded awaited
    exact absurd awaited (other discarded)
  · rfl

end DataByte

/-! ### The rows of a transaction's events (R167, R168) -/

section Rows
variable {s : State} (ready : s.settled = s)
include ready

theorem exec_select (value : Byte) : exec (.registerWrite .select value) s = .next s.select :=
  congrArg (fun t : State => Host.Outcome.next t.select) ready

theorem exec_deselect (value : Byte) : exec (.registerWrite .deselect value) s = .next s.deselect :=
  congrArg (fun t : State => Host.Outcome.next t.deselect) ready

theorem exec_address (byte : Byte) : exec (.registerWrite .address byte) s = .next (s.takeAddress byte) :=
  congrArg (fun t : State => Host.Outcome.next (t.takeAddress byte)) ready

theorem exec_data (value : Byte) : exec (.registerWrite .data value) s = .next (s.dataByte value) :=
  congrArg (fun t : State => Host.Outcome.next (t.dataByte value)) ready

/-- A read transaction up to its address byte, its start seen before. -/
theorem exec_address_of_read {byte : Byte} (read : byte.getLsbD 7 = true) {discarded : Bool}
    (awaited : s.spi.transaction = some (.addressing discarded)) :
    exec (.registerWrite .address byte) s = exec (.spiReadCapture byte 0) s := by
  rw [exec_address ready, exec_spiReadCapture_of_read ready 0 read, State.takeAddress_of_read read awaited]
  simp only [BitVec.add_zero, List.range_zero, List.map_nil]

end Rows

/-! ### Transactions from their start to their first data byte (R167, R168, R194) -/

/-- The command is a write transaction from its start to its first data byte, which it brings for the location. -/
def StartsWrite (c : Instr) (a : BitVec 6) (value : Byte) : Prop :=
  (∃ address : Byte, c = .registerWrite (.first address) value ∧ address.getLsbD 7 = false ∧ a = address.setWidth 6) ∨
    (∃ high, c = .notifyPendingWrite high value ∧ a = if high then 0x05 else 0x06) ∨
    (∃ high, c = .notifyEnableWrite high value ∧ a = if high then 0x07 else 0x08) ∨
    ((c = .commandCollision value ∨ c = .unknownCommand value) ∧ a = 0x03)

/-- Whichever row brings it, an address byte with bit 7 clear starts it. -/
theorem StartsWrite.exec_eq_firstByte {c : Instr} {a : BitVec 6} {value : Byte} (starts : StartsWrite c a value)
    (s : State) : ∃ address : Byte, address.getLsbD 7 = false ∧ a = address.setWidth 6 ∧
      exec c s = .next (s.settled.firstByte address value) := by
  obtain ⟨address, rfl, write, rfl⟩ | ⟨high, rfl, rfl⟩ | ⟨high, rfl, rfl⟩ | ⟨rfl | rfl, rfl⟩ := starts
  · exact ⟨address, write, rfl, rfl⟩
  · exact ⟨if high then 0x05 else 0x06, by cases high <;> decide, by cases high <;> decide, rfl⟩
  · exact ⟨if high then 0x07 else 0x08, by cases high <;> decide, by cases high <;> decide, rfl⟩
  · exact ⟨0x03, by decide, by decide, rfl⟩
  · exact ⟨0x03, by decide, by decide, rfl⟩

theorem State.firstByte_of_running {s : State} (running : s.hold = .running) {address : Byte}
    (write : address.getLsbD 7 = false) (value : Byte) : s.firstByte address value =
      State.writeLocation (address.setWidth 6) value
        { s with spi := { s.spi with transaction := some (.writing (address.setWidth 6 + 1) false) } } := by
  rw [s.firstByte_of_write address value write, location_setWidth]
  exact State.dataByte_of_writing (by simp [running]) value

/-- Under full reset the byte is discarded (R189). -/
theorem State.firstByte_of_held {s : State} (held : s.hold ≠ .running) {address : Byte}
    (write : address.getLsbD 7 = false) (value : Byte) : s.firstByte address value =
      { s with spi := { s.spi with transaction := some (.writing (address.setWidth 6 + 1) true) } } := by
  rw [s.firstByte_of_write address value write, location_setWidth]
  exact State.dataByte_of_discarded (by simp [held]) value

/-- A data byte of a write transaction, its first or a later one, reaches its location (R167, R168). -/
theorem exec_dataByte_of_write {s : State} (quiet : s.Quiet) {c : Instr} {a : BitVec 6} {value : Byte}
    (writes : StartsWrite c a value ∨ (c = .registerWrite .data value ∧ s.spi.transaction = some (.writing a false))) :
    exec c s = .next
      ({ s with spi := { s.spi with transaction := some (.writing (a + 1) false) } }.writeLocation a value) := by
  obtain starts | ⟨rfl, here⟩ := writes
  · obtain ⟨address, write, rfl, answers⟩ := starts.exec_eq_firstByte s
    rw [answers, quiet.settled_eq, State.firstByte_of_running quiet.1 write]
  · rw [exec_data quiet.settled_eq, State.dataByte_of_writing here]

theorem exec_startsWrite_of_held {s : State} (held : s.hold ≠ .running) {c : Instr} {a : BitVec 6} {value : Byte}
    (starts : StartsWrite c a value) : exec c s = .next
      { s with spi := { s.spi with transaction := some (.writing (a + 1) true) } } := by
  obtain ⟨address, write, rfl, answers⟩ := starts.exec_eq_firstByte s
  rw [answers, s.settled_of_held held, State.firstByte_of_held held write]

/-- A read transaction from its start to its first data byte. -/
theorem exec_first_of_read (s : State) {byte : Byte} (read : byte.getLsbD 7 = true) (value : Byte) :
    exec (.registerWrite (.first byte) value) s = exec (.spiReadCapture byte 1) s := by
  have begun : s.settled.select.takeAddress byte = _ := State.takeAddress_of_read read rfl
  simp only [exec, execRegisterWrite, execSpiReadCapture, State.firstByte, begun]
  rfl

/-! ### NOTIFY (R188) -/

theorem State.notify_iff (s : State) :
    s.notify = true ↔ ∃ k, s.flags.getLsbD k = true ∧ s.port.enables.getLsbD k = true := by
  have both (k : Nat) : (s.flags &&& s.port.enables).getLsbD k = true ↔
      s.flags.getLsbD k = true ∧ s.port.enables.getLsbD k = true := by
    rw [BitVec.getLsbD_and, Bool.and_eq_true]
  simp only [State.notify, bne_iff_ne, ← both]
  constructor
  · contrapose!
    intro none
    exact BitVec.eq_of_getLsbD_eq fun k _ => by simpa using none k
  · rintro ⟨k, stands⟩ zero
    simp [zero] at stands

/-- Settles O43. -/
theorem writesReachTheirLocation : Obligations.WritesReachTheirLocation := by
  refine ⟨fun s c a value quiet writes => ?_, fun s c a value held starts => exec_startsWrite_of_held held starts,
    fun s byte value ready => ?_, State.notify_iff⟩
  · intro moved enabling
    have answers : exec c s = .next (moved.writeLocation a value) := exec_dataByte_of_write quiet writes
    -- at each of 05h to 08h `writeLocation` evaluates to the write of its flag register
    refine ⟨?_, ?_, ?_, ?_, fun k here => ?_, fun readOnly => ?_, ?_⟩
    · rintro rfl
      exact answers
    · rintro rfl
      exact answers
    · rintro rfl
      exact answers
    · rintro rfl
      exact answers
    · rw [answers, State.writeLocation_argument here]
    · rw [answers, State.writeLocation_discards value readOnly]
    · rintro rfl
      have command : exec c s = .next (moved.writeCommand value) := answers
      refine ⟨fun busy => ?_, fun idle => ?_⟩
      · exact command.trans (congrArg _ (State.writeCommand_of_busy value busy))
      · intro latched
        refine ⟨fun named => ?_, fun unknown => ?_⟩
        · exact command.trans (congrArg _ (State.writeCommand_of_named idle named))
        · exact command.trans (congrArg _ (State.writeCommand_of_unknown idle unknown))
  · intro standing
    have settled := State.settled_of_quiet_or_held ready
    refine ⟨(exec_select settled value).trans (congrArg _ State.select_eq), exec_deselect settled value,
      fun read => exec_first_of_read s read value, fun discarded awaited => ⟨fun write => ?_,
      fun read => exec_address_of_read settled read awaited, ?_⟩, fun a here => ?_, fun a here => ?_, fun other => ?_,
      fun none => ?_⟩
    · rw [exec_address settled, State.takeAddress_of_write write awaited]
    · rw [exec_data settled, State.dataByte_of_not_awaited (by simp [awaited]) (by simp [awaited])]
    · rw [exec_data settled, State.dataByte_of_discarded here]
    · rw [exec_data settled, State.dataByte_of_reading here]
    · rw [exec_address settled, State.takeAddress_of_not_awaited other]
    · rw [exec_data settled, State.dataByte_of_not_awaited (by simp [none]) (by simp [none])]

end Sys2Proof.Machine
end

section
/-! Host commands at the mailbox: latched, colliding, discarded, taken and completed (R172 to R174, R184, R189). -/

namespace Sys2Proof.Machine

set_option Elab.async false -- one proof at a time: waiting proofs would hold a thread each

/-! ### The row of a host command -/

/-- Each host command bears one of the codes of R195, and its row is that of a host command. -/
theorem exec_eq_hostCommand {c : Instr} {code : Byte} (named : hostCode c = some code) :
    code ∈ commandCodes ∧ ∃ take : State → State, ∀ s, exec c s = .next (s.hostCommand code take) := by
  cases c <;> cases named
  all_goals exact ⟨by decide, _, fun _ => rfl⟩

/-! ### The write of the command byte (R172, R173, R189) -/

section Mailbox
variable {s : State} {code : Byte}

/-- With BUSY clear the write latches the command, ready for its owner. -/
theorem State.Quiet.hostCommand_of_idle (quiet : s.Quiet) (idle : s.port.mailbox = .idle) (take : State → State) :
    s.hostCommand code take = take (s.firstByte 0x03 code) := by
  simp [State.hostCommand, quiet.settled_eq, quiet.1, idle]

/-- While another command is in progress nothing but the write comes of it. -/
theorem State.Quiet.hostCommand_of_busy (quiet : s.Quiet) (busy : s.port.mailbox ≠ .idle)
    (another : ¬ (s.port.mailbox = .latched ∧ s.port.command = code)) (take : State → State) :
    s.hostCommand code take = s.firstByte 0x03 code := by
  simp only [State.hostCommand, quiet.settled_eq, quiet.1, another, busy, and_false, if_false]

theorem State.hostCommand_of_held (held : s.hold ≠ .running) (take : State → State) :
    s.hostCommand code take = s.firstByte 0x03 code := by
  simp only [State.hostCommand, s.settled_of_held held, held, false_and, if_false]

end Mailbox

theorem State.firstByte_latches (s : State) {code : Byte} (running : s.hold = .running) (idle : s.port.mailbox = .idle)
    (named : code ∈ commandCodes) : s.firstByte 0x03 code =
      State.latch code { s with spi := { s.spi with transaction := some (.writing 0x04 false) } } :=
  (State.firstByte_of_running running rfl code).trans (State.writeCommand_of_named idle named)

theorem State.firstByte_collides (s : State) {code : Byte} (running : s.hold = .running)
    (busy : s.port.mailbox ≠ .idle) : s.firstByte 0x03 code =
      { s with
        port := { s.port with collided := true }
        spi := { s.spi with transaction := some (.writing 0x04 false) } } :=
  (State.firstByte_of_running running rfl code).trans (State.writeCommand_of_busy code busy)

/-- Settles O44. -/
theorem commandsAreLatchedTakenAndCompleted : Obligations.CommandsAreLatchedTakenAndCompleted := by
  refine ⟨fun s c code named => ?_, fun s quiet => ⟨fun result readout done => ?_, fun notDone => ?_⟩⟩
  · obtain ⟨code_mem, take, row⟩ := exec_eq_hostCommand named
    refine ⟨fun quiet idle => ?_, fun quiet busy another => ?_, fun held => ?_⟩
    · rw [row, row, quiet.hostCommand_of_idle idle, s.firstByte_latches quiet.1 idle code_mem]
      let written : State := { s with spi := { s.spi with transaction := some (.writing 0x04 false) } }
      have ready : (written.latch code).Latched code := ⟨quiet, rfl, rfl⟩
      exact congrArg Host.Outcome.next (ready.hostCommand_eq take).symm
    · rw [row, quiet.hostCommand_of_busy busy another, s.firstByte_collides quiet.1 busy]
    · rw [row, State.hostCommand_of_held held, State.firstByte_of_held held rfl]
      rfl
  · have completes : exec .commandCompletion s = .next (s.complete result readout) := by
      simp only [exec, execCommandCompletion, quiet.event_eq, done]
    rw [completes]
    rfl
  · obtain idle | latched := notDone
    · simp only [exec, execCommandCompletion, quiet.event_eq, idle]
    · simp only [exec, execCommandCompletion, quiet.event_eq, latched]

end Sys2Proof.Machine
end

section
/-! The readout forms, byte by byte (R195, section 11.6). -/

namespace Sys2Proof.Machine

set_option Elab.async false -- one proof at a time: waiting proofs would hold a thread each

/-! ### Bytes of a readout (R184, R195) -/

theorem readoutOf_getElem (bytes : List Byte) {k : Nat} (bound : k < 32) : (readoutOf bytes)[k] = bytes.getD k 0 :=
  Vector.getElem_ofFn ..

/-- A list that follows the `n` bytes of the other fields stands from byte `n` on. -/
theorem readoutOf_append_getElem {fields list : List Byte} {n k : Nat} (length : fields.length = n)
    (bound : n + k < 32) : (readoutOf (fields ++ list))[n + k] = list.getD k 0 := by
  rw [readoutOf_getElem, List.getD_append_right _ _ _ _ (by omega), length, Nat.add_sub_cancel_left]

/-- Of blocks of one length that follow each other, each stands at its multiple of the length. -/
theorem getD_flatMap_of_length {α : Type} {block : α → List Byte} {m : Nat} (length : ∀ x, (block x).length = m)
    (list : List α) {k : Nat} (inList : k < list.length) {j : Nat} (inBlock : j < m) :
    (list.flatMap block).getD (m * k + j) 0 = (block list[k]).getD j 0 := by
  induction list generalizing k with
  | nil => contradiction
  | cons x rest ih =>
    rw [List.flatMap_cons]
    cases k with
    | zero => simp [List.getElem?_append_left, length, inBlock]
    | succ k =>
      have place : m * (k + 1) + j = m + (m * k + j) := by rw [Nat.mul_succ]; omega
      rw [place, List.getD_append_right _ _ _ _ (by rw [length]; omega), length, Nat.add_sub_cancel_left,
        ih (Nat.lt_of_succ_lt_succ inList), List.getElem_cons_succ]

/-! ### Fields as bytes (R195) -/

theorem append_numberBytes (n : StationNumber) :
    n.extractLsb' 24 8 ++ n.extractLsb' 16 8 ++ n.extractLsb' 8 8 ++ n.extractLsb' 0 8 = n := by
  have := n.isLt
  refine BitVec.eq_of_toNat_eq ?_
  simp only [toNat_append_eq_add, BitVec.extractLsb'_toNat, Nat.shiftRight_eq_div_pow]
  omega

theorem flagBits_eq_ofNat : ∀ b0 b1 b2 : Bool, flagBits b0 b1 b2 =
    BitVec.ofNat 8 ((if b0 then 1 else 0) + (if b1 then 2 else 0) + if b2 then 4 else 0) := by
  decide

theorem flagBits_eq_ite : ∀ b : Bool, flagBits b false false = if b then 1 else 0 := by decide

theorem Reference.byte_eq_ofNat (r : Reference) : r.byte = BitVec.ofNat 8 (32 * r.serial.toNat + r.index.val) := by
  rw [← Reference.byte_toNat r, BitVec.ofNat_toNat, BitVec.setWidth_eq]

theorem State.usage_eq_sum_filter (s : State) (h : Handle) :
    s.usage h = ((s.inUse.filter fun k => k.originator = h).map fun k => k.width).sum := by
  unfold State.usage
  induction s.inUse with
  | nil => rfl
  | cons k rest ih =>
    by_cases originates : k.originator = h <;> simp [Connection.usageFor, originates, ← ih]

theorem State.partyCount_eq_length_filter (s : State) (h : Handle) :
    s.partyCount h = (s.inUse.filter fun k => k.originator = h ∨ k.answerer = h).length := by
  simp [State.partyCount, Connection.hasParty]

/-! ### Fields a top relay alone has (R178) -/

section TopRelay
variable {α : Type} (r : Station) (field : Option α)

theorem Station.isSome_ite_topRelay : (if r.topRelay then field else none).isSome = true ↔
    (r.kind = .relay ∧ r.via = none) ∧ field.isSome = true := by
  rw [← r.topRelay_iff]
  split <;> simp [*]

theorem Station.apply_ite_topRelay {β : Type} (value : Option α → β) :
    value (if r.topRelay then field else none) =
      if r.kind = .relay ∧ r.via = none then value field else value none :=
  (apply_ite value _ _ _).trans (if_congr r.topRelay_iff rfl rfl)

end TopRelay

/-! ### Lists of a form (R178 to R180) -/

theorem State.slotBytes_length (s : State) (n : Nat) : (s.slotBytes n).length = 2 := by
  unfold State.slotBytes
  split <;> rfl

theorem State.readoutOf_slotForm_getElem (s : State) (group : Nat) (k : Fin 16) {j : Nat} (bound : j < 2) :
    (readoutOf (s.slotForm group))[2 * k.val + j] = (s.slotBytes (2 + 16 * group + k.val)).getD j 0 := by
  rw [readoutOf_getElem]
  unfold State.slotForm
  rw [getD_flatMap_of_length (fun _ => s.slotBytes_length _) _ (by simp) bound, List.getElem_range]

theorem State.readoutOf_stationForm_roster (s : State) (h : Handle) (r : Station) (k : Fin 15) :
    (readoutOf (s.stationForm h r))[17 + k.val] =
      ((if r.topRelay then r.roster.getD [] else [])[k.val]?.map fun v => byteOf v.val).getD 0xFF :=
  (readoutOf_append_getElem rfl _).trans (by simp [k.isLt])

theorem State.readoutOf_connectionForm_slot (s : State) (i : Index) (c : Connection) (j : Fin 15) :
    (readoutOf (s.connectionForm i c))[17 + j.val] = byteOf (c.slotList[j.val]?.getD 0) :=
  (readoutOf_append_getElem rfl _).trans (List.getD_map ..)

/-- Settles O49: the lists of the forms have lemmas of their own; every other byte is read off its form, and is then the
named field as a byte. -/
theorem formsHoldTheirFields : Obligations.FormsHoldTheirFields := by
  refine ⟨?station, ?connection, ?slots, ?queue, ?deny, ?policy⟩
  case station =>
    intro s h r w top roster originated parties
    have rosterOf : (if r.topRelay then r.roster.getD [] else []) = roster := if_congr r.topRelay_iff rfl rfl
    have listed (k : Fin 15) : w[17 + k.val] = (roster[k.val]?.map fun v => byteOf v.val).getD 0xFF :=
      rosterOf ▸ s.readoutOf_stationForm_roster h r k
    simp only [listed]
    simp only [w, readoutOf_getElem, State.stationForm, numberBytes, List.cons_append, List.nil_append,
      List.getD_cons_succ, List.getD_cons_zero]
    refine ⟨rfl, append_numberBytes _, ?flags, rfl, rfl, ?via, rfl, ?state, rfl, ?usage, ?parties, ?generation,
      ?deadline, congrArg (fun l => byteOf l.length) rosterOf, fun k => ?entry⟩
    case flags => simp only [flagBits_eq_ofNat, decide_eq_true_eq, r.isSome_ite_topRelay, top]
    case via => cases r.via <;> rfl
    case state => cases r.state <;> rfl
    case usage => exact congrArg byteOf (s.usage_eq_sum_filter h)
    case parties => exact congrArg byteOf (s.partyCount_eq_length_filter h)
    case generation => exact r.apply_ite_topRelay r.generation (·.getD 0)
    case deadline => exact r.apply_ite_topRelay r.deadline fun d => byteOf ((d.map (·.remaining)).getD 0)
    case entry => cases roster[k.val]? <;> rfl
  case connection =>
    intro s i k w
    have listed (j : Fin 15) : w[17 + j.val] = byteOf (k.slotList[j.val]?.getD 0) :=
      s.readoutOf_connectionForm_slot i k j
    simp only [listed]
    simp only [w, readoutOf_getElem, State.connectionForm, numberBytes, List.cons_append, List.nil_append,
      List.getD_cons_succ, List.getD_cons_zero]
    refine ⟨Reference.byte_eq_ofNat _, ?state, flagBits_eq_ofNat .., rfl, rfl, fun x originator => ?originator,
      fun x answerer => ?answerer, rfl, rfl, rfl, rfl, fun _ => rfl⟩
    case state => cases k.state <;> rfl
    case originator => rw [append_numberBytes, State.numberOf_of_station originator]
    case answerer => rw [append_numberBytes, State.numberOf_of_station answerer]
  case slots =>
    intro s group k _ w reference
    have first : w[2 * k.val] = _ := s.readoutOf_slotForm_getElem group k (j := 0) (by decide)
    have second : w[2 * k.val + 1] = _ := s.readoutOf_slotForm_getElem group k (by decide)
    have named (i : Index) : (s.referenceOf i).byte = reference i := Reference.byte_eq_ofNat _
    rw [first, second]
    unfold State.slotBytes
    rcases s.slot (2 + 16 * group + k.val) with _ | _ | ⟨_ | i, _⟩ | i | i
    all_goals simp only [SlotRecord.owner, SlotRecord.code, Option.isSome_some, Option.map_some, Option.map_none,
      Option.getD_some, Option.getD_none, List.getD_cons_succ, List.getD_cons_zero]
    case some.free | some.guard.none => rfl
    all_goals exact congrArg₂ Prod.mk (by decide) (named i)
  case queue =>
    intro s position e x source w
    simp only [w, readoutOf_getElem, State.queueForm, numberBytes, List.cons_append, List.nil_append,
      List.getD_cons_succ, List.getD_cons_zero]
    exact ⟨rfl, rfl, rfl, (append_numberBytes _).trans (State.numberOf_of_station source), rfl,
      append_numberBytes _, rfl, rfl, flagBits_eq_ite _, rfl, rfl, fun _ low _ => List.getD_eq_default _ _ low⟩
  case deny =>
    intro position entries e w
    simp only [w, readoutOf_getElem, denyForm, numberBytes, List.cons_append, List.nil_append,
      List.getD_cons_succ, List.getD_cons_zero]
    exact ⟨rfl, rfl, append_numberBytes _, trivial, rfl, fun _ low _ => List.getD_eq_default _ _ low⟩
  case policy =>
    intro s k w v p
    simp only [v, w, readoutOf_getElem, State.policyForm, State.timingForm, List.getD_cons_succ, List.getD_cons_zero]
    exact ⟨rfl, rfl, rfl, rfl, rfl, flagBits_eq_ite _, rfl, rfl,
      fun _ low _ => List.getD_eq_default _ _ low, rfl, rfl,
      fun _ low _ => List.getD_eq_default _ _ low⟩

end Sys2Proof.Machine
end

section
/-! The queue of waiting commands is left alone by the cascade, the walks and the shapes of an event (R36, R57, R83, R107). -/

namespace Sys2Proof.Machine

set_option Elab.async false -- one proof at a time: waiting proofs would hold a thread each

/-! ### Service passes, runs of operations and the cascade (R54, R83) -/

theorem State.Steady.pending {s t : State} (steady : s.Steady t) : t.pending = s.pending := by
  rw [steady.frame]

/-- A run of operations that leave the waiting commands alone leaves them alone. -/
theorem State.foldl_pending {α : Type} (s : State) (f : State → α → State)
    (each : ∀ t a, (f t a).pending = t.pending) (list : List α) : (list.foldl f s).pending = s.pending :=
  foldl_keeps s (·.pending = s.pending) f (fun t a before => (each t a).trans before) list rfl

@[simp] theorem State.servicePasses_pending (s : State) (n : Nat) : (s.servicePasses n).pending = s.pending :=
  (s.steady_servicePasses n).pending

@[simp] theorem State.servicePass_pending (s : State) : s.servicePass.pending = s.pending := s.servicePasses_pending 1

@[simp] theorem State.removeConnection_pending (s : State) (i : Index) (c : Connection) (a b : Option DownBody) :
    (s.removeConnection i c a b).pending = s.pending := (s.steady_removeConnection i c a b).pending

@[simp] theorem State.place_pending (s : State) (i : Index) (c : Connection) : (s.place i c).pending = s.pending :=
  (s.steady_place i c).pending

/-- The cascade leaves the waiting commands alone where what its cause does leaves them alone. -/
theorem State.cascade_pending (s : State) (set deleted : List Handle) (reason : Reason) {after : State → State}
    (cause : ∀ t : State, (after t).pending = t.pending) :
    (s.cascade set deleted reason after).pending = s.pending := by
  have deletes : ((s.cutOff set reason).deleteStations deleted).pending = (s.cutOff set reason).pending :=
    State.foldl_pending _ _ (fun t h => t.deleteStation_pending h) deleted
  calc (s.cascade set deleted reason after).pending
    _ = (after ((s.cutOff set reason).deleteStations deleted)).pending := State.servicePasses_pending _ _
    _ = (s.cutOff set reason).pending := (cause _).trans deletes
    _ = s.pending := (s.steady_cutOff set reason).pending

@[simp] theorem State.evictStation_pending (s : State) (h : Handle) (r : Station) (reason : Reason) :
    (s.evictStation h r reason).pending = s.pending := by
  refine s.cascade_pending _ _ _ fun t => ?_
  rw [State.offer_pending]
  unfold State.shortenRoster
  split <;> simp

/-! ### The walks and their expiries (R36, R57, R107) -/

@[simp] theorem State.walkConnections_pending (s : State) (list : List Index) :
    (s.walkConnections list).pending = s.pending := by
  induction list generalizing s with
  | nil => rfl
  | cons i rest ih =>
    unfold State.walkConnections
    split
    · exact ih s
    split
    · exact ih s
    split
    · dsimp only
      split
      · rfl
      · exact ih _
    · exact ih s

@[simp] theorem State.walkEntries_pending (s : State) (list : List Entry) (position : Nat) :
    (s.walkEntries list position).pending = s.pending := by
  induction list generalizing s position with
  | nil => rfl
  | cons e rest ih =>
    unfold State.walkEntries
    split
    · dsimp only
      split
      · rfl
      · exact ih _ _
    · exact ih s _

@[simp] theorem State.walkRelays_pending (s : State) (list : List Handle) : (s.walkRelays list).pending = s.pending := by
  induction list generalizing s with
  | nil => rfl
  | cons h rest ih =>
    unfold State.walkRelays
    split
    · exact ih s
    split
    · exact ih s
    split
    · dsimp only
      split
      · rfl
      · exact ih _
    · exact ih s

@[simp] theorem State.expireConnection_pending (s : State) (i : Index) : (s.expireConnection i).pending = s.pending := by
  unfold State.expireConnection
  split
  · rfl
  · split <;> simp

@[simp] theorem State.timeOutEntry_pending (s : State) (position : Nat) :
    (s.timeOutEntry position).pending = s.pending := by
  unfold State.timeOutEntry
  split <;> simp

@[simp] theorem State.expireRelay_pending (s : State) (h : Handle) : (s.expireRelay h).pending = s.pending := by
  unfold State.expireRelay
  split <;> simp

@[simp] theorem State.takeDue_pending (s : State) : s.takeDue.pending = s.pending := by
  unfold State.takeDue
  split
  · rfl
  · exact (State.walkConnections_pending ..).trans (s.expireConnection_pending _)
  · exact (State.walkEntries_pending ..).trans (s.timeOutEntry_pending _)
  · exact (State.walkRelays_pending ..).trans (s.expireRelay_pending _)

/-- A part with the waiting commands of another still has them when an expiry is taken. -/
theorem State.takeDue_keeps_pending (s t : State) (before : t.pending = s.pending) : t.takeDue.pending = s.pending :=
  t.takeDue_pending.trans before

@[simp] theorem State.settled_pending (s : State) : s.settled.pending = s.pending :=
  s.settled_keeps (·.pending = s.pending) s.takeDue_keeps_pending rfl

/-! ### How an event leaves the waiting commands alone -/

theorem State.event_pending (s : State) {f : State → State} (work : ∀ t : State, (f t).pending = t.pending) :
    (s.event f).pending = s.pending :=
  s.event_keeps (·.pending = s.pending) s.takeDue_keeps_pending f (fun t before => (work t).trans before) rfl

theorem State.lineEvent_pending (s : State) (change : Pins → Pins) {f : State → State}
    (work : ∀ t : State, (f t).pending = t.pending) : (s.lineEvent change f).pending = s.pending :=
  s.lineEvent_keeps (·.pending = s.pending) s.takeDue_keeps_pending (fun _ _ => id) change f
    (fun t before => (work t).trans before) rfl

theorem State.message_pending (s : State) (command : Instr) {f : State → State}
    (work : ∀ t : State, (f t).pending = t.pending) : (s.message command f).pending = s.pending :=
  s.event_pending fun t => work { t with handedOn := t.handedOn.erase command }

theorem State.resolve_pending (s : State) (drop : Drop) (source : StationNumber) (tag : Option Tag)
    (reference : Option Reference) {owner : Handle → Station → State → State}
    (work : ∀ h r (t : State), (owner h r t).pending = t.pending) :
    (s.resolve drop source tag reference owner).pending = s.pending :=
  s.resolve_keeps (·.pending = s.pending) (fun t m before => (t.offer_pending m).trans before) drop source tag reference
    owner (fun h r t before => (work h r t).trans before) rfl

theorem State.onReference_pending (s : State) (reference : Reference) {f : Connection → Role → Handle → State → State}
    (work : ∀ c role h (t : State), (f c role h t).pending = t.pending) (h : Handle) (r : Station) :
    (s.onReference reference f h r).pending = s.pending :=
  s.onReference_keeps (·.pending = s.pending) (fun t k body before => (t.tell_pending k body).trans before) reference f
    (fun c role k _ => work c role k s) h r rfl

end Sys2Proof.Machine
end

section
/-! The queue of waiting commands is left alone by the work of every block. -/

namespace Sys2Proof.Machine

set_option Elab.async false -- one proof at a time: waiting proofs would hold a thread each

/-! ### Boundaries and frames (R1, R2, R15, R16, R149 to R152) -/

@[simp] theorem State.completeEarmark_pending (s : State) (i : Index) : (s.completeEarmark i).pending = s.pending := by
  unfold State.completeEarmark
  split
  · rfl
  split
  · exact (State.tell_pending ..).trans rfl
  · rfl

@[simp] theorem State.takeOwedGuardEnd_pending (s : State) : s.takeOwedGuardEnd.pending = s.pending := by
  have completed (t : State) (list : List Index) := t.foldl_pending _ State.completeEarmark_pending list
  unfold State.takeOwedGuardEnd State.takeGuardEnd
  split
  · dsimp only
    split <;> simp [completed]
  · rfl

@[simp] theorem State.takeOwedLeaseWalk_pending (s : State) : s.takeOwedLeaseWalk.pending = s.pending := by
  unfold State.takeOwedLeaseWalk
  split <;> simp

@[simp] theorem State.takeOwedQueueWalk_pending (s : State) : s.takeOwedQueueWalk.pending = s.pending := by
  unfold State.takeOwedQueueWalk
  split <;> simp

@[simp] theorem State.takeOwedRosterWalk_pending (s : State) : s.takeOwedRosterWalk.pending = s.pending := by
  unfold State.takeOwedRosterWalk
  split <;> simp

@[simp] theorem State.depart_pending (s : State) : s.depart.pending = s.pending := by
  unfold State.depart State.issueSync
  split
  · split <;> rfl
  · rfl

@[simp] theorem State.finishFrame_pending (s : State) : s.finishFrame.pending = s.pending := by
  unfold State.finishFrame
  simp only [State.settled_pending, State.takeOwedRosterWalk_pending, State.takeOwedQueueWalk_pending,
    State.takeOwedLeaseWalk_pending, State.takeOwedGuardEnd_pending]
  split <;> simp

@[simp] theorem State.startFrame_pending (s : State) : s.startFrame.pending = s.pending := by
  simp only [State.startFrame, State.chooseWord_eq]

@[simp] theorem State.endCause_pending (s : State) (left : Hold) : (s.endCause left).pending = s.pending := by
  unfold State.endCause
  split
  · rfl
  · exact s.release.startFrame_pending

/-! ### The signalling channel (R137 to R142) -/

@[simp] theorem State.closeWindow_pending (s : State) : s.closeWindow.pending = s.pending := rfl

@[simp] theorem State.makeNak_pending (s : State) (d : Drop) (reason : Reason) (kind : BitVec 6) :
    (s.makeNak d reason kind).pending = s.pending := by
  simp [State.makeNak]

@[simp] theorem State.considerGrant_pending (s : State) : s.considerGrant.pending = s.pending := by
  unfold State.considerGrant
  split <;> rfl

@[simp] theorem State.judgeHeader_pending (s : State) (d : Drop) (word : Word) :
    (s.judgeHeader d word).pending = s.pending := by
  simp only [State.judgeHeader]
  split
  · rfl
  split
  · rfl
  · simp

@[simp] theorem State.judgeMessage_pending (s : State) (d : Drop) (words : List Word) :
    (s.judgeMessage d words).pending = s.pending := by
  simp only [State.judgeMessage]
  split
  · split <;> simp
  · simp

@[simp] theorem State.takeWord_pending (s : State) (d : Drop) (expected : Nat) (words : List Word) (word : Word) :
    (s.takeWord d expected words word).pending = s.pending := by
  simp only [State.takeWord]
  split <;> simp

/-! ### ATTACH, DETACH and presence loss (R76 to R82) -/

@[simp] theorem State.departWithSubtree_pending (s : State) (h : Handle) (r : Station) :
    (s.departWithSubtree h r).pending = s.pending := s.cascade_pending _ _ _ fun _ => rfl

@[simp] theorem State.losePresence_pending (s : State) (drop : Drop) : (s.losePresence drop).pending = s.pending :=
  s.cascade_pending _ _ _ fun _ => rfl

@[simp] theorem State.addStation_pending (s : State) (h : Handle) (r : Station) :
    (s.addStation h r).pending = s.pending := rfl

@[simp] theorem State.admitByAttach_pending (s : State) (drop : Drop) (number : StationNumber) (kind : StationKind)
    (cls : ClassNo) : (s.admitByAttach drop number kind cls).pending = s.pending := by
  unfold State.admitByAttach
  split <;> simp

theorem State.takeAttach_pending (s : State) (drop : Drop) (number : StationNumber) (kind : StationKind) (cls : ClassNo) :
    (s.takeAttach drop number kind cls).pending = s.pending := by
  unfold State.takeAttach
  split
  · refine (State.offer_pending ..).trans ?_
    split <;> rfl
  · split <;> simp

theorem State.takeDetach_pending (h : Handle) (r : Station) (s : State) : (s.takeDetach h r).pending = s.pending := by
  unfold State.takeDetach
  split
  · exact s.departWithSubtree_pending h r
  · exact s.tell_pending ..

/-! ### REQUEST (R26 to R28, R52, R53, R66) -/

@[simp] theorem State.insertAndTell_pending (s : State) (e : Entry) : (s.insertAndTell e).pending = s.pending :=
  State.tell_pending ..

@[simp] theorem State.refuseNoSlots_pending (s : State) (e : Entry) : (s.refuseNoSlots e).pending = s.pending :=
  s.refuseEntry_pending ..

@[simp] theorem State.joinQueue_pending (s : State) (e : Entry) : (s.joinQueue e).pending = s.pending := by
  unfold State.joinQueue
  split
  · simp
  split
  · simp
  split
  · simp
  · split <;> simp

@[simp] theorem State.preempt_pending (s : State) (victims : List (Index × Connection)) (source peer : Handle)
    (cls : ClassNo) (width : Nat) (tag : Tag) : (s.preempt victims source peer cls width tag).pending = s.pending := by
  cases unused : (s.endVictims victims).unusedIndex with
  | none => rw [State.preempt_of_full unused]
  | some i =>
    have ended : (s.endVictims victims).pending = s.pending := by rw [State.endVictims_frame]
    rw [State.preempt_of_unused unused, State.preemptMessages_eq_offerAll]
    exact (State.foldl_pending _ _ State.offer_pending _).trans ended

@[simp] theorem State.serveRequest_pending (s : State) (h : Handle) (peer : StationNumber) (p : Handle) (cls : ClassNo)
    (contiguous : Bool) (width : Nat) (tag : Tag) :
    (s.serveRequest h peer p cls contiguous width tag).pending = s.pending := by
  simp only [State.serveRequest, State.handOn]
  split
  · simp
  split
  · split <;> simp
  · simp

theorem State.takeRequest_pending (peer : StationNumber) (cls : ClassNo) (contiguous : Bool) (width : Nat) (tag : Tag)
    (h : Handle) (r : Station) (s : State) : (s.takeRequest peer cls contiguous width tag h r).pending = s.pending := by
  unfold State.takeRequest
  split
  · simp
  · split <;> simp

/-! ### Messages that name a reference, QUERY and CANCEL (R30 to R35, R43, R59) -/

@[simp] theorem State.refuseNamed_pending (s : State) (h : Handle) (reference : Reference) (reason : Reason) :
    (s.refuseNamed h reference reason).pending = s.pending := s.tell_pending ..

@[simp] theorem State.sendGrants_pending (s : State) (i : Index) (c : Connection) :
    (s.sendGrants i c).pending = s.pending := (State.tell_pending ..).trans (s.tell_pending ..)

@[simp] theorem State.activate_pending (s : State) (i : Index) (c : Connection) :
    (s.activate i c).pending = s.pending := State.sendGrants_pending ..

@[simp] theorem State.grantLease_pending (s : State) (i : Index) (c : Connection) :
    (s.grantLease i c).pending = s.pending := State.tell_pending ..

@[simp] theorem State.turnDown_pending (s : State) (i : Index) (c : Connection) :
    (s.turnDown i c).pending = s.pending := by
  simp [State.turnDown]

theorem State.takeAccept_pending (reference : Reference) (c : Connection) (role : Role) (h : Handle) (s : State) :
    (s.takeAccept reference c role h).pending = s.pending := by
  unfold State.takeAccept
  split <;> simp

theorem State.takeDecline_pending (reference : Reference) (c : Connection) (role : Role) (h : Handle) (s : State) :
    (s.takeDecline reference c role h).pending = s.pending := by
  unfold State.takeDecline
  split <;> simp

theorem State.takeRenew_pending (reference : Reference) (c : Connection) (role : Role) (h : Handle) (s : State) :
    (s.takeRenew reference c role h).pending = s.pending := by
  unfold State.takeRenew
  split <;> simp

theorem State.takeRelease_pending (reference : Reference) (c : Connection) (role : Role) (h : Handle) (s : State) :
    (s.takeRelease reference c role h).pending = s.pending := by
  simp only [State.takeRelease]
  split
  case h_5 | h_6 => split <;> simp
  all_goals simp

theorem State.takeQuery_pending (h : Handle) (r : Station) (s : State) : (s.takeQuery h r).pending = s.pending :=
  (State.tell_pending ..).trans (s.foldl_pending _ (fun t body => t.tell_pending h body) _)

theorem State.takeCancel_pending (tag : Tag) (h : Handle) (r : Station) (s : State) :
    (s.takeCancel tag h r).pending = s.pending := by
  unfold State.takeCancel
  split
  · simp
  split
  · simp
  · split <;> simp

/-! ### Rosters (R92 to R106) -/

theorem State.fromTopRelay_pending {f : Handle → Station → State → State}
    (work : ∀ h r (t : State), (f h r t).pending = t.pending) (h : Handle) (r : Station) (s : State) :
    (s.fromTopRelay f h r).pending = s.pending := by
  unfold State.fromTopRelay
  split
  · exact work h r s
  · exact s.tell_pending ..

@[simp] theorem State.rejectRoster_pending (s : State) (h : Handle) (generation : Byte) (reason : Reason) :
    (s.rejectRoster h generation reason).pending = s.pending := s.tell_pending ..

@[simp] theorem State.rejectContent_pending (s : State) (h : Handle) (r : Station) (generation : Byte) (reason : Reason) :
    (s.rejectContent h r generation reason).pending = s.pending :=
  State.cascade_pending _ _ _ _ fun _ => State.rejectRoster_pending ..

theorem State.beginRoster_pending (generation : Byte) (count depth : Nat) (depthExceeded countExceeded : Bool) (h : Handle)
    (r : Station) (s : State) :
    (s.beginRoster generation count depth depthExceeded countExceeded h r).pending = s.pending := by
  unfold State.beginRoster
  split
  · simp
  · split <;> simp

theorem State.partRoster_pending (partIndex : Nat) (entries : List RosterEntry) (h : Handle) (r : Station) (s : State) :
    (s.partRoster partIndex entries h r).pending = s.pending := by
  unfold State.partRoster
  split
  · exact s.tell_pending ..
  split
  · simp
  · split <;> simp

theorem State.keepEntry_pending (s : State) (relay : Handle) (e : RosterEntry) :
    (s.keepEntry relay e).pending = s.pending := by
  unfold State.keepEntry
  split
  · rfl
  · split <;> rfl

theorem State.admitEntry_pending (s : State) (relay : Handle) (r : Station) (e : RosterEntry) :
    (s.admitEntry relay r e).pending = s.pending := by
  unfold State.admitEntry
  split <;> rfl

@[simp] theorem State.acceptRelay_pending (s : State) (h : Handle) (r : Station) (a : Assembly) :
    (s.acceptRelay h r a).pending = s.pending := by
  rw [State.acceptRelay_frame]

@[simp] theorem State.acceptRoster_pending (s : State) (h : Handle) (r : Station) (a : Assembly) :
    (s.acceptRoster h r a).pending = s.pending := by
  have kept (t : State) := t.foldl_pending (State.keepEntry h) (fun u e => u.keepEntry_pending h e)
  have admitted (t : State) := t.foldl_pending (State.admitEntry h r) (fun u e => u.admitEntry_pending h r e)
  exact s.cascade_pending _ _ _ fun t => by simp [kept, admitted]

@[simp] theorem State.hitEntries_pending (s : State) (entries : List RosterEntry) :
    (s.hitEntries entries).pending = s.pending :=
  s.foldl_pending (fun t (e : RosterEntry) => t.hit e.number) (fun _ _ => rfl) _

theorem State.endRoster_pending (generation : Byte) (h : Handle) (r : Station) (s : State) :
    (s.endRoster generation h r).pending = s.pending := by
  unfold State.endRoster
  split
  · simp
  split
  · simp
  split
  · simp
  · refine (State.rejectContent_pending ..).trans ?_
    split <;> simp

/-! ### The Host Port (R167 to R174) -/

@[simp] theorem State.takeAddress_pending (s : State) (byte : Byte) : (s.takeAddress byte).pending = s.pending := by
  obtain ⟨-, same⟩ | ⟨-, _, -, same⟩ | ⟨-, same⟩ := s.takeAddress_cases byte <;> rw [same]

theorem State.writeCommand_pending (s : State) (code : Byte) : (s.writeCommand code).pending = s.pending := by
  unfold State.writeCommand
  split
  · split <;> rfl
  · rfl

@[simp] theorem State.writeLocation_pending (s : State) (a : BitVec 6) (value : Byte) :
    (s.writeLocation a value).pending = s.pending := by
  unfold State.writeLocation
  split
  · exact s.writeCommand_pending value
  · repeat' split
    all_goals rfl

@[simp] theorem State.dataByte_pending (s : State) (value : Byte) : (s.dataByte value).pending = s.pending := by
  obtain ⟨a, -, same⟩ | ⟨a, -, same⟩ | ⟨a, -, same⟩ | ⟨-, -, same⟩ := s.dataByte_cases value <;> rw [same] <;> simp

@[simp] theorem State.firstByte_pending (s : State) (address value : Byte) :
    (s.firstByte address value).pending = s.pending := by
  simp [State.firstByte]

theorem State.hostCommand_pending (s : State) (code : Byte) {take : State → State}
    (work : ∀ t : State, (take t).pending = t.pending) : (s.hostCommand code take).pending = s.pending :=
  s.hostCommand_keeps (·.pending = s.pending) s.takeDue_keeps_pending
    (fun t address value before => (t.firstByte_pending address value).trans before) code take
    (fun t before => (work t).trans before) rfl

theorem State.runCommand_pending (s : State) (code : Byte) {work : State → Work}
    (done : ∀ t : State, (work t).part.pending = t.pending) :
    (s.hostCommand code (State.runCommand work)).pending = s.pending := s.hostCommand_pending code done

/-- A command that reads changes no record. -/
theorem State.readCommand_pending (s : State) (code : Byte) {work : State → Work} (reads : ∀ t, (work t).part = t) :
    (s.hostCommand code (State.runCommand work)).pending = s.pending :=
  s.runCommand_pending code fun t => congrArg State.pending (reads t)

/-! ### Highway Control (R157 to R166) -/

theorem State.openWork_pending (s : State) : s.openWork.part.pending = s.pending := by
  unfold State.openWork
  split
  · rfl
  · exact State.broadcast_pending ..
  · exact State.broadcast_pending ..

theorem State.drainWork_pending (waitQueueFirst : Bool) (s : State) :
    (s.drainWork waitQueueFirst).part.pending = s.pending := by
  unfold State.drainWork
  split
  · rfl
  · rfl
  · have told := State.broadcast_highway { s with highway := .draining } (.highwayState .draining)
    dsimp only [State.done]
    rw [State.drain_eq told]
    exact (State.foldl_pending _ _ State.offer_pending _).trans (State.broadcast_pending ..)

theorem State.closeWork_pending (s : State) : s.closeWork.part.pending = s.pending :=
  (congrArg State.pending s.closeHighway_eq :)

/-! ### Commands that administer (R39 to R41, R86, R88, R115 to R129) -/

@[simp] theorem State.evictNumber_pending (s : State) (n : StationNumber) (reason : Reason) :
    (s.evictNumber n reason).pending = s.pending := by
  unfold State.evictNumber
  split <;> simp

theorem State.denyAddWork_pending (s : State) : s.denyAddWork.part.pending = s.pending := by
  simp only [State.denyAddWork]
  split
  · rfl
  split
  · rfl
  split
  · rfl
  · simp

theorem State.denyRemoveWork_pending (s : State) : s.denyRemoveWork.part.pending = s.pending := by
  simp only [State.denyRemoveWork]
  split <;> rfl

theorem State.evictWork_pending (s : State) : s.evictWork.part.pending = s.pending := by
  unfold State.evictWork
  split
  · rfl
  · simp

theorem State.setQuotaWork_pending (s : State) : s.setQuotaWork.part.pending = s.pending := by
  simp only [State.setQuotaWork]
  split
  · rfl
  · split <;> simp

theorem State.pinParties_pending (s : State) (originator answerer : Handle × Station) (cls : ClassNo) (slots : List Nat) :
    (s.pinParties originator answerer cls slots).part.pending = s.pending := by
  unfold State.pinParties
  split
  · rfl
  split
  · rfl
  split
  · rfl
  split
  · exact State.sendGrants_pending ..
  · rfl

theorem State.pinWork_pending (s : State) : s.pinWork.part.pending = s.pending := by
  unfold State.pinWork
  split
  · split
    · rfl
    split
    · rfl
    split
    · exact s.pinParties_pending ..
    · rfl
  · rfl

theorem State.unpinWork_pending (s : State) : s.unpinWork.part.pending = s.pending := by
  unfold State.unpinWork
  split
  · rfl
  split
  · exact s.grantLease_pending ..
  · rfl

theorem State.forceReleaseWork_pending (s : State) : s.forceReleaseWork.part.pending = s.pending := by
  unfold State.forceReleaseWork
  split
  · rfl
  · simp

theorem State.setPolicyWork_pending (s : State) : s.setPolicyWork.part.pending = s.pending := by
  unfold State.setPolicyWork
  split
  · split <;> simp
  · rfl

theorem State.setTimingWork_pending (s : State) : s.setTimingWork.part.pending = s.pending := by
  unfold State.setTimingWork
  split <;> rfl

end Sys2Proof.Machine
end

section
/-! The step takes the front command, and every command completes and leaves the rest of the queue alone. -/

namespace Sys2Proof.Machine

set_option Elab.async false -- one proof at a time: waiting proofs would hold a thread each

/-- No command faults or is refused. -/
theorem exec_completes (c : Instr) (s : State) : ∃ t, exec c s = .next t := by
  cases c <;> exact ⟨_, rfl⟩

/-- The owner of a station message leaves the waiting commands alone. -/
theorem messageOwner_pending (c : Instr) (h : Handle) (r : Station) (s : State) :
    (messageOwner c h r s).pending = s.pending := by
  cases c
  case detach => exact s.takeDetach_pending h r
  case request peer cls contiguous width tag => exact s.takeRequest_pending peer cls contiguous width.val tag h r
  case accept reference => exact s.onReference_pending reference (State.takeAccept_pending reference) h r
  case decline reference => exact s.onReference_pending reference (State.takeDecline_pending reference) h r
  case renew reference => exact s.onReference_pending reference (State.takeRenew_pending reference) h r
  case release reference => exact s.onReference_pending reference (State.takeRelease_pending reference) h r
  case query => exact s.takeQuery_pending h r
  case cancel tag => exact s.takeCancel_pending tag h r
  case rosterBegin generation count depth depthExceeded countExceeded =>
    exact s.fromTopRelay_pending
      (State.beginRoster_pending generation count.val depth.val depthExceeded countExceeded) h r
  case rosterPart partIndex entries => exact s.fromTopRelay_pending (State.partRoster_pending partIndex.val entries) h r
  case rosterEnd generation => exact s.fromTopRelay_pending (State.endRoster_pending generation) h r
  all_goals rfl

/-- Every station message but ATTACH leaves the waiting commands alone (R74). -/
theorem exec_pending_of_sourced {c : Instr} {drop : Drop} {n : StationNumber} {tag : Option Tag}
    {reference : Option Reference} (names : sourced c = some (drop, n, tag, reference)) {s t : State}
    (answered : exec c s = .next t) : t.pending = s.pending := by
  cases (exec_eq_resolve names s).symm.trans answered
  exact s.message_pending c fun u => u.resolve_pending drop n tag reference (messageOwner_pending c)

/-- Every command leaves the waiting commands alone. -/
theorem exec_pending {c : Instr} {s t : State} (answered : exec c s = .next t) : t.pending = s.pending := by
  cases c
  case detach | request | accept | decline | renew | release | query | cancel | rosterBegin | rosterPart | rosterEnd =>
    exact exec_pending_of_sourced rfl answered
  all_goals cases answered
  case attach => exact s.message_pending _ fun u => u.takeAttach_pending ..
  case powerUp | rstLow => rfl
  case rstHigh => split <;> simp
  case resetRelease =>
    split
    · simp
    split
    · exact s.release.startFrame_pending
    · rfl
  case frameStart =>
    split
    · simp
    split
    · rfl
    · exact s.release.startFrame_pending
  case uplinkGrant =>
    refine s.lineEvent_pending _ fun u => ?_
    split <;> simp
  case uplinkHeader | uplinkWord =>
    refine s.event_pending fun u => ?_
    split
    · split <;> simp
    · rfl
    · rfl
  case drqFall | dprFall =>
    refine s.lineEvent_pending _ fun u => ?_
    split <;> simp
  case dprRise => exact s.lineEvent_pending _ fun _ => rfl
  case presenceLoss drop => exact s.lineEvent_pending _ fun u => u.losePresence_pending drop
  case messageDeparture =>
    refine s.event_pending fun u => ?_
    split <;> simp
  case guardEnd => exact s.event_pending State.takeOwedGuardEnd_pending
  case leaseCountdownWalk => exact s.event_pending State.takeOwedLeaseWalk_pending
  case queueDeadlineWalk => exact s.event_pending State.takeOwedQueueWalk_pending
  case rosterDeadlineWalk => exact s.event_pending State.takeOwedRosterWalk_pending
  case leaseExpiry | answerExpiry | queueTimeout | rosterDeadlineExpiry => split <;> simp
  case spiReadCapture =>
    dsimp only
    split <;> simp
  case registerWrite => split <;> simp
  case notifyPendingWrite | notifyEnableWrite | commandCollision | unknownCommand => simp
  case commandCompletion =>
    refine s.event_pending fun u => ?_
    split <;> rfl
  case openHighway => exact s.runCommand_pending _ State.openWork_pending
  case drain waitQueueFirst => exact s.runCommand_pending _ (State.drainWork_pending waitQueueFirst)
  case close => exact s.runCommand_pending _ State.closeWork_pending
  case reset => exact s.hostCommand_pending _ fun _ => rfl
  case denyAdd => exact s.runCommand_pending _ State.denyAddWork_pending
  case denyRemove => exact s.runCommand_pending _ State.denyRemoveWork_pending
  case evict => exact s.runCommand_pending _ State.evictWork_pending
  case setQuota => exact s.runCommand_pending _ State.setQuotaWork_pending
  case pin => exact s.runCommand_pending _ State.pinWork_pending
  case unpin => exact s.runCommand_pending _ State.unpinWork_pending
  case forceRelease => exact s.runCommand_pending _ State.forceReleaseWork_pending
  case setPolicy => exact s.runCommand_pending _ State.setPolicyWork_pending
  case setTiming => exact s.runCommand_pending _ State.setTimingWork_pending
  case readStation => exact s.readCommand_pending _ State.part_readStationWork
  case readConnection => exact s.readCommand_pending _ State.part_readConnectionWork
  case readSlots => exact s.readCommand_pending _ State.part_readSlotsWork
  case readQueue => exact s.readCommand_pending _ State.part_readQueueWork
  case readDeny => exact s.readCommand_pending _ State.part_readDenyWork
  case readPolicy => exact s.readCommand_pending _ State.part_readPolicyWork

theorem step_of_idle {s : State} (idle : s.pending = []) : step s = .next s := by
  unfold step
  rw [idle]

/-- Settles O1: the two cases of the step, by the queue of waiting commands. -/
theorem stepTakesTheFrontCommand : Obligations.StepTakesTheFrontCommand := ⟨fun _ _ _ => rfl, fun _ => step_of_idle⟩

/-- Settles O2: each command answers a next state, and each block's work leaves the waiting commands alone. -/
theorem commandsLeaveTheQueue : Obligations.CommandsLeaveTheQueue := by
  intro c s
  obtain ⟨t, answered⟩ := exec_completes c s
  exact ⟨t, answered, exec_pending answered⟩

end Sys2Proof.Machine
end
